-- ==== Sys2Proof/Word.lean ====
section
/-! DEFINITION. The plainest value types of the HJ748: a byte of the serial link and a bell number. -/

namespace Sys2Proof

/-- One byte of the serial link (chapter 11). -/
abbrev Byte := BitVec 8

/-- A bell number, 0 to 47 ("Names" in 00_scope.md). -/
abbrev BellNo := Fin 48

end Sys2Proof
end

