-- ==== Sys2Proof/Syntax.lean ====
section
/-! DEFINITION. The commands of the HJ748: one constructor per row of spec/opcode_table.json. A request row carries the tag and the
payload fields in the order and coding of R171; an event row carries the inputs the part reads in that event. -/

namespace Sys2Proof

/-- One of the two players of the Play Engine (chapter 9). -/
inductive PlayerNo where
  | p0
  | p1
  deriving DecidableEq, Repr

/-- The fields of one four-byte event record of TUNE EVENTS (R177), decoded but not judged: the record can carry bells 0
to 63, dynamics 1 to 8 and nudges -64 to +63. -/
structure EventRec where
  step : Nat
  bell : Nat
  dynamic : Nat
  nudge : Int
  deriving DecidableEq, Repr

/-- The payload of PROGRAM SET after the slot number (R171), as the link carries it. -/
structure SlotWire where
  enabled : Nat
  second : Nat
  minute : Nat
  /-- Three bytes, hour 0 in the least significant bit. -/
  hours : Nat
  datePresent : Nat
  year : Nat
  month : Nat
  day : Nat
  /-- One byte, Monday in the least significant bit. -/
  weekdays : Nat
  kind : Nat
  tune : Nat
  tollBell : Nat
  tollDynamic : Nat
  tollInterval : Nat
  countMode : Nat
  n : Nat
  priority : Nat
  lateLimit : Nat
  deriving DecidableEq, Repr

/-- The payload of PLAY NOW (R171), as the link carries it. -/
structure PlayNowWire where
  kind : Nat
  tune : Nat
  tollBell : Nat
  tollDynamic : Nat
  tollInterval : Nat
  countMode : Nat
  n : Nat
  priority : Nat
  delay : Nat
  deriving DecidableEq, Repr

/-- The commands: requests, inputs and the part's own timed events. -/
inductive Instr where
  /-- POWER_ON: the logic supply is applied, the rate strap reading `strap` (high: true) (R162, R167). -/
  | powerOn (strap : Bool)
  /-- RESET_PIN: the reset pin is asserted (R162, R175). -/
  | resetPin (strap : Bool)
  /-- RESTART_MADE: the held or answered restart is made (R162, R175). -/
  | restartMade (strap : Bool)
  /-- END_OF_LOADING (R162). -/
  | endOfLoading
  /-- BYTE_RECEIVED: a byte on the link; `stopHigh` false is a framing error (R167). -/
  | byteReceived (value : Byte) (stopHigh : Bool)
  /-- INTER_BYTE_GAP_TIMEOUT (R167). -/
  | interByteGapTimeout
  /-- FRAME_DISCARDED (R168). -/
  | frameDiscarded
  /-- UNKNOWN_KIND: a good frame of a kind that is no request kind (R169). -/
  | unknownKind (kind : Byte) (tag : Byte)
  /-- STATUS (R165). -/
  | status (tag : Byte)
  /-- SET MODE: ACTIVE is 0, SILENT is 1 (R160). -/
  | setMode (tag : Byte) (mode : Nat)
  /-- COMMISSION END (R161). -/
  | commissionEnd (tag : Byte)
  /-- RESTART (R175). -/
  | restart (tag : Byte)
  /-- SET TIME (R118). -/
  | setTime (tag : Byte) (year month day msOfDay : Nat)
  /-- GET TIME (R120). -/
  | getTime (tag : Byte)
  /-- BELL SET: pairs of field number (R1 in order from 0, lead16 as 14) and value (R13). -/
  | bellSet (tag : Byte) (bell : Nat) (fields : List (Nat × Nat))
  /-- BELL GET (R16). -/
  | bellGet (tag : Byte) (bell : Nat)
  /-- BELL SERVICE: WITHDRAW 0, RETURN 1, CLEAR FAULT 2 (R9). -/
  | bellService (tag : Byte) (bell : Nat) (action : Nat)
  /-- SETTINGS SET: pairs of setting number (rows of R164 in order from 0) and value. -/
  | settingsSet (tag : Byte) (fields : List (Nat × Nat))
  /-- SETTINGS GET (R164). -/
  | settingsGet (tag : Byte)
  /-- SAVE (R163). -/
  | save (tag : Byte)
  /-- TUNE OPEN (R101). -/
  | tuneOpen (tag : Byte) (tune stepLength anchorStep declared : Nat) (name : List Byte)
  /-- TUNE EVENTS (R102). -/
  | tuneEvents (tag : Byte) (tune first : Nat) (events : List EventRec)
  /-- TUNE CLOSE (R103). -/
  | tuneClose (tag : Byte) (tune count crc : Nat)
  /-- TUNE ABORT (R106). -/
  | tuneAbort (tag : Byte)
  /-- TUNE DELETE (R108). -/
  | tuneDelete (tag : Byte) (tune : Nat)
  /-- TUNE INFO (R110). -/
  | tuneInfo (tag : Byte) (tune : Nat)
  /-- TUNE LIST (R110). -/
  | tuneList (tag : Byte) (first : Nat)
  /-- PROGRAM SET (R137). -/
  | programSet (tag : Byte) (slot : Nat) (fields : SlotWire)
  /-- PROGRAM GET (R138). -/
  | programGet (tag : Byte) (slot : Nat)
  /-- PROGRAM CLEAR (R138). -/
  | programClear (tag : Byte) (slot : Nat)
  /-- PLAY NOW (R150). -/
  | playNow (tag : Byte) (fields : PlayNowWire)
  /-- STOP: scope ONE is 0, ALL is 1 (R151). -/
  | stop (tag : Byte) (scope playId : Nat)
  /-- PLAYS (R154). -/
  | plays (tag : Byte)
  /-- LIVE NOTE: time mode SOONEST is 0, ABSOLUTE is 1 (R153, R177). -/
  | liveNote (tag : Byte) (bell dynamic timeMode noteTime : Nat)
  /-- QUEUE (R43). -/
  | queue (tag : Byte)
  /-- TRANSMITTER_FRAME_END (R174). -/
  | transmitterFrameEnd
  /-- GRANTED_NOTE_OFFER (R32). -/
  | grantedNoteOffer
  /-- VOLLEY: `currents` is what each bell's current-sense input reads at the instant, in 0.05 A steps (R34, R35). -/
  | volley (currents : Vector Nat 48)
  /-- FIRST_CURRENT_SAMPLE: the reading in 0.05 A steps (R54). -/
  | firstCurrentSample (bell : BellNo) (reading : Nat)
  /-- DRIVE_END: the end sample in 0.05 A steps (R50). -/
  | driveEnd (bell : BellNo) (reading : Nat)
  /-- READY_TIME_RETURN (R51). -/
  | readyTimeReturn (bell : BellNo)
  /-- TEST_PULSE_END: the pulse's sample in 0.05 A steps (R90). -/
  | testPulseEnd (bell : BellNo) (reading : Nat)
  /-- SENSOR_SAMPLE: bit b is the level of bell b's strike sensor (R59). -/
  | sensorSample (levels : BitVec 48)
  /-- WINDOW_CLOSE (R63, R64). -/
  | windowClose (bell : BellNo)
  /-- COOLING_STEP (R72). -/
  | coolingStep
  /-- DRIVER_TEMPERATURE_READING: the board's temperature in whole degrees Celsius (R78). -/
  | driverTemperatureReading (celsius : Int)
  /-- SUPPLY_SAMPLE: the drive supply in 0.1 V units (R81). -/
  | supplySample (volts : Nat)
  /-- INTERVAL_TIMER_EXPIRY (R86). -/
  | intervalTimerExpiry
  /-- DIRECTORY_SWITCH (R105). -/
  | directorySwitch
  /-- COMMIT_FAILED (R104). -/
  | commitFailed
  /-- ERASE_END: whether the entry was erased (R108). -/
  | eraseEnd (erased : Bool)
  /-- SETTINGS_WRITE_END: whether the read-back matched (R163). -/
  | settingsWriteEnd (matched : Bool)
  /-- WALL_CLOCK_ADVANCE: one run ms passes (R112, R114). -/
  | wallClockAdvance
  /-- SLEW_INSTANT (R116). -/
  | slewInstant
  /-- MINUTE_PULSE_SAMPLE: the level of the minute-pulse input (R121). -/
  | minutePulseSample (high : Bool)
  /-- HORIZON_ARRIVAL of the next note of the play on a player (R146). -/
  | horizonArrival (player : PlayerNo)
  /-- CONSOLE_KEY_SAMPLE: the level of the console key input (R157). -/
  | consoleKeySample (high : Bool)
  deriving DecidableEq, Repr

end Sys2Proof
end

