-- ==== Sys2Proof/WellFormed.lean ====
section
/-! DEFINITION. When a command's operands are ones the part's inputs can carry: the byte counts of R171 and R177 for a request, the ranges of
R78 and R81 for an analogue input, and for UNKNOWN_KIND a kind that is no request kind (R169). A command outside them is no event of the part; its
meaning is still total. -/

namespace Sys2Proof

/-- The request codes of R171. -/
def requestCodes : List Nat :=
  [0x01, 0x02, 0x03, 0x04, 0x05, 0x06, 0x07, 0x08, 0x09, 0x0A, 0x0B, 0x0C, 0x10, 0x11, 0x12, 0x13, 0x14, 0x15, 0x16,
   0x18, 0x19, 0x1A, 0x1C, 0x1D, 0x1E, 0x1F, 0x20]

namespace WellFormed

/-- The value fits one byte. -/
def byte (n : Nat) : Bool := decide (n < 256)
/-- The value fits two bytes. -/
def word (n : Nat) : Bool := decide (n < 65536)
/-- The value fits three bytes. -/
def triple (n : Nat) : Bool := decide (n < 16777216)
/-- The value fits four bytes. -/
def quad (n : Nat) : Bool := decide (n < 4294967296)
/-- The value fits the six bytes of a run time. -/
def six (n : Nat) : Bool := decide (n < 281474976710656)

/-- The pairs of BELL SET and SETTINGS SET: one byte and two bytes each. -/
def pairs (l : List (Nat × Nat)) : Bool := l.all fun p => byte p.1 && word p.2

/-- A decoded event record lies in what its bits can carry (R177). -/
def eventRec (e : EventRec) : Bool :=
  word e.step && decide (e.bell < 64) && decide (1 ≤ e.dynamic ∧ e.dynamic ≤ 8) && decide (-64 ≤ e.nudge ∧ e.nudge ≤ 63)

/-- The bytes of a PROGRAM SET payload. -/
def slotWire (w : SlotWire) : Bool :=
  byte w.enabled && byte w.second && byte w.minute && triple w.hours && byte w.datePresent && word w.year && byte w.month &&
  byte w.day && byte w.weekdays && byte w.kind && byte w.tune && byte w.tollBell && byte w.tollDynamic && word w.tollInterval &&
  byte w.countMode && byte w.n && byte w.priority && word w.lateLimit

/-- The bytes of a PLAY NOW payload. -/
def playNowWire (w : PlayNowWire) : Bool :=
  byte w.kind && byte w.tune && byte w.tollBell && byte w.tollDynamic && word w.tollInterval && byte w.countMode && byte w.n &&
  byte w.priority && word w.delay

end WellFormed

open WellFormed in
/-- The command's operands are ones its event can carry. -/
def Instr.wellFormed : Instr → Bool
  | .powerOn _ => true
  | .resetPin _ => true
  | .restartMade _ => true
  | .endOfLoading => true
  | .byteReceived _ _ => true
  | .interByteGapTimeout => true
  | .frameDiscarded => true
  | .unknownKind k _ => !requestCodes.contains k.toNat
  | .status _ => true
  | .setMode _ m => byte m
  | .commissionEnd _ => true
  | .restart _ => true
  | .setTime _ y mo d ms => word y && byte mo && byte d && quad ms
  | .getTime _ => true
  | .bellSet _ b fs => byte b && pairs fs && decide (fs.length ≤ 82)
  | .bellGet _ b => byte b
  | .bellService _ b a => byte b && byte a
  | .settingsSet _ fs => pairs fs && decide (fs.length ≤ 82)
  | .settingsGet _ => true
  | .save _ => true
  | .tuneOpen _ t sl a d nm => byte t && word sl && word a && word d && decide (nm.length ≤ 240)
  | .tuneEvents _ t f es => byte t && word f && es.all eventRec && decide (es.length ≤ 61)
  | .tuneClose _ t c k => byte t && word c && word k
  | .tuneAbort _ => true
  | .tuneDelete _ t => byte t
  | .tuneInfo _ t => byte t
  | .tuneList _ t => byte t
  | .programSet _ s w => byte s && slotWire w
  | .programGet _ s => byte s
  | .programClear _ s => byte s
  | .playNow _ w => playNowWire w
  | .stop _ sc i => byte sc && byte i
  | .plays _ => true
  | .liveNote _ b d m t => byte b && byte d && byte m && six t
  | .queue _ => true
  | .transmitterFrameEnd => true
  | .grantedNoteOffer => true
  | .volley _ => true
  | .firstCurrentSample _ _ => true
  | .driveEnd _ _ => true
  | .readyTimeReturn _ => true
  | .testPulseEnd _ _ => true
  | .sensorSample _ => true
  | .windowClose _ => true
  | .coolingStep => true
  | .driverTemperatureReading c => decide (-40 ≤ c ∧ c ≤ 150)
  | .supplySample v => decide (v ≤ 1000)
  | .intervalTimerExpiry => true
  | .directorySwitch => true
  | .commitFailed => true
  | .eraseEnd _ => true
  | .settingsWriteEnd _ => true
  | .wallClockAdvance => true
  | .slewInstant => true
  | .minutePulseSample _ => true
  | .horizonArrival _ => true
  | .consoleKeySample _ => true

end Sys2Proof
end

