-- ==== Sys2Proof/Decode.lean ====
section
/-! DEFINITION. Reading a request from the payload of a received frame (R169, R171, R177), the four-byte event record both ways, and
`decodeTableWord`: no row of spec/opcode_table.json gives bits, so no word spells a command there. -/

namespace Sys2Proof

/-- A multi-byte number, high byte first (R171). -/
def bigEndian (bs : List Byte) : Nat := bs.foldl (fun n b => n * 256 + b.toNat) 0

/-- The four-byte event record of R177, decoded. -/
def decodeEvent (b0 b1 b2 b3 : Byte) : EventRec :=
  { step := bigEndian [b0, b1]
    bell := b2.toNat / 4
    dynamic := (b2.toNat % 4) * 2 + b3.toNat / 128 + 1
    nudge := if b3.toNat % 128 < 64 then ((b3.toNat % 128 : Nat) : Int) else ((b3.toNat % 128 : Nat) : Int) - 128 }

/-- The four-byte event record of R177, as the link carries it. -/
def encodeEvent (e : EventRec) : List Byte :=
  [BitVec.ofNat 8 (e.step / 256), BitVec.ofNat 8 e.step,
   BitVec.ofNat 8 (e.bell * 4 + (e.dynamic - 1) / 2),
   BitVec.ofNat 8 (((e.dynamic - 1) % 2) * 128 + (e.nudge % 128).toNat)]

/-- Groups of three bytes: a field number and its value (R171). -/
def decodePairs : List Byte → Option (List (Nat × Nat))
  | [] => some []
  | f :: h :: l :: rest => (decodePairs rest).map ((f.toNat, bigEndian [h, l]) :: ·)
  | _ => none

/-- Groups of four bytes: event records (R177). -/
def decodeEvents : List Byte → Option (List EventRec)
  | [] => some []
  | b0 :: b1 :: b2 :: b3 :: rest => (decodeEvents rest).map (decodeEvent b0 b1 b2 b3 :: ·)
  | _ => none

/-- PROGRAM SET's payload after the slot number. -/
def decodeSlotWire : List Byte → Option SlotWire
  | [en, sec, mi, h2, h1, h0, dp, y1, y0, mo, d, wd, k, t, tb, td, ti1, ti0, cm, n, pr, l1, l0] =>
    some { enabled := en.toNat, second := sec.toNat, minute := mi.toNat, hours := bigEndian [h2, h1, h0],
           datePresent := dp.toNat, year := bigEndian [y1, y0], month := mo.toNat, day := d.toNat, weekdays := wd.toNat,
           kind := k.toNat, tune := t.toNat, tollBell := tb.toNat, tollDynamic := td.toNat,
           tollInterval := bigEndian [ti1, ti0], countMode := cm.toNat, n := n.toNat, priority := pr.toNat,
           lateLimit := bigEndian [l1, l0] }
  | _ => none

/-- PLAY NOW's payload. -/
def decodePlayNowWire : List Byte → Option PlayNowWire
  | [k, t, tb, td, ti1, ti0, cm, n, pr, d1, d0] =>
    some { kind := k.toNat, tune := t.toNat, tollBell := tb.toNat, tollDynamic := td.toNat, tollInterval := bigEndian [ti1, ti0],
           countMode := cm.toNat, n := n.toNat, priority := pr.toNat, delay := bigEndian [d1, d0] }
  | _ => none

/-- The request a payload of a request kind spells; none when the payload's length does not fit the kind, which is BAD_LENGTH
(R169, the length column of R171). BELL SET and SETTINGS SET of whole pairs have a length of theirs, however many pairs; their owners refuse none, and a
field named twice (R13, R164; notes/assumptions/31.md). -/
def decodeRequest (kind : Nat) (tag : Byte) (p : List Byte) : Option Instr :=
  match kind, p with
  | 0x01, [] => some (.status tag)
  | 0x02, [m] => some (.setMode tag m.toNat)
  | 0x03, [] => some (.commissionEnd tag)
  | 0x04, [] => some (.restart tag)
  | 0x05, [y1, y0, mo, d, a, b, c, e] => some (.setTime tag (bigEndian [y1, y0]) mo.toNat d.toNat (bigEndian [a, b, c, e]))
  | 0x06, [] => some (.getTime tag)
  | 0x07, b :: rest => (decodePairs rest).map (.bellSet tag b.toNat)
  | 0x08, [b] => some (.bellGet tag b.toNat)
  | 0x09, [b, a] => some (.bellService tag b.toNat a.toNat)
  | 0x0A, p => (decodePairs p).map (.settingsSet tag)
  | 0x0B, [] => some (.settingsGet tag)
  | 0x0C, [] => some (.save tag)
  | 0x10, t :: s1 :: s0 :: a1 :: a0 :: d1 :: d0 :: nl :: name =>
    if name.length = nl.toNat then some (.tuneOpen tag t.toNat (bigEndian [s1, s0]) (bigEndian [a1, a0]) (bigEndian [d1, d0]) name)
    else none
  | 0x11, t :: f1 :: f0 :: rest =>
    match decodeEvents rest with
    | some es => if 1 ≤ es.length ∧ es.length ≤ 60 then some (.tuneEvents tag t.toNat (bigEndian [f1, f0]) es) else none
    | none => none
  | 0x12, [t, c1, c0, k1, k0] => some (.tuneClose tag t.toNat (bigEndian [c1, c0]) (bigEndian [k1, k0]))
  | 0x13, [] => some (.tuneAbort tag)
  | 0x14, [t] => some (.tuneDelete tag t.toNat)
  | 0x15, [t] => some (.tuneInfo tag t.toNat)
  | 0x16, [t] => some (.tuneList tag t.toNat)
  | 0x18, s :: rest => (decodeSlotWire rest).map (.programSet tag s.toNat)
  | 0x19, [s] => some (.programGet tag s.toNat)
  | 0x1A, [s] => some (.programClear tag s.toNat)
  | 0x1C, p => (decodePlayNowWire p).map (.playNow tag)
  | 0x1D, [sc, i] => some (.stop tag sc.toNat i.toNat)
  | 0x1E, [] => some (.plays tag)
  | 0x1F, [b, d, m, t5, t4, t3, t2, t1, t0] =>
    some (.liveNote tag b.toNat d.toNat m.toNat (bigEndian [t5, t4, t3, t2, t1, t0]))
  | 0x20, [] => some (.queue tag)
  | _, _ => none

/-- The command a table word spells: no row of the table gives bits, so none does. -/
def decodeTableWord (_nbits _w : Nat) : Option Instr := none

end Sys2Proof
end

