-- ==== Sys2Proof/Config.lean ====
section
/-! DEFINITION. The figures the manual fixes ("Figures used throughout" in 00_scope.md), each named once. -/

namespace Sys2Proof.Config

/-- Capacity of the Firing Queue (R19). -/
def queueCap : Nat := 64
/-- How many entry numbers there are: they are kept in 48 bits (R18). -/
def numberSpan : Nat := 281474976710656
/-- Capacity of the Report Queue (R173). -/
def reportCap : Nat := 32
/-- Capacity of the reply queue (R170). -/
def replyCap : Nat := 4
/-- Capacity of the Pending Play Queue (R143). -/
def waitingCap : Nat := 8
/-- The horizon in ms (R146). -/
def horizon : Int := 2000
/-- The prelaunch margin in ms (R128). -/
def prelaunch : Nat := 2000
/-- The late-start margin in ms (R145). -/
def lateStart : Nat := 500
/-- Greatest heat count (R70). -/
def heatMax : Nat := 65535
/-- Width ceiling in 0.1 ms units (R49). -/
def widthMax : Nat := 600
/-- Width of a test pulse in 0.1 ms units (R58). -/
def pulseWidth : Nat := 4
/-- Miss limit (R63). -/
def missLimit : Nat := 3
/-- Blocks of the event pool (R99). -/
def poolBlocks : Nat := 256
/-- Events in a pool block (R99). -/
def blockEvents : Nat := 32
/-- The least spacing of accepted minute pulses in ms (R122). -/
def pulseSpacing : Nat := 50000
/-- Greatest slew offset in ms (R123). -/
def slewMax : Int := 2000
/-- Wall ms in a day (R113). -/
def dayMs : Nat := 86400000
/-- The first wall instant past the range (R114): 36 525 days. -/
def rangeEnd : Nat := 3155760000000
/-- The inter-byte gap limit in 0.05 ms ticks: 20 ms (R167). -/
def gapTicks : Nat := 400
/-- Late limit of a PLAY NOW in seconds (R150). -/
def playNowLate : Nat := 60
/-- How many internal consequences one event may have before they are cut off. An event offers at most 2 048 notes
for each of the at most twelve plays the Play Engine keeps (R140), and ends or starts each at most once, so
the bound is never reached. -/
def settleFuel : Nat := 65536

end Sys2Proof.Config
end

