-- ==== Sys2Proof/Machine/State.lean ====
section
/-! DEFINITION. The state of the HJ748: everything its fifteen blocks own (block table of 00_scope.md), the non-volatile contents, and the queue of
commands that wait. Plain data. `State.reset` is the part right after power-on, with a factory-blank non-volatile store. -/

namespace Sys2Proof.Machine

open Sys2Proof

/-! ### Bells (chapters 1, 3, 4) -/

/-- The fault kinds of R6. -/
inductive FaultKind where
  | openCoil
  | short
  | noStrike
  deriving DecidableEq, Repr

/-- The service states of R6. -/
inductive Service where
  | inService
  | withdrawn
  | resting
  | faulted (kind : FaultKind)
  deriving DecidableEq, Repr

/-- The hammer states of R45: IDLE, DRIVE, RETURN. -/
inductive Hammer where
  | idle
  | drive
  | swing
  deriving DecidableEq, Repr

/-- An active settings record (R1). -/
structure Settings where
  recovery : Nat
  slack : Nat
  leadMin : Nat
  leadMax : Nat
  slope : Nat
  wMin : Nat
  wMax : Nat
  cls : Nat
  heatWarn : Nat
  heatRest : Nat
  heatRelease : Nat
  cooling : Nat
  substitute : Option BellNo
  learning : Bool
  deriving DecidableEq, Repr

/-- The defaults of R1. -/
def Settings.default : Settings :=
  { recovery := 250, slack := 20, leadMin := 20, leadMax := 250, slope := 16, wMin := 30, wMax := 150, cls := 2,
    heatWarn := 20000, heatRest := 40000, heatRelease := 12000, cooling := 8, substitute := none, learning := true }

/-- A pending settings record: exactly the fields named since the bell was last quiet (R14), lead16 among them. -/
structure Patch where
  recovery : Option Nat
  slack : Option Nat
  leadMin : Option Nat
  leadMax : Option Nat
  slope : Option Nat
  wMin : Option Nat
  wMax : Option Nat
  cls : Option Nat
  heatWarn : Option Nat
  heatRest : Option Nat
  heatRelease : Option Nat
  cooling : Option Nat
  substitute : Option (Option BellNo)
  learning : Option Bool
  lead16 : Option Nat
  deriving DecidableEq, Repr

/-- What a coil in DRIVE is driven for: a dispatched entry (the fields of R46) or a test pulse (R58). -/
inductive DriveKind where
  | strike (original : Option BellNo) (noteTime : Int) (dynamic playId : Nat)
  | testPulse
  deriving DecidableEq, Repr

/-- The drive record (R46, R58): start in run ms, width in 0.1 ms units, the class held, and whether the first current sample
has been taken. -/
structure Drive where
  kind : DriveKind
  start : Nat
  width : Nat
  cls : Nat
  sampled : Bool
  deriving DecidableEq, Repr

/-- The capture of a window, in q values (R62): the edge time, and the rising sample it came with, by which an early close tells whether it takes the
edge. -/
structure Capture where
  edge : Int
  rise : Nat
  deriving DecidableEq, Repr

/-- A capture window (R61). Times in q values. `rebound` is the rebound mark, none while clear: the rising sample of the edge that set it (R62). -/
structure Window where
  original : Option BellNo
  playId : Nat
  noteTime : Int
  dynamic : Nat
  start : Nat
  width : Nat
  openQ : Nat
  closeQ : Nat
  capture : Option Capture
  rebound : Option Nat
  deriving DecidableEq, Repr

/-- One bell: its record (chapter 1), its hammer and drive (R45, R46), its sensor filter and capture window (R59, R61) and its heat
count (R70). -/
structure Bell where
  settings : Settings
  pending : Option Patch
  lead16 : Nat
  lastDriveStart : Option Nat
  readyTime : Option Nat
  missRun : Nat
  verified : Bool
  lastVerified : Nat
  stale : Bool
  service : Service
  hammer : Hammer
  drive : Option Drive
  /-- The last five samples, newest first. -/
  sensorHist : List Bool
  sensorOut : Bool
  window : Option Window
  heat : Nat
  deriving DecidableEq, Repr

/-- A bell at a start and through LOADING (R17, R69, R85, R162). -/
def Bell.start : Bell :=
  { settings := Settings.default, pending := none, lead16 := 1280, lastDriveStart := none, readyTime := none, missRun := 0,
    verified := false, lastVerified := 0, stale := false, service := .inService, hammer := .idle, drive := none,
    sensorHist := [false, false, false, false, false], sensorOut := false, window := none, heat := 0 }

/-! ### Modes (chapter 10) -/

/-- The six modes of R156, in the order of R177. -/
inductive Mode where
  | loading
  | commission
  | silent
  | active
  | console
  | halt
  deriving DecidableEq, Repr

/-- The set of halt causes (R156). -/
structure Causes where
  supplyLow : Bool
  driverHot : Bool
  deriving DecidableEq, Repr

/-- The Mode Controller (R156, R157, R160). The key is asserted when `keyOut` is high. -/
structure ModeController where
  mode : Mode
  remembered : Option Mode
  causes : Causes
  keyHist : List Bool
  keyOut : Bool
  resumePending : Bool
  commissioned : Bool
  deriving DecidableEq, Repr

/-! ### The Firing Queue (chapter 2) -/

/-- Where a note came from (R18). -/
inductive Source where
  | player (p : PlayerNo)
  | live
  deriving DecidableEq, Repr

/-- A Firing Queue entry (R18). -/
structure Entry where
  number : Nat
  bell : BellNo
  original : Option BellNo
  noteTime : Int
  fire : Int
  origFire : Int
  late : Bool
  dynamic : Nat
  priority : Nat
  source : Source
  playId : Nat
  deriving DecidableEq, Repr

/-- A held note: what the offer carried (R31). -/
structure Held where
  bell : BellNo
  noteTime : Int
  dynamic : Nat
  priority : Nat
  player : PlayerNo
  playId : Nat
  deriving DecidableEq, Repr

/-- A held note that has been granted a slot, and the run ms of its grant (R32). -/
structure Granted where
  note : Held
  grantedAt : Nat
  deriving DecidableEq, Repr

/-- The Strike Scheduler. The waiting list of R31 is `held` (not yet granted) and `granted` (in the order of the
grants, one reserved slot each). -/
structure Scheduler where
  queue : List Entry
  nextNumber : Nat
  held : List Held
  granted : List Granted
  deriving DecidableEq, Repr

/-! ### Plays (chapter 9) -/

/-- Where a play came from (R140). -/
inductive Origin where
  | slot (n : Fin 64)
  | playNow
  deriving DecidableEq, Repr

/-- What a play plays (R140). A TUNE play that has started names the version it holds by that version's serial number. -/
inductive PlayKind where
  | tune (number : Fin 96) (version : Option Nat)
  | toll (bell : BellNo) (dynamic interval strokes : Nat)
  deriving DecidableEq, Repr

/-- The play states of R140. -/
inductive PlayState where
  | waiting
  | incoming
  | feeding
  | draining
  deriving DecidableEq, Repr

/-- A fixed outcome (R140): STOPPED by request, or CUT by the play named. -/
inductive FixedOutcome where
  | stopped
  | cut (by_ : Nat)
  deriving DecidableEq, Repr

/-- A play record (R140). `offered` counts the notes offered, for the PLAY report (R149). -/
structure Play where
  id : Nat
  origin : Origin
  kind : PlayKind
  anchorOffset : Nat
  priority : Nat
  lateLimit : Nat
  due : Nat
  s0 : Int
  start : Option Int
  nextIndex : Nat
  offered : Nat
  dropped : Nat
  queued : Nat
  drives : Nat
  state : PlayState
  fixed : Option FixedOutcome
  launchSeq : Nat
  deriving DecidableEq, Repr

/-- A player: the play it holds, and an INCOMING play behind it (R142). -/
structure Player where
  play : Option Play
  incoming : Option Play
  deriving DecidableEq, Repr

/-- The Play Engine: players, Pending Play Queue, play-id counter (the last id given), launch sequence (R140 to R143). -/
structure PlayEngine where
  player0 : Player
  player1 : Player
  waiting : List Play
  lastId : Nat
  nextLaunch : Nat
  deriving DecidableEq, Repr

/-! ### Program Table (chapter 8) -/

/-- A calendar date. -/
structure Date where
  year : Nat
  month : Nat
  day : Nat
  deriving DecidableEq, Repr

/-- The count modes of R126. -/
inductive CountMode where
  | fixed (n : Nat)
  | hour12
  | hour24
  deriving DecidableEq, Repr

/-- What a slot plays. -/
inductive SlotKind where
  | tune
  | toll
  deriving DecidableEq, Repr

/-- The fields of a program slot but the marker (R126). Bit h of `hours` is hour h, bit w - 1 of `weekdays` is weekday w. -/
structure SlotFields where
  enabled : Bool
  second : Nat
  minute : Nat
  hours : BitVec 24
  date : Option Date
  weekdays : BitVec 7
  kind : SlotKind
  tune : Fin 96
  tollBell : BellNo
  tollDynamic : Nat
  tollInterval : Nat
  countMode : CountMode
  priority : Nat
  lateLimit : Nat
  deriving DecidableEq, Repr

/-- The empty slot of R139. -/
def SlotFields.empty : SlotFields :=
  { enabled := false, second := 0, minute := 0, hours := 0, date := none, weekdays := 0, kind := .tune, tune := 0, tollBell := 0,
    tollDynamic := 5, tollInterval := 500, countMode := .fixed 1, priority := 0, lateLimit := 60 }

/-- A program slot with its marker, a wall instant or none (R126). -/
structure Slot where
  fields : SlotFields
  marker : Option Nat
  deriving DecidableEq, Repr

/-! ### Tune Store (chapter 6) -/

/-- A tune event (R97). -/
structure Event where
  step : Nat
  bell : BellNo
  dynamic : Nat
  nudge : Int
  deriving DecidableEq, Repr

/-- A tune version (R96). Its number is its slot's, its state is its place in the slot, its event count is the length of
`events`. `serial` tells one version of a tune from another. -/
structure Version where
  name : List Byte
  stepLength : Nat
  anchorStep : Nat
  events : List Event
  crc : Nat
  blocks : List Nat
  users : Nat
  serial : Nat
  deriving DecidableEq, Repr

/-- A slot of the tune directory (R96). -/
structure TuneSlot where
  current : Option Version
  retiring : Option Version
  deriving DecidableEq, Repr

/-- An upload in the staging area (R100). `crc` is the CRC kept at TUNE CLOSE. -/
structure Upload where
  tune : Fin 96
  name : List Byte
  stepLength : Nat
  anchorStep : Nat
  declared : Nat
  blocks : List Nat
  events : List Event
  lastStep : Option Nat
  stepBells : List BellNo
  crc : Nat
  deriving DecidableEq, Repr

/-- The staging area (R100). -/
inductive Staging where
  | none
  | opened (u : Upload)
  | committing (u : Upload)
  deriving DecidableEq, Repr

/-- The Tune Store: directory slots (tune n at place n - 1), staging area, and the serial number of the next version. `displaced` holds, with their
tunes, the versions in use that a second deletion has put out of the one RETIRING place of their slot, the newest of a tune first
(R96, R108; notes/assumptions/18.md). -/
structure TuneStore where
  slots : Vector TuneSlot 96
  displaced : List (Fin 96 × Version)
  staging : Staging
  nextSerial : Nat
  deriving DecidableEq, Repr

/-! ### Settings and the non-volatile store (chapters 6, 10) -/

/-- The sensor filters of R59. -/
inductive Filter where
  | none
  | twoOf2
  | twoOf3
  | threeOf5
  deriving DecidableEq, Repr

/-- The global settings (R164). `driveBudget` is the drive budget in force. -/
structure Globals where
  driveBudget : Nat
  stagger : Nat
  filter : Filter
  sweepPeriod : Nat
  strikeReports : Bool
  noteReports : Bool
  autoActive : Bool
  livePriority : Nat
  pulseEnable : Bool
  vNom : Nat
  deriving DecidableEq, Repr

/-- The defaults of R164. -/
def Globals.default : Globals :=
  { driveBudget := 24, stagger := 2, filter := .twoOf3, sweepPeriod := 10, strikeReports := false, noteReports := true,
    autoActive := false, livePriority := 4, pulseEnable := true, vNom := 480 }

/-- What the stored settings area holds of one bell (R163). -/
structure StoredBell where
  settings : Settings
  lead16 : Nat
  withdrawn : Bool
  deriving DecidableEq, Repr

/-- The contents of the stored settings area (R163), less its check value. -/
structure StoredArea where
  globals : Globals
  bells : Vector StoredBell 48
  slots : Vector SlotFields 64
  commissioned : Bool
  deriving DecidableEq, Repr

/-- A directory entry in the non-volatile store that names a version (R104, R111): the version as written, whether its stored
CRC still matches what its blocks hold, and whether its event count can be read. -/
structure StoredTune where
  version : Version
  crcMatches : Bool
  countReadable : Bool
  deriving DecidableEq, Repr

/-- A write of the non-volatile store in flight (R100): the commit of the staged upload, the erase of a directory entry (with the
deleted version's event count and blocks, for the report of R109), a SAVE, or the write of COMMISSION END, each of the
last two with the copy it took. -/
inductive Write where
  | commit
  | erase (tune : Fin 96) (count blocks : Nat)
  | save (copy : StoredArea)
  | commission (copy : StoredArea)
  deriving DecidableEq, Repr

/-- The non-volatile store: the stored settings area and whether its check value matches, the tune directory entries, and the write
in flight. -/
structure NvStore where
  area : StoredArea
  areaMatches : Bool
  entries : Vector (Option StoredTune) 96
  write : Option Write
  deriving DecidableEq, Repr

/-! ### Reports (chapter 11) -/

/-- The causes of a MODE report (R159). -/
inductive ModeCause where
  | loadDone
  | request
  | commissionEnd
  | clockValid
  | keyOn
  | keyOff
  | haltRaised
  | haltCleared
  deriving DecidableEq, Repr

/-- The reasons of MISSED (R149). -/
inductive MissedReason where
  | noTune
  | late
  | queueFull
  | flush
  deriving DecidableEq, Repr

/-- The outcomes a PLAY report can carry (R136, R149). `stopped true` is cause REQUEST, `stopped false` cause MODE. -/
inductive PlayOutcome where
  | ended
  | cut (by_ : Nat)
  | stopped (byRequest : Bool)
  | missed (reason : MissedReason)
  | halted
  | console
  | suppressed
  deriving DecidableEq, Repr

/-- The kind fields of a PLAY report (R136). -/
inductive PlayWhat where
  | tune (number : Fin 96)
  | toll (bell : BellNo)
  deriving DecidableEq, Repr

/-- A PLAY report (R136, R149). `started` holds the intended start, the actual start and the number of notes offered. -/
structure PlayReport where
  outcome : PlayOutcome
  playId : Nat
  origin : Origin
  what : PlayWhat
  due : Nat
  dropped : Nat
  run : Nat
  started : Option (Int × Int × Nat)
  deriving DecidableEq, Repr

/-- What outranked a note dropped or removed for CONFLICT (R42). -/
inductive Outranker where
  | lastDrive
  | note (noteTime : Int) (source : Source) (playId : Nat)
  deriving DecidableEq, Repr

/-- The reason of a NOTE report (R42). -/
inductive NoteReason where
  | late
  | conflict (by_ : Outranker)
  deriving DecidableEq, Repr

/-- A NOTE report (R42): the reason, the stage (true: OFFER, false: QUEUED), and the note as an entry. -/
structure NoteReport where
  reason : NoteReason
  atOffer : Bool
  note : Entry
  deriving DecidableEq, Repr

/-- A STRIKE report (R67). `m4` is none with MISS. -/
structure StrikeReport where
  bell : BellNo
  original : Option BellNo
  playId : Nat
  noteTime : Int
  start : Nat
  width : Nat
  m4 : Option Int
  error : Option Int
  rebound : Bool
  deriving DecidableEq, Repr

/-- The causes of a BELL report (R7). -/
inductive BellCause where
  | request
  | heat
  | driveCurrent
  | testPulse
  | misses
  deriving DecidableEq, Repr

/-- A CLOCK report (R124). -/
inductive ClockReport where
  | stepped (run : Nat) (offset : Int) (w0 w1 : Nat)
  | pulseRejected (run edge interval : Nat)
  | rangeEnd (run held : Nat)
  deriving DecidableEq, Repr

/-- The kinds of a SWEEP report (R93). -/
inductive SweepKind where
  | stale
  | fresh
  | cleared
  deriving DecidableEq, Repr

/-- The kinds of a STORE report (R109, R163). -/
inductive StoreKind where
  | committed
  | failed
  | erased
  | removed
  | saved
  | defaulted
  deriving DecidableEq, Repr

/-- The operations of a STORE report (R109, R163). -/
inductive StoreOp where
  | commit
  | erase
  | load
  | save
  | commission
  deriving DecidableEq, Repr

/-- The reasons of a STORE report (R109, R163). -/
inductive StoreReason where
  | write
  | check
  | form
  deriving DecidableEq, Repr

/-- A STORE report (R109, R163). `tune` is 0 from the Settings Store. -/
structure StoreReport where
  kind : StoreKind
  tune : Nat
  op : StoreOp
  count : Nat
  blocks : Nat
  free : Nat
  reason : Option StoreReason
  deriving DecidableEq, Repr

/-- The reports of R172. -/
inductive Report where
  | mode (old new : Mode) (cause : ModeCause) (causes : Causes) (remembered : Option Mode) (flushed : Nat)
  | play (r : PlayReport)
  | note (r : NoteReport)
  | strike (r : StrikeReport)
  | bell (bell : BellNo) (service : Service) (cause : BellCause) (removed : Nat)
  | clock (r : ClockReport)
  | sweep (bell : BellNo) (kind : SweepKind) (lastVerified run period : Nat)
  | store (r : StoreReport)
  deriving DecidableEq, Repr

/-! ### Replies (chapter 11) -/

/-- The result codes of R169, in their order. -/
inductive Result where
  | ok
  | started
  | badLength
  | badField
  | unknownKind
  | wrongMode
  | busy
  | noSpace
  | notFound
  | clockInvalid
  | sequence
  | check
  deriving DecidableEq, Repr

/-- The outcome of an offer (R20), with what its reply carries (R153). -/
inductive OfferOutcome where
  | queued (e : Entry)
  | queuedLate (e : Entry)
  | held
  | bellOut
  | late (fire : Int)
  | conflict (fire : Int) (by_ : Outranker)
  | wrongMode
  | noSpace
  deriving DecidableEq, Repr

/-- The highest standing conditions of R165, in their order. -/
inductive Condition where
  | supplyLow
  | driverHot
  | bellFaulted
  | sweepStale
  | bellResting
  | driverWarm
  | reportOverflow
  | nothing
  deriving DecidableEq, Repr

/-- What the STATUS reply carries (R165). A player is shown by the state and id of the play holding it. -/
structure StatusView where
  mode : Mode
  remembered : Option Mode
  causes : Causes
  clockValid : Bool
  resumePending : Bool
  commissioned : Bool
  storeBusy : Bool
  overflow : Bool
  linkError : Bool
  depth : Nat
  player0 : Option (PlayState × Nat)
  player1 : Option (PlayState × Nat)
  waiting : Nat
  inService : Nat
  withdrawn : Nat
  resting : Nat
  faulted : Nat
  condition : Condition
  deriving DecidableEq, Repr

/-- Where a launch put a play (R141, R150). -/
inductive LaunchPlace where
  | started
  | incoming
  | pending
  | missedFull
  deriving DecidableEq, Repr

/-- A play record as PLAYS shows it: with the event count and CRC of the version held (R154). -/
structure PlayView where
  play : Play
  retiring : Bool
  count : Option Nat
  crc : Option Nat
  deriving DecidableEq, Repr

/-- What a reply carries after its result code (R169), by the rule of the request's owner. -/
inductive ReplyBody where
  | nothing
  | status (v : StatusView)
  | mode (m : Mode)
  | setTime (w0 : Nat) (validBefore : Bool) (w1 : Nat)
  | getTime (wall : Nat) (valid : Bool) (run : Nat) (slew : Int) (lastPulse : Option Nat) (pulseEnable : Bool)
  | bellSet (applied : Bool)
  | bellGet (bell : BellNo) (record : Bell) (entries : Nat)
  | bellService (service : Service)
  | settingsSet (budgetApplied : Option Bool)
  | settingsGet (globals : Globals) (pendingBudget : Option Nat)
  | tuneOpen (reserved free : Nat) (discarded : Option (Fin 96))
  | tuneEvents (staged position : Nat)
  | tuneEventsOk (staged : Nat)
  | tuneCloseStarted
  | tuneCloseSequence (staged declared : Nat)
  | tuneCloseCheck (crc : Nat)
  | tuneAbort (discarded : Option (Fin 96))
  | tuneInfo (current : Option Version) (retiring : Option Version) (committing : Bool) (staged : Option (Nat × Nat))
  | tuneList (free : Nat) (busy : Bool) (staging : Staging) (entries : List (Nat × Nat × Nat)) (next : Option Nat)
  | programSet (slot : Fin 64) (marker : Option Nat)
  | programGet (contents : Slot) (anchor offset : Nat) (hasTune : Option Bool)
  | playNow (id due : Nat) (s0 : Int) (place : LaunchPlace)
  | stop (stopped : Nat)
  | plays (player0 player1 : List PlayView) (waiting : List Play) (nextId livePriority : Nat)
  | liveNote (o : OfferOutcome)
  | queue (depth reserved : Nat) (held0 held1 : Option (Held × Bool)) (first : List Entry)
  deriving DecidableEq, Repr

/-- A reply (R169): the request's code, its tag, the result code and what follows it. -/
structure Reply where
  code : Byte
  tag : Byte
  result : Result
  body : ReplyBody
  deriving DecidableEq, Repr

/-! ### Link Port (chapter 11) -/

/-- A frame the part sends. -/
inductive Frame where
  | reply (r : Reply)
  | report (r : Report)
  deriving DecidableEq, Repr

/-- The frame being sent, and its bytes on the line (R177). -/
structure Sending where
  frame : Frame
  bytes : List Byte
  deriving DecidableEq, Repr

/-- The receiver's states with what they keep of the frame being assembled (R167). Payload bytes are kept newest first. -/
inductive Receiver where
  | hunt
  | length
  | kind (len : Nat)
  | tag (len : Nat) (kind : Byte)
  | payload (len : Nat) (kind tag : Byte) (got : List Byte)
  | check (len : Nat) (kind tag : Byte) (payload : List Byte) (first : Option Byte)
  deriving DecidableEq, Repr

/-- How far a restart has come (R162, R175): none asked for; RESTART answered and its reply not yet sent; or only to be made, once no write is in
flight. -/
inductive RestartStage where
  | none
  | replying
  | due
  deriving DecidableEq, Repr

/-- The Link Port (R167, R170, R173 to R175). `fast` is the line rate 115 200; `lastByte` is when the last byte came, in 0.05 ms
ticks. -/
structure LinkPort where
  fast : Bool
  receiver : Receiver
  lastByte : Nat
  replies : List Reply
  reports : List Report
  overflow : Bool
  linkError : Bool
  tx : Option Sending
  txStopped : Bool
  restart : RestartStage
  deriving DecidableEq, Repr

/-! ### Clocks (chapter 7), guards (chapter 4), sweep (chapter 5) -/

/-- Which periodic events of the present run ms have not been taken yet (table under R112). -/
structure Due where
  slew : Bool
  pulse : Bool
  key : Bool
  supply : Bool
  temperature : Bool
  cooling : Bool
  deriving DecidableEq, Repr

/-- The Run Timer (R112): run time in ms, how much of the present ms has passed in 0.05 ms ticks, how many of its four
quarter-ms samples have been taken, and its periodic events. -/
structure RunTimer where
  ms : Nat
  tick : Nat
  quarters : Nat
  due : Due
  deriving DecidableEq, Repr

/-- The Wall Clock (R113 to R122): the wall instant, from which the date, ms of day and weekday are derived, and the discipline's state. -/
structure WallClock where
  wall : Nat
  valid : Bool
  slew : Int
  second : Nat
  lastPulse : Option Nat
  pulseHist : List Bool
  pulseOut : Bool
  deriving DecidableEq, Repr

/-- The Supply Monitor (R81 to R83). -/
structure SupplyMonitor where
  vMeas : Option Nat
  lowRun : Nat
  recoveryRun : Nat
  deriving DecidableEq, Repr

/-- The Coil Sweep: pointer, and the run time of the interval timer's next expiry, none while it is stopped (R86, R95). -/
structure CoilSweep where
  pointer : BellNo
  next : Option Nat
  deriving DecidableEq, Repr

/-- The Drive Unit's own figures (R52, R53). -/
structure DriveUnit where
  inUse : Nat
  pendingBudget : Option Nat
  deriving DecidableEq, Repr

/-! ### The whole part -/

/-- The state of the HJ748, by block, and the queue of commands that wait, the next one first. -/
structure State where
  timer : RunTimer
  clock : WallClock
  ctl : ModeController
  globals : Globals
  bells : Vector Bell 48
  drive : DriveUnit
  /-- The driver warn state is WARN (R79). -/
  warn : Bool
  supply : SupplyMonitor
  sweep : CoilSweep
  sched : Scheduler
  engine : PlayEngine
  slots : Vector Slot 64
  tunes : TuneStore
  nv : NvStore
  link : LinkPort
  pending : List Instr
  deriving DecidableEq, Repr

/-- The faults of a step. There is none: the manual gives every command of the table an effect, or says that it passes it over, so
no meaning stops the machine. -/
inductive Fault where
  deriving DecidableEq, Repr

/-- The refusals of a step. -/
inductive Refusal where
  /-- Raised by `exec` for a command that has no meaning in the model yet; no arm raises it now. Safe: the model stops where
  the part goes on. -/
  | notModelled (mnemonic : String)
  deriving DecidableEq, Repr

/-! ### Start values -/

/-- No periodic event is due at run time 0 (R72, R78, R81, R116, R125: each runs from its first multiple onward). -/
def Due.start : Due :=
  { slew := false, pulse := false, key := false, supply := false, temperature := false, cooling := false }

/-- The Run Timer at a start (R112). -/
def RunTimer.start : RunTimer := { ms := 0, tick := 0, quarters := 0, due := Due.start }

/-- The Wall Clock after power-on (R125). -/
def WallClock.powerOn : WallClock :=
  { wall := 0, valid := false, slew := 0, second := 0, lastPulse := none, pulseHist := [false, false, false, false, false],
    pulseOut := false }

/-- The Mode Controller in the event of a start (R162, R166). -/
def ModeController.start : ModeController :=
  { mode := .loading, remembered := none, causes := { supplyLow := false, driverHot := false },
    keyHist := [false, false, false, false, false], keyOut := false, resumePending := false, commissioned := false }

/-- The Strike Scheduler at a start (R44). -/
def Scheduler.start : Scheduler := { queue := [], nextNumber := 1, held := [], granted := [] }

/-- A player that holds no play. -/
def Player.free : Player := { play := none, incoming := none }

/-- The Play Engine at a start (R155). That the launch sequence begins at 1 is the model's choice (notes/assumptions/5.md). -/
def PlayEngine.start : PlayEngine :=
  { player0 := Player.free, player1 := Player.free, waiting := [], lastId := 0, nextLaunch := 1 }

/-- The Tune Store from a start until the directory is loaded (R111). -/
def TuneStore.start : TuneStore :=
  { slots := Vector.replicate 96 { current := none, retiring := none }, displaced := [], staging := .none, nextSerial := 1 }

/-- The Link Port after a start, with the rate strap as read (R167, R175). -/
def LinkPort.start (strap : Bool) : LinkPort :=
  { fast := strap, receiver := .hunt, lastByte := 0, replies := [], reports := [], overflow := false, linkError := false, tx := none,
    txStopped := false, restart := .none }

/-- A stored settings area of defaults. -/
def StoredArea.default : StoredArea :=
  { globals := Globals.default
    bells := Vector.replicate 48 { settings := Settings.default, lead16 := 1280, withdrawn := false }
    slots := Vector.replicate 64 SlotFields.empty
    commissioned := false }

/-- The non-volatile store of a part that has never been saved: its settings area does not pass its check and no directory entry
names a version. DESIGN CHOICE, unsafe (notes/assumptions/5.md): the manual gives no factory contents. -/
def NvStore.blank : NvStore :=
  { area := StoredArea.default, areaMatches := false, entries := Vector.replicate 96 none, write := none }

/-- The part right after power-on (R162 and the start tables of every chapter), in LOADING, with a blank non-volatile store and the rate strap
low (notes/assumptions/5.md). -/
def State.reset : State :=
  { timer := RunTimer.start
    clock := WallClock.powerOn
    ctl := ModeController.start
    globals := Globals.default
    bells := Vector.replicate 48 Bell.start
    drive := { inUse := 0, pendingBudget := none }
    warn := false
    supply := { vMeas := none, lowRun := 0, recoveryRun := 0 }
    sweep := { pointer := 0, next := none }
    sched := Scheduler.start
    engine := PlayEngine.start
    slots := Vector.replicate 64 { fields := SlotFields.empty, marker := none }
    tunes := TuneStore.start
    nv := NvStore.blank
    link := LinkPort.start false
    pending := [] }

end Sys2Proof.Machine
end

