-- ==== Sys2Proof/Machine/Calendar.lean ====
section
/-! DEFINITION. The calendar of R113 and the wall instants' parts. -/

namespace Sys2Proof.Machine

open Sys2Proof

/-- A leap year of 2000 to 2099 (R113). -/
def isLeap (y : Nat) : Bool := y % 4 == 0

/-- The lengths of the months of a year (R113). -/
def monthLengths (y : Nat) : List Nat := [31, if isLeap y then 29 else 28, 31, 30, 31, 30, 31, 31, 30, 31, 30, 31]

/-- The length of month m, 0 for no month. -/
def monthLength (y m : Nat) : Nat := if m = 0 then 0 else (monthLengths y).getD (m - 1) 0

/-- The date is one of the wall clock's range (R113). -/
def Date.valid (d : Date) : Bool :=
  decide (2000 ≤ d.year ∧ d.year ≤ 2099 ∧ 1 ≤ d.month ∧ d.month ≤ 12 ∧ 1 ≤ d.day ∧ d.day ≤ monthLength d.year d.month)

/-- Whole days from 2000-01-01 to the date. -/
def Date.days (d : Date) : Nat :=
  (d.year - 2000) * 365 + (d.year - 2000 + 3) / 4 + ((monthLengths d.year).take (d.month - 1)).sum + (d.day - 1)

/-- The month and day of the n-th day (from 0) of what is left of a year, months from `m` on. -/
def monthDay : List Nat → Nat → Nat → Nat × Nat
  | [], m, n => (m, n + 1)
  | len :: rest, m, n => if n < len then (m, n + 1) else monthDay rest (m + 1) (n - len)

/-- The date n whole days after 2000-01-01. -/
def dateOfDays (n : Nat) : Date :=
  let r := n % 1461
  let year := 2000 + 4 * (n / 1461) + (if r < 366 then 0 else 1 + (r - 366) / 365)
  let md := monthDay (monthLengths year) 1 (if r < 366 then r else (r - 366) % 365)
  { year := year, month := md.1, day := md.2 }

/-- The weekday of the n-th day, Monday 1 to Sunday 7 (R113). -/
def weekdayOfDays (n : Nat) : Nat := (n + 5) % 7 + 1

/-- The wall instant of a date and ms of day (R113). -/
def wallOf (d : Date) (ms : Nat) : Nat := d.days * Config.dayMs + ms

/-- The date of a wall instant (R115). -/
def wallDate (w : Nat) : Date := dateOfDays (w / Config.dayMs)
/-- The ms of day of a wall instant (R115). -/
def wallMs (w : Nat) : Nat := w % Config.dayMs
/-- The weekday of a wall instant. -/
def wallWeekday (w : Nat) : Nat := weekdayOfDays (w / Config.dayMs)
/-- The hour of a wall instant. -/
def wallHour (w : Nat) : Nat := wallMs w / 3600000
/-- The minute of the hour of a wall instant. -/
def wallMinute (w : Nat) : Nat := wallMs w / 60000 % 60
/-- The second of the minute of a wall instant. -/
def wallSecond (w : Nat) : Nat := wallMs w / 1000 % 60
/-- The whole wall second at or below a wall instant (R117). -/
def wholeSecond (w : Nat) : Nat := w / 1000 * 1000

end Sys2Proof.Machine
end

