-- ==== Sys2Proof/Machine/Coding.lean ====
section
/-! DEFINITION. The bytes of replies, reports and frames (R168, R171, R172, R177), with the CRC of R168. Where the manual lists a field and gives it no width, the
width is the model's (notes/assumptions/13.md). -/

namespace Sys2Proof.Machine

open Sys2Proof

/-! ### CRC-16 (R168) -/

/-- One bit of the CRC register's work: shift left, and the generator x^16 + x^12 + x^5 + 1 when a one leaves it. -/
def crcShift (c : BitVec 16) : BitVec 16 :=
  if c.msb then (c <<< 1) ^^^ 0x1021#16 else c <<< 1

/-- One byte into the CRC register, most significant bit first. -/
def crcByte (c : BitVec 16) (b : Byte) : BitVec 16 :=
  crcShift (crcShift (crcShift (crcShift (crcShift (crcShift (crcShift (crcShift (c ^^^ ((b.setWidth 16) <<< 8)))))))))

/-- The CRC-16 of R168: register preset to all ones, no final inversion. -/
def crc16 (bs : List Byte) : BitVec 16 := bs.foldl crcByte 0xFFFF#16

/-! ### Numbers (R171) -/

def u8 (n : Nat) : List Byte := [BitVec.ofNat 8 n]
def u16 (n : Nat) : List Byte := u8 (n / 256) ++ u8 n
def u24 (n : Nat) : List Byte := u8 (n / 65536) ++ u16 n
def u32 (n : Nat) : List Byte := u16 (n / 65536) ++ u16 n
def u48 (n : Nat) : List Byte := u16 (n / 4294967296) ++ u32 n
/-- A signed two-byte number in two's complement. -/
def i16 (z : Int) : List Byte := u16 (z % 65536).toNat
/-- A run time that may be signed, six bytes in two's complement. -/
def i48 (z : Int) : List Byte := u48 (z % 281474976710656).toNat
/-- n bytes of 255: a field that is none or whose case does not hold (R171). -/
def blanks (n : Nat) : List Byte := List.replicate n 255#8
/-- A yes or no, set or clear, on or off: 1 or 0 (notes/assumptions/12.md). -/
def flag (b : Bool) : List Byte := u8 b.toNat
/-- An optional field of n bytes. -/
def optional {α : Type} (n : Nat) (f : α → List Byte) : Option α → List Byte
  | some a => f a
  | none => blanks n
/-- An optional bell: one byte, 255 when absent (R171). -/
def optionalBell (o : Option BellNo) : List Byte := optional 1 (fun b : BellNo => u8 b.val) o
/-- A date: year 2, month 1, day 1. -/
def dateBytes (d : Date) : List Byte := u16 d.year ++ u8 d.month ++ u8 d.day
/-- A wall time: a date and a ms of day. -/
def wallBytes (w : Nat) : List Byte := dateBytes (wallDate w) ++ u32 (wallMs w)
/-- A count of two bytes that shows 65 535 for any greater count. -/
def count16 (n : Nat) : List Byte := u16 (min n 65535)

/-! ### Enumerated values (R171): numbered from 0 in the order the owning rule lists them -/

def Mode.code : Mode → Nat
  | .loading => 0 | .commission => 1 | .silent => 2 | .active => 3 | .console => 4 | .halt => 5
def Causes.code (c : Causes) : Nat := c.supplyLow.toNat + 2 * c.driverHot.toNat
def ModeCause.code : ModeCause → Nat
  | .loadDone => 0 | .request => 1 | .commissionEnd => 2 | .clockValid => 3 | .keyOn => 4 | .keyOff => 5 | .haltRaised => 6
  | .haltCleared => 7
def Service.code : Service → Nat
  | .inService => 0 | .withdrawn => 1 | .resting => 2 | .faulted _ => 3
def FaultKind.code : FaultKind → Nat
  | .openCoil => 0 | .short => 1 | .noStrike => 2
def Service.faultKind : Service → Option FaultKind
  | .faulted k => some k
  | _ => none
def Hammer.code : Hammer → Nat
  | .idle => 0 | .drive => 1 | .swing => 2
def BellCause.code : BellCause → Nat
  | .request => 0 | .heat => 1 | .driveCurrent => 2 | .testPulse => 3 | .misses => 4
def Filter.code : Filter → Nat
  | .none => 0 | .twoOf2 => 1 | .twoOf3 => 2 | .threeOf5 => 3
def Source.code : Source → Nat
  | .player .p0 => 0 | .player .p1 => 1 | .live => 2
def SweepKind.code : SweepKind → Nat
  | .stale => 0 | .fresh => 1 | .cleared => 2
def StoreReason.code : StoreReason → Nat
  | .write => 0 | .check => 1 | .form => 2
def MissedReason.code : MissedReason → Nat
  | .noTune => 0 | .late => 1 | .queueFull => 2 | .flush => 3
def Result.code : Result → Nat
  | .ok => 0 | .started => 1 | .badLength => 2 | .badField => 3 | .unknownKind => 4 | .wrongMode => 5 | .busy => 6 | .noSpace => 7
  | .notFound => 8 | .clockInvalid => 9 | .sequence => 10 | .check => 11
def Condition.code : Condition → Nat
  | .supplyLow => 0 | .driverHot => 1 | .bellFaulted => 2 | .sweepStale => 3 | .bellResting => 4 | .driverWarm => 5
  | .reportOverflow => 6 | .nothing => 7
/-- The Tune Store's kinds in R109's order, the Settings Store's in R163's. -/
def StoreKind.code : StoreKind → Nat → Nat
  | .committed, _ => 0 | .failed, _ => 1 | .erased, _ => 2 | .removed, _ => 3 | .saved, _ => 0 | .defaulted, _ => 2
/-- The Tune Store's operations in R109's order, the Settings Store's in R163's. -/
def StoreOp.code : StoreOp → Nat
  | .commit => 0 | .erase => 1 | .load => 2 | .save => 0 | .commission => 1
def PlayOutcome.code : PlayOutcome → Nat
  | .ended => 0 | .cut _ => 1 | .stopped _ => 2 | .missed _ => 3 | .halted => 4 | .console => 5 | .suppressed => 6
def LaunchPlace.code : LaunchPlace → Nat
  | .started => 0 | .incoming => 1 | .pending => 2 | .missedFull => 3
def PlayState.code : PlayState → Nat
  | .waiting => 0 | .incoming => 1 | .feeding => 2 | .draining => 3
def SlotKind.code : SlotKind → Nat
  | .tune => 0 | .toll => 1

/-- A tune number, 1 to 96, of a slot place. -/
def tuneNumber (t : Fin 96) : Nat := t.val + 1

/-! ### Reports (R172) -/

def originBytes : Origin → List Byte
  | .slot n => u8 n.val
  | .playNow => u8 64

/-- The kind, then one byte for both kinds: the tune number of TUNE or the toll bell of TOLL (R149, R154; notes/assumptions/13.md). -/
def whatBytes : PlayWhat → List Byte
  | .tune t => u8 0 ++ u8 (tuneNumber t)
  | .toll b => u8 1 ++ u8 b.val

/-- R149 with R136's fields: the fields of a case that does not hold are blanks. -/
def PlayReport.bytes (r : PlayReport) : List Byte :=
  u8 r.outcome.code ++
  (match r.outcome with | .missed m => u8 m.code | _ => blanks 1) ++
  (match r.outcome with | .stopped byRequest => u8 (if byRequest then 0 else 1) | _ => blanks 1) ++
  u8 r.playId ++ originBytes r.origin ++ whatBytes r.what ++ wallBytes r.due ++ count16 r.dropped ++ u48 r.run ++
  (match r.started with | some (s0, s, n) => i48 s0 ++ i48 s ++ count16 n | none => blanks 14) ++
  (match r.outcome with | .cut i => u8 i | _ => blanks 1)

/-- The outranking note of a CONFLICT (R42, R153): a byte 0 for LAST_DRIVE or 1 for a note, then the note's fields (notes/assumptions/13.md). -/
def outrankerBytes : Outranker → List Byte
  | .lastDrive => u8 0 ++ blanks 8
  | .note t src i => u8 1 ++ i48 t ++ u8 src.code ++ u8 i

/-- R42. -/
def NoteReport.bytes (r : NoteReport) : List Byte :=
  (match r.reason with | .late => u8 0 | .conflict _ => u8 1) ++ u8 (if r.atOffer then 0 else 1) ++
  u8 r.note.bell.val ++ optionalBell r.note.original ++ u8 r.note.source.code ++ u8 r.note.playId ++
  i48 r.note.noteTime ++ u8 r.note.dynamic ++ i48 r.note.fire ++ i48 r.note.origFire ++ u8 r.note.priority ++ flag r.note.late ++
  (match r.reason with | .late => blanks 9 | .conflict o => outrankerBytes o)

/-- The STRIKE report of R177: 22 bytes. -/
def StrikeReport.bytes (r : StrikeReport) : List Byte :=
  u8 r.bell.val ++ optionalBell r.original ++ u8 r.playId ++ i48 r.noteTime ++ u48 r.start ++ u16 r.width ++
  u8 (r.m4.isNone.toNat + 2 * r.rebound.toNat) ++ i16 (r.m4.getD 0) ++ i16 (r.error.getD 0)

/-- R124. -/
def ClockReport.bytes : ClockReport → List Byte
  | .stepped run off w0 w1 => u8 0 ++ u48 run ++ i16 off ++ wallBytes w0 ++ wallBytes w1 ++ blanks 16
  | .pulseRejected run edge iv => u8 1 ++ u48 run ++ blanks 18 ++ u48 edge ++ u16 iv ++ blanks 8
  | .rangeEnd run held => u8 2 ++ u48 run ++ blanks 26 ++ wallBytes held

/-- R109 from the Tune Store, R163 (tune number 0) from the Settings Store. -/
def StoreReport.bytes (r : StoreReport) : List Byte :=
  if r.tune = 0 then
    u8 (r.kind.code 0) ++ u8 r.op.code ++ u8 0 ++ optional 1 (fun x : StoreReason => u8 x.code) r.reason
  else
    u8 (r.kind.code r.tune) ++ u8 r.tune ++ u8 r.op.code ++ u16 r.count ++ u8 r.blocks ++ u16 r.free ++
    optional 1 (fun x : StoreReason => u8 x.code) r.reason

/-- The report kinds' codes (R172). -/
def Report.code : Report → Nat
  | .mode .. => 0x70 | .play _ => 0x71 | .note _ => 0x72 | .strike _ => 0x73 | .bell .. => 0x74 | .clock _ => 0x75
  | .sweep .. => 0x76 | .store _ => 0x77

/-- A report's payload (R172). The halt causes of a MODE report have the bits of the STATUS reply (notes/assumptions/13.md). -/
def Report.bytes : Report → List Byte
  | .mode old new cause causes rem n =>
    u8 old.code ++ u8 new.code ++ u8 cause.code ++ u8 causes.code ++ optional 1 (fun m : Mode => u8 m.code) rem ++ u8 n
  | .play r => r.bytes
  | .note r => r.bytes
  | .strike r => r.bytes
  | .bell b st cause n =>
    u8 b.val ++ u8 st.code ++ optional 1 (fun k : FaultKind => u8 k.code) st.faultKind ++ u8 cause.code ++ u8 n
  | .clock r => r.bytes
  | .sweep b k lv run period => u8 b.val ++ u8 k.code ++ u48 lv ++ u48 run ++ u8 period
  | .store r => r.bytes

/-! ### Replies (R169, R177) -/

/-- Field values of a settings record: a bell and a yes or no in one byte, numbers in the two bytes with which BELL SET carries them
(R171; notes/assumptions/13.md). -/
def Settings.bytes (x : Settings) : List Byte :=
  u16 x.recovery ++ u16 x.slack ++ u16 x.leadMin ++ u16 x.leadMax ++ u16 x.slope ++ u16 x.wMin ++ u16 x.wMax ++ u16 x.cls ++
  u16 x.heatWarn ++ u16 x.heatRest ++ u16 x.heatRelease ++ u16 x.cooling ++
  optionalBell x.substitute ++ flag x.learning

/-- The fields of a pending record, blanks where it holds none. -/
def Patch.bytes (x : Patch) : List Byte :=
  optional 2 u16 x.recovery ++ optional 2 u16 x.slack ++ optional 2 u16 x.leadMin ++ optional 2 u16 x.leadMax ++ optional 2 u16 x.slope ++
  optional 2 u16 x.wMin ++ optional 2 u16 x.wMax ++ optional 2 u16 x.cls ++ optional 2 u16 x.heatWarn ++ optional 2 u16 x.heatRest ++
  optional 2 u16 x.heatRelease ++ optional 2 u16 x.cooling ++
  optional 1 optionalBell x.substitute ++ optional 1 flag x.learning ++ optional 2 u16 x.lead16

/-- R16, in its order. -/
def bellGetBytes (b : BellNo) (r : Bell) (entries : Nat) : List Byte :=
  u8 b.val ++ r.settings.bytes ++ flag r.pending.isSome ++ optional 28 Patch.bytes r.pending ++ u16 r.lead16 ++ u8 r.service.code ++
  optional 1 (fun k : FaultKind => u8 k.code) r.service.faultKind ++ u8 r.missRun ++ flag r.verified ++ u48 r.lastVerified ++
  flag r.stale ++ optional 6 u48 r.lastDriveStart ++ optional 6 u48 r.readyTime ++ u8 r.hammer.code ++ u16 r.heat ++
  flag r.window.isSome ++ u8 entries

/-- The global settings: an enumerated value and an on or off in one byte, numbers in the two bytes with which SETTINGS SET carries them
(R164, R171; notes/assumptions/13.md). -/
def Globals.bytes (g : Globals) : List Byte :=
  u16 g.driveBudget ++ u16 g.stagger ++ u8 g.filter.code ++ u16 g.sweepPeriod ++ flag g.strikeReports ++ flag g.noteReports ++
  flag g.autoActive ++ u16 g.livePriority ++ flag g.pulseEnable ++ u16 g.vNom

def playerBytes : Option (PlayState × Nat) → List Byte
  | none => u8 0 ++ u8 0
  | some (.incoming, i) => u8 1 ++ u8 i
  | some (.feeding, i) => u8 2 ++ u8 i
  | some (.draining, i) => u8 3 ++ u8 i
  | some (.waiting, i) => u8 0 ++ u8 i

/-- The STATUS reply of R177 after its result code: 15 bytes. -/
def StatusView.bytes (v : StatusView) : List Byte :=
  u8 v.mode.code ++ optional 1 (fun m : Mode => u8 m.code) v.remembered ++ u8 v.causes.code ++
  u8 (v.clockValid.toNat + 2 * v.resumePending.toNat + 4 * v.commissioned.toNat + 8 * v.storeBusy.toNat + 16 * v.overflow.toNat +
      32 * v.linkError.toNat) ++
  u8 v.depth ++ playerBytes v.player0 ++ playerBytes v.player1 ++ u8 v.waiting ++ u8 v.inService ++ u8 v.withdrawn ++ u8 v.resting ++
  u8 v.faulted ++ u8 v.condition.code

def versionBytes (v : Version) : List Byte :=
  u8 v.name.length ++ v.name ++ u16 v.stepLength ++ u16 v.anchorStep ++ u32 (v.anchorStep * v.stepLength) ++ u16 v.events.length ++
  u8 v.blocks.length ++ u16 v.crc ++ u8 v.users

def retiringBytes (v : Version) : List Byte := u16 v.events.length ++ u8 v.blocks.length ++ u16 v.crc ++ u8 v.users

def stagingBytes : Staging → List Byte
  | .none => u8 0 ++ blanks 5
  | .opened u => u8 1 ++ u8 (tuneNumber u.tune) ++ u16 u.events.length ++ u16 u.declared
  | .committing u => u8 2 ++ u8 (tuneNumber u.tune) ++ u16 u.events.length ++ u16 u.declared

/-- A slot's fields in the order of R171's PROGRAM SET. -/
def SlotFields.bytes (f : SlotFields) : List Byte :=
  flag f.enabled ++ u8 f.second ++ u8 f.minute ++ u24 f.hours.toNat ++ flag f.date.isSome ++ optional 4 dateBytes f.date ++
  u8 f.weekdays.toNat ++ u8 f.kind.code ++ u8 (tuneNumber f.tune) ++ u8 f.tollBell.val ++ u8 f.tollDynamic ++ u16 f.tollInterval ++
  (match f.countMode with | .fixed n => u8 0 ++ u8 n | .hour12 => u8 1 ++ blanks 1 | .hour24 => u8 2 ++ blanks 1) ++
  u8 f.priority ++ u16 f.lateLimit

/-- The kind, the tune number and the version held, one byte: 0 for CURRENT, 1 for RETIRING, 255 for none (notes/assumptions/13.md); then the toll's
fields (R140). -/
def playKindBytes : PlayKind → Bool → List Byte
  | .tune t v, retiring => u8 0 ++ u8 (tuneNumber t) ++ (if v.isNone then blanks 1 else flag retiring) ++ blanks 5
  | .toll b d i n, _ => u8 1 ++ blanks 2 ++ u8 b.val ++ u8 d ++ u16 i ++ u8 n

def fixedBytes : Option FixedOutcome → List Byte
  | none => blanks 1
  | some .stopped => u8 0
  | some (.cut _) => u8 1

/-- A play record in R140's order, with the event count and CRC of R154. -/
def PlayView.bytes (v : PlayView) : List Byte :=
  u8 v.play.id ++ originBytes v.play.origin ++ playKindBytes v.play.kind v.retiring ++ u32 v.play.anchorOffset ++ u8 v.play.priority ++
  u16 v.play.lateLimit ++ wallBytes v.play.due ++ i48 v.play.s0 ++ optional 6 i48 v.play.start ++ u16 v.play.nextIndex ++
  count16 v.play.dropped ++ u8 v.play.queued ++ u8 v.play.drives ++ u8 v.play.state.code ++ fixedBytes v.play.fixed ++
  u32 v.play.launchSeq ++ optional 2 u16 v.count ++ optional 2 u16 v.crc

def PlayKind.what : PlayKind → PlayWhat
  | .tune t _ => .tune t
  | .toll b _ _ _ => .toll b

/-- A player as PLAYS shows it (R154): whether it is free, then the record of each play it holds, the running one before the INCOMING one, and none when it is
free (notes/assumptions/13.md). -/
def playerViewBytes (held : List PlayView) : List Byte := flag held.isEmpty ++ held.flatMap PlayView.bytes

/-- A waiting play as PLAYS shows it (R154). -/
def waitingBytes (p : Play) : List Byte :=
  u8 p.id ++ originBytes p.origin ++ whatBytes p.kind.what ++ u8 p.priority ++ u16 p.lateLimit ++ wallBytes p.due ++ i48 p.s0

/-- QUEUE's ten bytes for a player's held note (R171). -/
def heldBytes : Option (Held × Bool) → List Byte
  | none => u8 0 ++ blanks 9
  | some (h, granted) => u8 1 ++ u8 h.bell.val ++ i48 h.noteTime ++ u8 h.priority ++ flag granted

/-- QUEUE's 31 bytes for an entry (R171). -/
def Entry.bytes (e : Entry) : List Byte :=
  u48 e.number ++ u8 e.bell.val ++ optionalBell e.original ++ i48 e.noteTime ++ i48 e.fire ++
  i48 e.origFire ++ flag e.late ++ u8 e.dynamic ++ u8 e.priority ++ u8 e.source.code ++ u8 e.playId

def queuedBytes (e : Entry) : List Byte :=
  u8 e.bell.val ++ optionalBell e.original ++ i48 e.noteTime ++ i48 e.fire ++ i48 e.origFire ++ u48 e.number

/-- The LIVE NOTE reply of R177: the outcome in R20's order, then the fields of each case. -/
def OfferOutcome.bytes : OfferOutcome → List Byte
  | .queued e => u8 0 ++ queuedBytes e ++ blanks 15
  | .queuedLate e => u8 1 ++ queuedBytes e ++ blanks 15
  | .held => u8 2 ++ blanks 41
  | .bellOut => u8 3 ++ blanks 41
  | .late f => u8 4 ++ blanks 26 ++ i48 f ++ blanks 9
  | .conflict f o => u8 5 ++ blanks 26 ++ i48 f ++ outrankerBytes o
  | .wrongMode => u8 6 ++ blanks 41
  | .noSpace => u8 7 ++ blanks 41

/-- What follows the result code of a reply. The fields of a version that a tune does not have are 255s (R171). A number whose width no rule gives, the anchor offset of PROGRAM GET among them, has the model's width
(notes/assumptions/13.md). -/
def ReplyBody.bytes : ReplyBody → List Byte
  | .nothing => []
  | .status v => v.bytes
  | .mode m => u8 m.code
  | .setTime w0 v w1 => wallBytes w0 ++ flag v ++ wallBytes w1
  | .getTime w v run slew lp en =>
    wallBytes w ++ u8 (wallWeekday w) ++ flag v ++ u48 run ++ i16 slew ++ optional 6 u48 lp ++ flag en
  | .bellSet applied => u8 (if applied then 0 else 1)
  | .bellGet b r n => bellGetBytes b r n
  | .bellService st => u8 st.code ++ optional 1 (fun k : FaultKind => u8 k.code) st.faultKind
  | .settingsSet o => optional 1 (fun applied : Bool => u8 (if applied then 0 else 1)) o
  | .settingsGet g p => g.bytes ++ u16 g.driveBudget ++ optional 2 u16 p
  | .tuneOpen r f d => u8 r ++ u16 f ++ optional 1 (fun t : Fin 96 => u8 (tuneNumber t)) d
  | .tuneEvents st pos => u16 st ++ u8 pos
  | .tuneEventsOk st => u16 st ++ blanks 1
  | .tuneCloseStarted => blanks 6
  | .tuneCloseSequence st d => u16 st ++ u16 d ++ blanks 2
  | .tuneCloseCheck c => blanks 4 ++ u16 c
  | .tuneAbort d => (match d with | some t => u8 0 ++ u8 (tuneNumber t) | none => u8 1 ++ blanks 1)
  | .tuneInfo c r committing st =>
    optional 15 versionBytes c ++ optional 6 retiringBytes r ++
    u8 (if committing then 2 else if st.isSome then 1 else 0) ++ optional 4 (fun p : Nat × Nat => u16 p.1 ++ u16 p.2) st
  | .tuneList f busy st es next =>
    u16 f ++ flag busy ++ stagingBytes st ++ es.flatMap (fun e => u8 e.1 ++ u16 e.2.1 ++ u8 e.2.2) ++ optional 1 u8 next
  | .programSet n m => u8 n.val ++ optional 8 wallBytes m
  | .programGet sl a k has => sl.fields.bytes ++ optional 8 wallBytes sl.marker ++ u32 a ++ u16 k ++ optional 1 flag has
  | .playNow i d s0 place => u8 i ++ wallBytes d ++ i48 s0 ++ u8 place.code
  | .stop n => u8 n
  | .plays a b w i pr =>
    (playerViewBytes a ++ playerViewBytes b ++ u8 w.length ++ w.flatMap waitingBytes ++ u8 i ++ u8 pr).take 247
  | .liveNote o => o.bytes
  | .queue n r h0 h1 es => u8 n ++ u8 r ++ heldBytes h0 ++ heldBytes h1 ++ es.flatMap Entry.bytes

/-! ### Frames (R177) -/

/-- A frame's bytes: start marker, length, kind, tag, payload and CRC, high byte first (R168, R177). -/
def frameBytes (kind tag : Byte) (payload : List Byte) : List Byte :=
  let covered := u8 payload.length ++ [kind, tag] ++ payload
  [0xA5#8] ++ covered ++ u16 (crc16 covered).toNat

/-- The bytes of a reply or report on the line: a reply's kind is the request's with its top bit set, a report's tag is 0
(R169, R172). -/
def Frame.bytes : Frame → List Byte
  | .reply r => frameBytes (r.code ||| 0x80#8) r.tag (u8 r.result.code ++ r.body.bytes)
  | .report r => frameBytes (BitVec.ofNat 8 r.code) 0 r.bytes

end Sys2Proof.Machine
end

