-- ==== Sys2Proof/Machine/Ops.lean ====
section
/-! DEFINITION. The operations the meanings share: reading and writing a bell, the Report Queue, the reply queue and the transmitter, counting
for plays, the Firing Queue's order and removals, granted slots, service changes and the quiet point. -/

namespace Sys2Proof.Machine

open Sys2Proof

/-! ### Arithmetic ("Arithmetic" in 00_scope.md) -/

/-- Clamped into [a, b]. -/
def clampInt (z a b : Int) : Int := if z < a then a else if b < z then b else z

/-- Clamped into [a, b]. -/
def clampNat (n a b : Nat) : Nat := if n < a then a else if b < n then b else n

/-- Division rounded up. -/
def ceilDiv (n d : Nat) : Nat := (n + d - 1) / d

/-! ### Time (R112) -/

/-- The run time in ms, as a signed number. -/
def State.now (s : State) : Int := s.timer.ms

/-- The present instant in 0.05 ms ticks. -/
def State.nowTicks (s : State) : Nat := s.timer.ms * 20 + s.timer.tick

/-- The first whole run ms at or after the present instant (R94). -/
def State.nextWholeMs (s : State) : Nat := if s.timer.tick = 0 then s.timer.ms else s.timer.ms + 1

/-- The place within the present ms moves on to `t` ticks, never back. -/
def State.atTick (s : State) (t : Nat) : State := { s with timer := { s.timer with tick := max s.timer.tick t } }

/-! ### Bells -/

/-- The record of a bell. -/
def State.bell (s : State) (b : BellNo) : Bell := s.bells[b]

/-- Changes the record of one bell. -/
def State.modBell (s : State) (b : BellNo) (f : Bell → Bell) : State := { s with bells := s.bells.set b (f (s.bell b)) }

/-- The bells in order of number. -/
def allBells : List BellNo := List.finRange 48

/-- Does something for each bell in order of number: the model's order wherever one event treats several bells
(notes/assumptions/46.md). -/
def State.forBells (s : State) (f : BellNo → State → State) : State := allBells.foldl (fun s b => f b s) s

/-- How many bells meet a condition. -/
def State.countBells (s : State) (p : Bell → Bool) : Nat := s.bells.toList.countP p

/-! ### Reports, replies and the transmitter (R169, R170, R173 to R175) -/

/-- A report joins the Report Queue, or is discarded with the overflow flag set (R173). -/
def State.report (s : State) (r : Report) : State :=
  if s.link.reports.length < Config.reportCap then { s with link := { s.link with reports := s.link.reports ++ [r] } }
  else { s with link := { s.link with overflow := true } }

/-- A reply joins the reply queue (R170). -/
def State.reply (s : State) (r : Reply) : State := { s with link := { s.link with replies := s.link.replies ++ [r] } }

/-- An idle transmitter begins the head of the reply queue, else the head of the Report Queue (R174); no report once a RESTART has been
taken or a restart is held, and nothing once a reset pin has stopped it (R162, R175). -/
def State.transmit (s : State) : State :=
  if s.link.tx.isSome || s.link.txStopped then s
  else match s.link.replies with
    | r :: rest => { s with link := { s.link with replies := rest, tx := some { frame := .reply r, bytes := (Frame.reply r).bytes } } }
    | [] =>
      match s.link.restart, s.link.reports with
      | .none, r :: rest =>
        { s with link := { s.link with reports := rest, tx := some { frame := .report r, bytes := (Frame.report r).bytes } } }
      | _, _ => s

/-- The outcome of every meaning: the event is done, and an idle transmitter begins what now waits (R174; notes/assumptions/8.md). -/
def done (s : State) : Host.Outcome State Fault Refusal := .next s.transmit

/-- The receiver passes over every byte: a RESTART has been taken or a restart is held (R162, R175). -/
def State.deaf (s : State) : Bool := s.link.restart != .none

/-- A request that has been received: it is lost when 4 replies wait (R170), refused in LOADING unless it is STATUS, refused when its
length does not fit, and otherwise taken by its owner, whose answer is replied (R169). -/
def takeRequest (code : Nat) (tag : Byte) (lengthFits : Bool) (owner : State → Result × ReplyBody × State) (s : State) :
    Host.Outcome State Fault Refusal :=
  let answer (result : Result) (body : ReplyBody) (s : State) :=
    done (s.reply { code := BitVec.ofNat 8 code, tag := tag, result := result, body := body })
  if s.deaf then done s
  else if Config.replyCap ≤ s.link.replies.length then done { s with link := { s.link with linkError := true } }
  else if s.ctl.mode = .loading ∧ code ≠ 0x01 then answer .wrongMode .nothing s
  else if !lengthFits then answer .badLength .nothing s
  else
    let a := owner s
    answer a.1 a.2.1 a.2.2

/-! ### Players and plays (R140) -/

/-- A player of the Play Engine. -/
def PlayEngine.player (e : PlayEngine) : PlayerNo → Player
  | .p0 => e.player0
  | .p1 => e.player1

/-- Replaces a player. -/
def PlayEngine.setPlayer (e : PlayEngine) (p : PlayerNo) (x : Player) : PlayEngine :=
  match p with
  | .p0 => { e with player0 := x }
  | .p1 => { e with player1 := x }

/-- A player of the part. -/
def State.player (s : State) (p : PlayerNo) : Player := s.engine.player p

/-- Replaces a player. -/
def State.setPlayer (s : State) (p : PlayerNo) (x : Player) : State := { s with engine := s.engine.setPlayer p x }

/-- A change made to the play record of an id, if the record is this one. -/
def Play.modIf (p : Play) (id : Nat) (f : Play → Play) : Play := if p.id = id then f p else p

/-- A change made to the play record of an id, if the player holds it. -/
def Player.modPlay (x : Player) (id : Nat) (f : Play → Play) : Player :=
  { play := x.play.map (·.modIf id f), incoming := x.incoming.map (·.modIf id f) }

/-- A change made to the play record of an id; an id of 0, or with no record, is passed over (R140). -/
def State.modPlay (s : State) (id : Nat) (f : Play → Play) : State :=
  if id = 0 then s
  else { s with engine := { s.engine with
          player0 := s.engine.player0.modPlay id f, player1 := s.engine.player1.modPlay id f,
          waiting := s.engine.waiting.map (·.modIf id f) } }

/-- The play records still kept. -/
def State.playRecords (s : State) : List Play :=
  s.engine.player0.play.toList ++ s.engine.player0.incoming.toList ++ s.engine.player1.play.toList ++
  s.engine.player1.incoming.toList ++ s.engine.waiting

/-- The Drive Unit's notice that a drive of a play has ended or been cut (R140, R50, R57). -/
def State.driveNotice (s : State) (id : Nat) : State := s.modPlay id fun p => { p with drives := p.drives - 1 }

/-- One removed entry, counted to the play that owns it (R38, R140). -/
def State.countRemoved (s : State) (e : Entry) : State :=
  s.modPlay e.playId fun p => { p with queued := p.queued - 1, dropped := p.dropped + 1 }

/-! ### The Firing Queue (R19, R32, R33, R38) -/

/-- The order of R19: fire time, priority descending, note time, insertion. -/
def Entry.before (a b : Entry) : Bool :=
  decide (a.fire < b.fire) ||
  (decide (a.fire = b.fire) &&
    (decide (b.priority < a.priority) ||
     (decide (a.priority = b.priority) &&
      (decide (a.noteTime < b.noteTime) || (decide (a.noteTime = b.noteTime) && decide (a.number ≤ b.number))))))

/-- The two are one and the same entry: two entries of one bell never have equal note times (R19), whereas an entry number may come round
again (R18; notes/assumptions/28.md). -/
def Entry.same (a b : Entry) : Bool := decide (a.bell = b.bell) && decide (a.noteTime = b.noteTime)

/-- The entry number after n: numbers are kept in 48 bits (R18; notes/assumptions/28.md). -/
def nextEntryNumber (n : Nat) : Nat := (n + 1) % Config.numberSpan

/-- Places an entry in queue order. -/
def placeEntry (e : Entry) : List Entry → List Entry
  | [] => [e]
  | x :: rest => if e.before x then e :: x :: rest else x :: placeEntry e rest

/-- The queue without one entry. -/
def withoutEntry (e : Entry) (q : List Entry) : List Entry := q.filter fun y => !e.same y

/-- Replaces the Firing Queue. -/
def State.setQueue (s : State) (q : List Entry) : State := { s with sched := { s.sched with queue := q } }

/-- The queued entries of a bell, in queue order. -/
def State.entriesOf (s : State) (b : BellNo) : List Entry := s.sched.queue.filter (·.bell = b)

/-- Entries plus reserved slots (R31). -/
def State.slotsTaken (s : State) : Nat := s.sched.queue.length + s.sched.granted.length

/-- Which of two waiting notes gets a free slot: the earlier note time, then the higher priority, then Player 0 (R32). -/
def Held.first (a b : Held) : Bool :=
  decide (a.noteTime < b.noteTime) ||
  (decide (a.noteTime = b.noteTime) &&
    (decide (b.priority < a.priority) || (decide (a.priority = b.priority) && decide (a.player = .p0))))

/-- The waiting note that the next free slot goes to. -/
def bestHeld : List Held → Option Held
  | [] => none
  | h :: rest =>
    match bestHeld rest with
    | none => some h
    | some k => if h.first k then some h else some k

/-- Grants one free slot, if a note waits and a slot is free (R32). -/
def State.grantOne (s : State) : State :=
  match bestHeld s.sched.held with
  | none => s
  | some h =>
    if s.slotsTaken < Config.queueCap then
      { s with sched := { s.sched with
          held := s.sched.held.erase h, granted := s.sched.granted ++ [{ note := h, grantedAt := s.timer.ms }] } }
    else s

/-- A free-slot event: free slots go to the waiting notes, of which there are at most two (R31, R32). -/
def State.grantSlots (s : State) : State := s.grantOne.grantOne

/-- Takes the entries that meet a condition out of the queue and counts them to their plays (R38). -/
def State.takeOut (s : State) (p : Entry → Bool) : State :=
  (s.sched.queue.filter p).foldl State.countRemoved (s.setQueue (s.sched.queue.filter fun e => !p e))

/-- A discarded held note, counted to its play (R33). -/
def State.countDiscarded (s : State) (h : Held) : State := s.modPlay h.playId fun p => { p with dropped := p.dropped + 1 }

/-- Discards the held notes that meet a condition, granted or not, and counts them (R33). -/
def State.discardHeld (s : State) (p : Held → Bool) : State :=
  let gone := s.sched.held.filter p ++ (s.sched.granted.map (·.note)).filter p
  gone.foldl State.countDiscarded
    { s with sched := { s.sched with held := s.sched.held.filter fun h => !p h, granted := s.sched.granted.filter fun g => !p g.note } }

/-! ### Settings (R2, R3, R13 to R15) -/

/-- A settings record is well formed for bell b: its ranges and its four relations (R1, R2). -/
def Settings.wellFormed (b : BellNo) (x : Settings) : Bool :=
  decide (60 ≤ x.recovery ∧ x.recovery ≤ 3000) && decide (x.slack ≤ 100) && decide (5 ≤ x.leadMin ∧ x.leadMin ≤ 399) &&
  decide (6 ≤ x.leadMax ∧ x.leadMax ≤ 400) && decide (x.slope ≤ 255) && decide (10 ≤ x.wMin ∧ x.wMin ≤ 600) &&
  decide (10 ≤ x.wMax ∧ x.wMax ≤ 600) && decide (1 ≤ x.cls ∧ x.cls ≤ 8) && decide (1 ≤ x.heatWarn ∧ x.heatWarn ≤ 65534) &&
  decide (2 ≤ x.heatRest ∧ x.heatRest ≤ 65535) && decide (x.heatRelease ≤ 65533) && decide (4 ≤ x.cooling ∧ x.cooling ≤ 12) &&
  decide (x.leadMin < x.leadMax) && decide (x.wMin ≤ x.wMax) && decide (x.heatRelease < x.heatWarn) &&
  decide (x.heatWarn < x.heatRest) && decide (x.substitute ≠ some b)

/-- A settings record with a pending record laid over it. -/
def Settings.over (x : Settings) (p : Patch) : Settings :=
  { recovery := p.recovery.getD x.recovery, slack := p.slack.getD x.slack, leadMin := p.leadMin.getD x.leadMin,
    leadMax := p.leadMax.getD x.leadMax, slope := p.slope.getD x.slope, wMin := p.wMin.getD x.wMin, wMax := p.wMax.getD x.wMax,
    cls := p.cls.getD x.cls, heatWarn := p.heatWarn.getD x.heatWarn, heatRest := p.heatRest.getD x.heatRest,
    heatRelease := p.heatRelease.getD x.heatRelease, cooling := p.cooling.getD x.cooling,
    substitute := p.substitute.getD x.substitute, learning := p.learning.getD x.learning }

/-- A pending record that names nothing. -/
def Patch.empty : Patch :=
  { recovery := none, slack := none, leadMin := none, leadMax := none, slope := none, wMin := none, wMax := none, cls := none,
    heatWarn := none, heatRest := none, heatRelease := none, cooling := none, substitute := none, learning := none, lead16 := none }

/-- The union of two pending records, the later one's values first (R14). -/
def Patch.merge (old new : Patch) : Patch :=
  { recovery := new.recovery <|> old.recovery, slack := new.slack <|> old.slack, leadMin := new.leadMin <|> old.leadMin,
    leadMax := new.leadMax <|> old.leadMax, slope := new.slope <|> old.slope, wMin := new.wMin <|> old.wMin,
    wMax := new.wMax <|> old.wMax, cls := new.cls <|> old.cls, heatWarn := new.heatWarn <|> old.heatWarn,
    heatRest := new.heatRest <|> old.heatRest, heatRelease := new.heatRelease <|> old.heatRelease,
    cooling := new.cooling <|> old.cooling, substitute := new.substitute <|> old.substitute, learning := new.learning <|> old.learning,
    lead16 := new.lead16 <|> old.lead16 }

/-- The pending record changes a heat threshold (R15). -/
def Patch.namesHeat (p : Patch) : Bool := p.heatWarn.isSome || p.heatRest.isSome || p.heatRelease.isSome

/-- lead16 clamped into the lead limits of a settings record (R3). -/
def Settings.clampLead (x : Settings) (l : Nat) : Nat := clampNat l (16 * x.leadMin) (16 * x.leadMax)

/-- A bell's record with a pending record applied whole (R15). -/
def Bell.apply (r : Bell) (p : Patch) : Bell :=
  { r with settings := r.settings.over p, lead16 := (r.settings.over p).clampLead (p.lead16.getD r.lead16), pending := none }

/-! ### Service states and the quiet point (R7, R12, R15, R39, R73 to R75) -/

/-- The bell is at its quiet point (R12). -/
def State.quiet (s : State) (b : BellNo) : Bool := (s.entriesOf b).isEmpty && decide ((s.bell b).hammer = .idle)

/-- A change of service state and its BELL report, with the number of entries it removed (R7). -/
def State.changeService (s : State) (b : BellNo) (st : Service) (cause : BellCause) (removed : Nat) : State :=
  (s.modBell b fun r => { r with service := st }).report (.bell b st cause removed)

/-- The service state the table of R73 moves a bell to, if it does. -/
def Bell.heatOutcome (r : Bell) : Option Service :=
  match r.service with
  | .inService => if r.settings.heatRest ≤ r.heat then some .resting else none
  | .resting => if r.heat < r.settings.heatRelease then some .inService else none
  | _ => none

/-- The pending settings applied to a bell that is quiet, with the heat tests of R15. The bell has no entries to
remove (R77). -/
def State.applySettings (s : State) (b : BellNo) (p : Patch) : State :=
  let s := s.modBell b fun r => r.apply p
  match p.namesHeat, (s.bell b).heatOutcome with
  | true, some st => s.changeService b st .heat 0
  | _, _ => s

/-- A test of the bell's quiet point: pending settings apply if it is quiet (R12, R15). -/
def State.quietPoint (s : State) (b : BellNo) : State :=
  match s.quiet b, (s.bell b).pending with
  | true, some p => s.applySettings b p
  | _, _ => s

/-- Removal of the entries that meet a condition, with its three consequences (R38): the counts, the free-slot event and the quiet
points of the bells concerned, these in the queue order of the entries removed (notes/assumptions/46.md). -/
def State.removeEntries (s : State) (p : Entry → Bool) : State :=
  (s.sched.queue.filter p).foldl (fun s e => s.quietPoint e.bell) (s.takeOut p).grantSlots

/-- The bell leaves IN_SERVICE or moves between the states out of service: its entries are removed with BELL_OUT, the BELL report carries
their number, and its quiet point is tested (R7, R39). -/
def State.leaveService (s : State) (b : BellNo) (st : Service) (cause : BellCause) : State :=
  (((s.takeOut fun e => e.bell = b).changeService b st cause (s.entriesOf b).length).grantSlots).quietPoint b

/-- The Heat Monitor's test of a bell (R73), with the rest of R74 or the release of R75. -/
def State.heatTest (s : State) (b : BellNo) : State :=
  match (s.bell b).heatOutcome with
  | some .resting => s.leaveService b .resting .heat
  | some st => s.changeService b st .heat 0
  | none => s

/-- A finding on a bell (R8): FAULTED with the kind, unless the bell is FAULTED already. -/
def State.finding (s : State) (b : BellNo) (kind : FaultKind) (cause : BellCause) : State :=
  match (s.bell b).service with
  | .faulted _ => s
  | _ => s.leaveService b (.faulted kind) cause

/-- A NOTE report, when note reports are enabled (R42). -/
def State.noteReport (s : State) (r : NoteReport) : State := if s.globals.noteReports then s.report (.note r) else s

end Sys2Proof.Machine
end

