-- ==== Sys2Proof/Machine/Operands.lean ====
section
/-! DEFINITION. The operand forms of the requests: numbers of bells, tunes and slots, and the judging of the fields of BELL SET, SETTINGS SET, PROGRAM SET, PLAY
NOW and TUNE EVENTS against their ranges. `none` is BAD_FIELD. -/

namespace Sys2Proof.Machine

open Sys2Proof

/-- The value lies in [a, b]. -/
def within (v a b : Nat) : Bool := decide (a ≤ v ∧ v ≤ b)

/-- A bell number, 0 to 47. -/
def bellOf (n : Nat) : Option BellNo := if h : n < 48 then some ⟨n, h⟩ else none

/-- A tune number, 1 to 96, as a place of the directory. -/
def tuneOf (n : Nat) : Option (Fin 96) := if h : 1 ≤ n ∧ n ≤ 96 then some ⟨n - 1, by omega⟩ else none

/-- A program slot number, 0 to 63. -/
def slotOf (n : Nat) : Option (Fin 64) := if h : n < 64 then some ⟨n, h⟩ else none

/-- Keeps a value that passes its test. -/
def keepIf {α : Type} (ok : Bool) (a : α) : Option α := if ok then some a else none

/-! ### BELL SET (R1, R13, R171) -/

/-- One named field joins the set of named fields: it must not be named already, and must lie in its range (R13 step 1). -/
def Patch.put (p : Patch) (field v : Nat) : Option Patch :=
  match field with
  | 0 => keepIf (p.recovery.isNone && within v 60 3000) { p with recovery := some v }
  | 1 => keepIf (p.slack.isNone && within v 0 100) { p with slack := some v }
  | 2 => keepIf (p.leadMin.isNone && within v 5 399) { p with leadMin := some v }
  | 3 => keepIf (p.leadMax.isNone && within v 6 400) { p with leadMax := some v }
  | 4 => keepIf (p.slope.isNone && within v 0 255) { p with slope := some v }
  | 5 => keepIf (p.wMin.isNone && within v 10 600) { p with wMin := some v }
  | 6 => keepIf (p.wMax.isNone && within v 10 600) { p with wMax := some v }
  | 7 => keepIf (p.cls.isNone && within v 1 8) { p with cls := some v }
  | 8 => keepIf (p.heatWarn.isNone && within v 1 65534) { p with heatWarn := some v }
  | 9 => keepIf (p.heatRest.isNone && within v 2 65535) { p with heatRest := some v }
  | 10 => keepIf (p.heatRelease.isNone && within v 0 65533) { p with heatRelease := some v }
  | 11 => keepIf (p.cooling.isNone && within v 4 12) { p with cooling := some v }
  | 12 => keepIf (p.substitute.isNone && (v == 255 || within v 0 47)) { p with substitute := some (bellOf v) }
  | 13 => keepIf (p.learning.isNone && within v 0 1) { p with learning := some (v == 1) }
  | 14 => keepIf p.lead16.isNone { p with lead16 := some v }
  | _ => none

/-- All the fields a BELL SET names. -/
def Patch.putAll (p : Patch) : List (Nat × Nat) → Option Patch
  | [] => some p
  | (f, v) :: rest => (p.put f v).bind fun p => p.putAll rest

/-- The record a BELL SET's pairs name; none when they name no field, a field twice or a field out of its range (R13 step 1). -/
def Patch.ofPairs (fs : List (Nat × Nat)) : Option Patch := if fs.isEmpty then none else Patch.empty.putAll fs

/-! ### SETTINGS SET (R164) -/

/-- The settings a SETTINGS SET names. -/
structure GlobalPatch where
  driveBudget : Option Nat
  stagger : Option Nat
  filter : Option Filter
  sweepPeriod : Option Nat
  strikeReports : Option Bool
  noteReports : Option Bool
  autoActive : Option Bool
  livePriority : Option Nat
  pulseEnable : Option Bool
  vNom : Option Nat
  deriving DecidableEq, Repr

/-- No setting named. -/
def GlobalPatch.empty : GlobalPatch :=
  { driveBudget := none, stagger := none, filter := none, sweepPeriod := none, strikeReports := none, noteReports := none,
    autoActive := none, livePriority := none, pulseEnable := none, vNom := none }

/-- A filter's number, in the order of R59. -/
def filterOf (v : Nat) : Filter :=
  match v with
  | 0 => .none
  | 1 => .twoOf2
  | 2 => .twoOf3
  | _ => .threeOf5

/-- One named setting: not named already, and in its range. -/
def GlobalPatch.put (p : GlobalPatch) (setting v : Nat) : Option GlobalPatch :=
  match setting with
  | 0 => keepIf (p.driveBudget.isNone && within v 4 64) { p with driveBudget := some v }
  | 1 => keepIf (p.stagger.isNone && within v 1 10) { p with stagger := some v }
  | 2 => keepIf (p.filter.isNone && within v 0 3) { p with filter := some (filterOf v) }
  | 3 => keepIf (p.sweepPeriod.isNone && within v 1 60) { p with sweepPeriod := some v }
  | 4 => keepIf (p.strikeReports.isNone && within v 0 1) { p with strikeReports := some (v == 1) }
  | 5 => keepIf (p.noteReports.isNone && within v 0 1) { p with noteReports := some (v == 1) }
  | 6 => keepIf (p.autoActive.isNone && within v 0 1) { p with autoActive := some (v == 1) }
  | 7 => keepIf (p.livePriority.isNone && within v 0 7) { p with livePriority := some v }
  | 8 => keepIf (p.pulseEnable.isNone && within v 0 1) { p with pulseEnable := some (v == 1) }
  | 9 => keepIf (p.vNom.isNone && within v 120 600) { p with vNom := some v }
  | _ => none

/-- All the settings a SETTINGS SET names. -/
def GlobalPatch.putAll (p : GlobalPatch) : List (Nat × Nat) → Option GlobalPatch
  | [] => some p
  | (f, v) :: rest => (p.put f v).bind fun p => p.putAll rest

/-- The settings a SETTINGS SET's pairs name; none when they name none, one twice or one out of its range (R164). -/
def GlobalPatch.ofPairs (fs : List (Nat × Nat)) : Option GlobalPatch := if fs.isEmpty then none else GlobalPatch.empty.putAll fs

/-- The global settings with the named ones replaced; the drive budget in force is the Drive Unit's to change (R53). -/
def Globals.over (g : Globals) (p : GlobalPatch) : Globals :=
  { driveBudget := g.driveBudget, stagger := p.stagger.getD g.stagger, filter := p.filter.getD g.filter,
    sweepPeriod := p.sweepPeriod.getD g.sweepPeriod, strikeReports := p.strikeReports.getD g.strikeReports,
    noteReports := p.noteReports.getD g.noteReports, autoActive := p.autoActive.getD g.autoActive,
    livePriority := p.livePriority.getD g.livePriority, pulseEnable := p.pulseEnable.getD g.pulseEnable, vNom := p.vNom.getD g.vNom }

/-- Every global setting lies in its range (R164). -/
def Globals.inRange (g : Globals) : Bool :=
  within g.driveBudget 4 64 && within g.stagger 1 10 && within g.sweepPeriod 1 60 && within g.livePriority 0 7 && within g.vNom 120 600

/-! ### PROGRAM SET and PLAY NOW (R126, R137, R150) -/

/-- A count mode and its n: FIXED 0 with n 1 to 24, HOUR12 1, HOUR24 2. -/
def countModeOf (mode n : Nat) : Option CountMode :=
  match mode with
  | 0 => keepIf (within n 1 24) (.fixed n)
  | 1 => some .hour12
  | 2 => some .hour24
  | _ => none

/-- TUNE 0, TOLL 1. -/
def kindOf (k : Nat) : Option SlotKind :=
  match k with
  | 0 => some .tune
  | 1 => some .toll
  | _ => none

/-- The date of a PROGRAM SET, when present: a day of the calendar (R137). -/
def dateOf (w : SlotWire) : Option (Option Date) :=
  match w.datePresent with
  | 0 => some none
  | 1 =>
    let d : Date := { year := w.year, month := w.month, day := w.day }
    keepIf d.valid (some d)
  | _ => none

/-- A slot's contents meet R137: an enabled slot has an hour, and a date or a weekday. -/
def SlotFields.complete (f : SlotFields) : Bool :=
  !f.enabled || (f.hours != 0 && (f.date.isSome || f.weekdays != 0))

/-- The ranges of R126, as a stored slot is judged at loading (R163). -/
def SlotFields.inRange (f : SlotFields) : Bool :=
  within f.second 0 59 && within f.minute 0 59 && (f.date.all Date.valid) && within f.tollDynamic 1 8 &&
  within f.tollInterval 500 10000 && (match f.countMode with | .fixed n => within n 1 24 | _ => true) && within f.priority 0 7 &&
  within f.lateLimit 0 600

/-- The fields of a PROGRAM SET (R137). -/
def slotFieldsOf (w : SlotWire) : Option SlotFields :=
  match dateOf w, kindOf w.kind, tuneOf w.tune, bellOf w.tollBell, countModeOf w.countMode w.n with
  | some date, some kind, some tune, some bell, some mode =>
    let f : SlotFields :=
      { enabled := w.enabled == 1, second := w.second, minute := w.minute, hours := BitVec.ofNat 24 w.hours, date := date,
        weekdays := BitVec.ofNat 7 w.weekdays, kind := kind, tune := tune, tollBell := bell, tollDynamic := w.tollDynamic,
        tollInterval := w.tollInterval, countMode := mode, priority := w.priority, lateLimit := w.lateLimit }
    keepIf (within w.enabled 0 1 && within w.weekdays 0 127 && f.inRange && f.complete) f
  | _, _, _, _, _ => none

/-- The fields of an accepted PLAY NOW. -/
structure PlayOrder where
  kind : SlotKind
  tune : Fin 96
  tollBell : BellNo
  tollDynamic : Nat
  tollInterval : Nat
  countMode : CountMode
  priority : Nat
  delay : Nat
  deriving DecidableEq, Repr

/-- The fields of a PLAY NOW, every one judged for its range (R150, R171). -/
def playOrderOf (w : PlayNowWire) : Option PlayOrder :=
  match kindOf w.kind, tuneOf w.tune, bellOf w.tollBell, countModeOf w.countMode w.n with
  | some kind, some tune, some bell, some mode =>
    keepIf (within w.tollDynamic 1 8 && within w.tollInterval 500 10000 && within w.priority 0 7 && within w.delay 0 600)
      { kind := kind, tune := tune, tollBell := bell, tollDynamic := w.tollDynamic, tollInterval := w.tollInterval,
        countMode := mode, priority := w.priority, delay := w.delay }
  | _, _, _, _ => none

/-- The stroke count of a toll due in hour h (R131). -/
def strokeCount (mode : CountMode) (h : Nat) : Nat :=
  match mode with
  | .fixed n => n
  | .hour12 => if h % 12 = 0 then 12 else h % 12
  | .hour24 => if h = 0 then 24 else h

/-! ### TUNE EVENTS (R97, R102) -/

/-- An event record whose bell, dynamic and nudge lie in their ranges (R102 step 2). -/
def eventOf (e : EventRec) : Option Event :=
  match bellOf e.bell with
  | some b => keepIf (within e.dynamic 1 8 && decide (-50 ≤ e.nudge ∧ e.nudge ≤ 50)) { step := e.step, bell := b, dynamic := e.dynamic, nudge := e.nudge }
  | none => none

/-- The record of an event, as the link carries it. -/
def Event.toRec (e : Event) : EventRec := { step := e.step, bell := e.bell.val, dynamic := e.dynamic, nudge := e.nudge }

/-- The CRC-16 over the four-byte records of events in order (R103). -/
def eventCrc (es : List Event) : Nat := (crc16 (es.flatMap fun e => encodeEvent e.toRec)).toNat

/-- A tune name: 0 to 16 printable characters (R96). -/
def nameOk (n : List Byte) : Bool := decide (n.length ≤ 16) && n.all fun c => within c.toNat 32 126

end Sys2Proof.Machine
end

