-- ==== Sys2Proof/Machine/Flags.lean ====
section
/-! DEFINITION. The input filters (R59, R121, R157), the class of a current reading (R54), the halt-cause flags and the standing condition of STATUS (R165). -/

namespace Sys2Proof.Machine

open Sys2Proof

/-! ### Filters -/

/-- A new sample joins a history of five, newest first. -/
def pushSample (h : List Bool) (x : Bool) : List Bool := (x :: h).take 5

/-- How many of the latest n samples are high. -/
def highs (h : List Bool) (n : Nat) : Nat := (h.take n).countP id

/-- A filter output after a sample: low, it rises when m of the latest n are high, high, it falls when fewer are (R59, R121). -/
def filterOut (m n : Nat) (h : List Bool) (out : Bool) : Bool :=
  if !out && decide (m ≤ highs h n) then true else if out && decide (highs h n < m) then false else out

/-- The number of latest samples a sensor filter counts over (R59). -/
def Filter.n : Filter → Nat
  | .none => 1
  | .twoOf2 => 2
  | .twoOf3 => 3
  | .threeOf5 => 5

/-- The count of high samples that raises a sensor filter's output (R59). -/
def Filter.m : Filter → Nat
  | .none => 1
  | .twoOf2 => 2
  | .twoOf3 => 2
  | .threeOf5 => 3

/-! ### Current (R54) -/

/-- The classes of R54. -/
inductive CurrentClass where
  | low
  | normal
  | high
  deriving DecidableEq, Repr

/-- The class of a reading, in 0.05 A steps, for a held class c (R54). -/
def currentClass (c reading : Nat) : CurrentClass :=
  if reading < 4 * c then .low else if 20 * c < reading then .high else .normal

/-! ### Flags of the part -/

/-- A write of the non-volatile store is in flight (R100). -/
def State.storeBusy (s : State) : Bool := s.nv.write.isSome

/-- No halt cause is present. -/
def Causes.isEmpty (c : Causes) : Bool := !c.supplyLow && !c.driverHot

/-- The highest standing condition (R165). -/
def State.condition (s : State) : Condition :=
  if s.ctl.causes.supplyLow then .supplyLow
  else if s.ctl.causes.driverHot then .driverHot
  else if 0 < s.countBells (fun r => r.service.code = 3) then .bellFaulted
  else if 0 < s.countBells (·.stale) then .sweepStale
  else if 0 < s.countBells (fun r => r.service.code = 2) then .bellResting
  else if s.warn then .driverWarm
  else if s.link.overflow then .reportOverflow
  else .nothing

end Sys2Proof.Machine
end

