-- ==== Sys2Proof/Machine/Drive.lean ====
section
/-! DEFINITION. The Drive Unit, the Capture Unit and the Heat Monitor's accumulation: widths (R47 to R49), drive starts (R46), drive ends (R50, R54 to R56),
cuts (R57), test pulses (R58), capture windows (R61 to R67) and learning (R65). -/

namespace Sys2Proof.Machine

open Sys2Proof

/-! ### Budget (R52, R53) -/

/-- No coil is in DRIVE. -/
def State.coilsFree (s : State) : Bool := s.bells.toList.all fun r => decide (r.hammer ≠ .drive)

/-- A pending budget applies when no coil is in DRIVE (R53). -/
def State.applyBudget (s : State) : State :=
  match s.drive.pendingBudget with
  | some v =>
    if s.coilsFree then { s with globals := { s.globals with driveBudget := v }, drive := { s.drive with pendingBudget := none } } else s
  | none => s

/-- The class held by a drive leaves the budget in use (R52), and a pending budget may apply. -/
def State.freeClass (s : State) (cls : Nat) : State :=
  ({ s with drive := { s.drive with inUse := s.drive.inUse - cls } }).applyBudget

/-! ### Width (R47 to R49) -/

/-- The base width (R47). -/
def baseWidth (x : Settings) (d : Nat) : Nat := x.wMin + (x.wMax - x.wMin) * (d - 1) / 7

/-- The effective supply (R48). -/
def vEff (vMeas : Option Nat) (vNom : Nat) : Nat := max (vMeas.getD vNom) (2 * vNom / 3)

/-- The scaled width (R48): round half up. -/
def scaledWidth (base vNom v : Nat) : Nat := (base * vNom + v / 2) / v

/-- The width of a drive: base, scaled, derated once when the coil or its driver is warm, clamped into [w_min, 600] (R49). -/
def driveWidth (x : Settings) (heat : Nat) (warn : Bool) (vMeas : Option Nat) (vNom d : Nat) : Nat :=
  let scaled := scaledWidth (baseWidth x d) vNom (vEff vMeas vNom)
  clampNat (if x.heatWarn ≤ heat ∨ warn then scaled * 3 / 4 else scaled) x.wMin Config.widthMax

/-- The width of a drive of the bell that starts now. -/
def State.widthFor (s : State) (b : BellNo) (d : Nat) : Nat :=
  driveWidth (s.bell b).settings (s.bell b).heat s.warn s.supply.vMeas s.globals.vNom d

/-! ### Heat (R71) -/

/-- Energy joins a bell's heat count, saturating, and the thresholds are tested (R71). -/
def State.accumulate (s : State) (b : BellNo) (energy : Nat) : State :=
  (s.modBell b fun r => { r with heat := min (r.heat + energy) Config.heatMax }).heatTest b

/-! ### Windows (R61 to R67) -/

/-- The learning divisor of the mode at the close (R65, R156). -/
def learningDivisor (m : Mode) : Int := if m = .commission then 2 else 8

/-- The learning step of a difference (R65 step 4). -/
def learningStep (diff divisor : Int) : Int :=
  if diff.tdiv divisor = 0 then (if 0 < diff then 1 else if diff < 0 then -1 else 0) else diff.tdiv divisor

/-- lead16 after learning a measured lead m4 at dynamic d (R65). -/
def learnedLead (x : Settings) (lead16 : Nat) (m4 : Int) (d : Nat) (divisor : Int) : Nat :=
  let m16 := 4 * m4 - x.slope * (5 - (d : Int))
  (clampInt (lead16 + learningStep (m16 - lead16) divisor) (16 * x.leadMin) (16 * x.leadMax)).toNat

/-- The STRIKE report of a closed window (R67). -/
def Window.strike (w : Window) (b : BellNo) : StrikeReport :=
  { bell := b, original := w.original, playId := w.playId, noteTime := w.noteTime, start := w.start, width := w.width,
    m4 := w.capture.map (·.edge - 4 * (w.start : Int)), error := w.capture.map (·.edge - 4 * w.noteTime), rebound := w.rebound.isSome }

/-- A STRIKE report, when strike reports are enabled (R67). -/
def State.strikeReport (s : State) (b : BellNo) (w : Window) : State :=
  if s.globals.strikeReports then s.report (.strike (w.strike b)) else s

/-- A window that closes without a capture: a miss (R63). -/
def State.missClose (s : State) (b : BellNo) (w : Window) : State :=
  let third := decide ((s.bell b).missRun + 1 = Config.missLimit)
  let s := (s.modBell b fun r => { r with window := none, missRun := min (r.missRun + 1) Config.missLimit }).strikeReport b w
  if third then s.finding b .noStrike .misses else s

/-- A window that closes with a capture at q value c: the miss run ends, and without a rebound the lead learns (R64). -/
def State.captureClose (s : State) (b : BellNo) (w : Window) (c : Int) : State :=
  let divisor := learningDivisor s.ctl.mode
  (s.modBell b fun r =>
    { r with
      window := none
      missRun := 0
      lead16 := if w.rebound.isNone && r.settings.learning then learnedLead r.settings r.lead16 (c - 4 * (w.start : Int)) w.dynamic divisor
                else r.lead16 }).strikeReport b w

/-- A full close of the bell's window, if it has one (R61, R63, R64). -/
def State.closeWindow (s : State) (b : BellNo) : State :=
  match (s.bell b).window with
  | none => s
  | some w =>
    match w.capture with
    | none => s.missClose b w
    | some c => s.captureClose b w c.edge

/-- The window of a drive that starts now (R61). -/
def newWindow (x : Settings) (e : Entry) (start width : Nat) : Window :=
  { original := e.original, playId := e.playId, noteTime := e.noteTime, dynamic := e.dynamic, start := start, width := width,
    openQ := 4 * (start + x.leadMin), closeQ := 4 * (start + x.leadMax), capture := none, rebound := none }

/-- An accepted edge at a bell, with its edge time, at the sample of q value q (R60 to R62). A rebound keeps the rise that set it. -/
def Window.edge (w : Window) (q : Nat) (edge : Int) : Window :=
  if w.openQ ≤ q ∧ q < w.closeQ then
    match w.capture, w.rebound with
    | none, _ => { w with capture := some { edge := edge, rise := q } }
    | some _, none => { w with rebound := some q }
    | some _, some _ => w
  else w

/-- The window with only those of its edges whose rising samples lie before q, as a new drive closing it at q takes it (R62). -/
def Window.before (w : Window) (q : Nat) : Window :=
  { w with capture := w.capture.filter fun c => decide (c.rise < q), rebound := w.rebound.filter fun rise => decide (rise < q) }

/-- One sample of one bell's sensor (R59, R60, R62). -/
def Bell.sense (r : Bell) (f : Filter) (q : Nat) (level : Bool) : Bell :=
  let hist := pushSample r.sensorHist level
  let out := filterOut f.m f.n hist r.sensorOut
  { r with
    sensorHist := hist
    sensorOut := out
    window := if out && !r.sensorOut then r.window.map (·.edge q ((q : Int) - (f.m - 1 : Nat))) else r.window }

/-! ### Drive ends and cuts (R50, R54 to R57) -/

/-- The coil of a drive is released: the hammer enters RETURN, or IDLE after a test pulse, the class is freed and the play is told
(R50, R57, R58). -/
def State.releaseCoil (s : State) (b : BellNo) (d : Drive) : State :=
  match d.kind with
  | .strike _ _ _ id =>
    ((s.modBell b fun r => { r with hammer := .swing, drive := none }).freeClass d.cls).driveNotice id
  | .testPulse => (s.modBell b fun r => { r with hammer := .idle, drive := none }).freeClass d.cls

/-- A cut of a drive or test pulse (R57): a drive's window is cancelled (R66), and the cut of a test pulse tests the quiet point (R12) at once, so that a BELL
report of the settings applied there comes before the PLAY reports of the halt (notes/assumptions/34.md). -/
def State.cutDrive (s : State) (b : BellNo) : State :=
  match (s.bell b).drive with
  | none => s
  | some d =>
    match d.kind with
    | .strike .. => (s.releaseCoil b d).modBell b fun r => { r with window := none }
    | .testPulse => (s.releaseCoil b d).quietPoint b

/-- A stale bell becomes fresh (R93). -/
def State.freshen (s : State) (b : BellNo) : State :=
  if (s.bell b).stale then
    (s.modBell b fun r => { r with stale := false }).report
      (.sweep b .fresh (s.bell b).lastVerified s.timer.ms s.globals.sweepPeriod)
  else s

/-- The coil has answered at run ms `t` (R55). -/
def State.verify (s : State) (b : BellNo) (t : Nat) : State :=
  (s.modBell b fun r => { r with verified := true, lastVerified := t }).freshen b

/-- The end of a dispatched drive with its end sample (R50, R55, R56). -/
def State.strikeEnd (s : State) (b : BellNo) (d : Drive) (reading : Nat) : State :=
  match currentClass d.cls reading with
  | .high => (s.cutDrive b).finding b .short .driveCurrent
  | .low => (s.releaseCoil b d).finding b .openCoil .driveCurrent
  | .normal => (s.releaseCoil b d).verify b (d.start + d.width / 10)

/-- The end of a test pulse with its sample (R58, R90): on NORMAL the sweep clears the verified mark again; the return to IDLE tests the
quiet point. -/
def State.pulseEnd (s : State) (b : BellNo) (d : Drive) (reading : Nat) : State :=
  match currentClass d.cls reading with
  | .high => ((s.releaseCoil b d).finding b .short .testPulse).quietPoint b
  | .low => ((s.releaseCoil b d).finding b .openCoil .testPulse).quietPoint b
  | .normal => (((s.releaseCoil b d).verify b d.start).modBell b fun r => { r with verified := false }).quietPoint b

/-- A dispatched drive's end time in 0.1 ms. -/
def Drive.endTenths (d : Drive) : Nat := d.start * 10 + d.width

/-- The bell's due drive end and return, settled by a volley before its tests (R35, R36). The return is a quiet point if the drive's end has removed the
bell's entries (R12, R51). -/
def State.settleDue (s : State) (b : BellNo) (reading : Nat) : State :=
  let s :=
    match (s.bell b).drive with
    | some d =>
      match d.kind with
      | .strike .. => if d.endTenths ≤ 10 * s.timer.ms then s.strikeEnd b d reading else s
      | .testPulse => s
    | none => s
  match (s.bell b).hammer, (s.bell b).readyTime with
  | .swing, some t => if t ≤ s.timer.ms then (s.modBell b fun r => { r with hammer := .idle }).quietPoint b else s
  | _, _ => s

/-! ### Starts (R46, R58) -/

/-- The entry is queued. -/
def State.queues (s : State) (e : Entry) : Bool := s.sched.queue.any e.same

/-- An entry leaves the queue by dispatch: its play counts it from queued to drives, and the free slot is offered (R32, R140). -/
def State.dispatchEntry (s : State) (e : Entry) : State :=
  ((s.setQueue (withoutEntry e s.sched.queue)).modPlay e.playId
    fun p => { p with queued := p.queued - 1, drives := p.drives + 1 }).grantSlots

/-- Steps 2 to 6 of a drive start (R46). -/
def State.energise (s : State) (e : Entry) : State :=
  let b := e.bell
  let x := (s.bell b).settings
  let start := e.fire.toNat
  let width := s.widthFor b e.dynamic
  let d : Drive :=
    { kind := .strike e.original e.noteTime e.dynamic e.playId, start := start, width := width, cls := x.cls, sampled := false }
  let s := { s with drive := { s.drive with inUse := s.drive.inUse + x.cls } }
  let s := s.modBell b fun r =>
    { r with hammer := .drive, drive := some d, lastDriveStart := some start, readyTime := some (start + x.recovery) }
  let s := s.dispatchEntry e
  let s := s.modBell b fun r => { r with window := some (newWindow x e start width) }
  s.accumulate b (width * x.cls)

/-- An early close of the bell's window by a drive start at run ms t: a close of the edges that rose before t (R46, R62). -/
def State.earlyClose (s : State) (b : BellNo) (t : Nat) : State :=
  (s.modBell b fun r => { r with window := r.window.map (·.before (4 * t)) }).closeWindow b

/-- A drive start (R46): an open window is closed first, and if that takes the bell out of service no drive starts. -/
def State.driveStart (s : State) (e : Entry) : State :=
  let s := s.earlyClose e.bell e.fire.toNat
  if (s.bell e.bell).service = .inService then s.energise e else s

/-- The Drive Unit's own tests of a test pulse (R58). -/
def State.pulseAllowed (s : State) (b : BellNo) : Bool :=
  decide ((s.bell b).hammer = .idle) && decide (s.drive.inUse + (s.bell b).settings.cls ≤ s.globals.driveBudget)

/-- The start of a test pulse (R58). -/
def State.pulseStart (s : State) (b : BellNo) : State :=
  let c := (s.bell b).settings.cls
  let d : Drive := { kind := .testPulse, start := s.timer.ms, width := Config.pulseWidth, cls := c, sampled := false }
  let s := { s with drive := { s.drive with inUse := s.drive.inUse + c } }
  (s.modBell b fun r => { r with hammer := .drive, drive := some d }).accumulate b (Config.pulseWidth * c)

/-! ### Volleys (R34 to R37) -/

/-- The entry's deferral by `step` ms is allowed: within slack, and not within recovery of another entry of its bell (R37). -/
def State.deferable (s : State) (e : Entry) (fire : Int) : Bool :=
  let x := (s.bell e.bell).settings
  decide (fire ≤ e.origFire + x.slack) &&
  (s.entriesOf e.bell).all fun y => e.same y || decide (x.recovery ≤ |y.fire - fire|)

/-- A deferral (R37): the entry moves later by the stagger, or is removed LATE. Its NOTE report comes before the BELL report of pending settings applied at the
quiet point that the removal brings about (notes/assumptions/49.md). -/
def State.deferEntry (s : State) (e : Entry) : State :=
  let fire := e.fire + s.globals.stagger
  if s.deferable e fire then
    s.setQueue (placeEntry { e with fire := fire } (withoutEntry e s.sched.queue))
  else (s.noteReport { reason := .late, atOffer := false, note := e }).removeEntries e.same

/-- One entry of a volley, whose bell's current-sense input reads `reading` (R36). -/
def State.takeEntry (reading : Nat) (s : State) (e : Entry) : State :=
  if !s.queues e then s
  else
    let s := s.settleDue e.bell reading
    if !s.queues e then s
    else if (s.bell e.bell).hammer ≠ .idle then s.deferEntry e
    else if s.drive.inUse + (s.bell e.bell).settings.cls ≤ s.globals.driveBudget then s.driveStart e
    else s.deferEntry e

/-- Every entry whose fire time has come, in queue order (R34). -/
def State.dueEntries (s : State) : List Entry := s.sched.queue.filter fun e => decide (e.fire ≤ s.now)

end Sys2Proof.Machine
end

