-- ==== Sys2Proof/Machine/Scheduler.lean ====
section
/-! DEFINITION. The offer of a note at the Strike Scheduler (R20 to R30), and the removal of a play's entries (R40). -/

namespace Sys2Proof.Machine

open Sys2Proof

/-- What an offer carries (R20). A note time of none is SOONEST. -/
structure Offer where
  bell : BellNo
  noteTime : Option Int
  dynamic : Nat
  priority : Nat
  source : Source
  playId : Nat
  deriving DecidableEq, Repr

/-- Which bell receives a note offered for b, and the original bell when it is redirected (R11); none is BELL_OUT. -/
def State.receiver (s : State) (b : BellNo) : Option (BellNo × Option BellNo) :=
  if (s.bell b).service = .inService then some (b, none)
  else
    match (s.bell b).settings.substitute with
    | some c => if (s.bell c).service = .inService then some (c, some b) else none
    | none => none

/-- The lead in ms of a dynamic (R23 steps 1 to 3). -/
def leadMs (x : Settings) (lead16 d : Nat) : Int :=
  (clampInt (lead16 + x.slope * (5 - (d : Int))) (16 * x.leadMin) (16 * x.leadMax) + 8) / 16

/-! ### Conflicts (R25 to R29) -/

/-- The queued entry X and the offered note E conflict (R25). -/
def Entry.clashes (recovery : Nat) (x e : Entry) : Bool :=
  decide (|x.fire - e.fire| < recovery) || decide (x.noteTime = e.noteTime)

/-- The queued entry X outranks the offered note E (R25). -/
def Entry.outranks (x e : Entry) : Bool :=
  decide (e.priority < x.priority) || (decide (x.priority = e.priority) && decide (x.noteTime ≤ e.noteTime))

/-- The note as an outranking note. -/
def Entry.asOutranker (x : Entry) : Outranker := .note x.noteTime x.source x.playId

/-- How an examination ends: the offer is dropped, or it is placed beside the bell's entries as moved, with those
removed. -/
inductive Verdict where
  | drop (by_ : Outranker)
  | place (e : Entry) (others : List Entry) (removed : List Entry)
  deriving DecidableEq, Repr

/-- A new fire time of the entry x lies at least a recovery from every other entry of the bell (R28). -/
def clearOf (recovery : Nat) (x : Entry) (fire : Int) (others : List Entry) : Bool :=
  others.all fun y => x.same y || decide (recovery ≤ |y.fire - fire|)

/-- The examination of R27 to R29. `todo` are the entries still to be examined, in queue order, `others` all the bell's entries as they stand.
An entry moved stands at its new place and is met there again (notes/assumptions/38.md). The first argument bounds the steps; running out, which 64
entries cannot, drops the note. -/
def examine (recovery slack : Nat) : Nat → List Entry → List Entry → List Entry → Entry → Verdict
  | 0, _, _, _, _ => .drop .lastDrive
  | _, [], others, removed, e => .place e others removed
  | fuel + 1, x :: todo, others, removed, e =>
    if !x.clashes recovery e then examine recovery slack fuel todo others removed e
    else if x.outranks e then
      if x.noteTime ≠ e.noteTime ∧ x.fire + recovery ≤ e.origFire + slack then
        examine recovery slack fuel todo others removed { e with fire := x.fire + recovery }
      else .drop x.asOutranker
    else if x.noteTime ≠ e.noteTime ∧ e.fire + recovery ≤ x.origFire + slack ∧ clearOf recovery x (e.fire + recovery) others then
      examine recovery slack fuel (placeEntry { x with fire := e.fire + recovery } todo)
        (others.map fun y => if x.same y then { y with fire := e.fire + recovery } else y) removed e
    else examine recovery slack fuel todo (withoutEntry x others) (removed ++ [x]) e

/-- More steps than an examination of 64 entries can take. -/
def examineFuel : Nat := 8192

/-! ### The steps of an offer -/

/-- A NOTE report of a player's offer that is dropped LATE or CONFLICT; a live note is answered instead (R42). -/
def State.offerReport (s : State) (reason : NoteReason) (e : Entry) : State :=
  match e.source with
  | .player _ => s.noteReport { reason := reason, atOffer := true, note := e }
  | .live => s

/-- The queue after an insertion: the bell's entries that did not move stay where they stand, those removed are gone, those moved are placed anew, and e
takes its place among them all (R19, R30). -/
def insertQueue (e : Entry) (others q : List Entry) : List Entry :=
  let stays := q.filter fun y => decide (y.bell ≠ e.bell ∨ y ∈ others)
  placeEntry e ((others.filter fun y => decide (y ∉ q)).foldl (fun q y => placeEntry y q) stays)

/-- The insertion of R30: the moves and removals decided, the removals' counts and reports in queue order, the free slots. -/
def State.insert (s : State) (e : Entry) (others removed : List Entry) : State :=
  let gone := s.sched.queue.filter fun y => removed.any y.same
  let s := s.setQueue (insertQueue e others s.sched.queue)
  let s := { s with sched := { s.sched with nextNumber := nextEntryNumber s.sched.nextNumber } }
  (gone.foldl (fun s y =>
    (s.countRemoved y).noteReport { reason := .conflict e.asOutranker, atOffer := false, note := y }) s).grantSlots

/-- Steps 6 and 7 (R26 to R30) for a note whose fire time and lateness are settled. -/
def State.offerPlace (s : State) (e : Entry) : OfferOutcome × State :=
  let r := s.bell e.bell
  let x := r.settings
  let drop (o : Outranker) : OfferOutcome × State :=
    (.conflict e.origFire o, s.offerReport (.conflict o) { e with fire := e.origFire })
  let ready : Option Entry :=
    match r.readyTime with
    | some t =>
      if (t : Int) ≤ e.fire then some e
      else if (t : Int) ≤ e.origFire + x.slack then some { e with fire := t }
      else none
    | none => some e
  match ready with
  | none => drop .lastDrive
  | some e =>
    match examine x.recovery x.slack examineFuel (s.entriesOf e.bell) (s.entriesOf e.bell) [] e with
    | .drop o => drop o
    | .place e others removed =>
      if s.slotsTaken < Config.queueCap + removed.length then
        (if e.late then .queuedLate e else .queued e, s.insert e others removed)
      else (.noSpace, s)

/-- An offer (R20 to R24, then `offerPlace`), with its one outcome. -/
def State.offer (s : State) (o : Offer) : OfferOutcome × State :=
  if s.ctl.mode ≠ .active ∧ s.ctl.mode ≠ .commission then (.wrongMode, s)
  else
    let d := clampNat o.dynamic 1 8
    match s.receiver o.bell with
    | none => (.bellOut, s)
    | some (b, original) =>
      let lead := leadMs (s.bell b).settings (s.bell b).lead16 d
      let noteTime := o.noteTime.getD (s.now + lead)
      let fire := noteTime - lead
      let e : Entry :=
        { number := s.sched.nextNumber, bell := b, original := original, noteTime := noteTime, fire := fire, origFire := fire, late := false,
          dynamic := d, priority := o.priority, source := o.source, playId := o.playId }
      if s.now ≤ fire then s.offerPlace e
      else if s.now - fire ≤ (s.bell b).settings.slack then s.offerPlace { e with fire := s.now, late := true }
      else (.late fire, s.offerReport .late e)

/-- A player's note is held while the slots are taken (R31), else offered. -/
def State.playerOffer (s : State) (p : PlayerNo) (b : BellNo) (noteTime : Int) (dynamic priority playId : Nat) : OfferOutcome × State :=
  if Config.queueCap ≤ s.slotsTaken then
    (.held, { s with sched := { s.sched with
      held := s.sched.held ++
        [{ bell := b, noteTime := noteTime, dynamic := dynamic, priority := priority, player := p, playId := playId }] } })
  else
    s.offer { bell := b, noteTime := some noteTime, dynamic := dynamic, priority := priority, source := .player p, playId := playId }

/-- The player has a note on the waiting list, granted or not (R31). -/
def State.holding (s : State) (p : PlayerNo) : Bool :=
  s.sched.held.any (·.player = p) || s.sched.granted.any (·.note.player = p)

/-- A stopped or cut play's entries are removed and its held note is discarded (R33, R40). -/
def State.discardPlay (s : State) (id : Nat) : State :=
  let s := s.discardHeld (·.playId = id)
  s.removeEntries (·.playId = id)

end Sys2Proof.Machine
end

