-- ==== Sys2Proof/Machine/PlayEngine.lean ====
section
/-! DEFINITION. The Play Engine: launches (R141 to R143), starts (R145), feeding (R146, R147), ends (R148, R149), the Pending Play Queue (R144), and the
taking and releasing of tune versions (R107). -/

namespace Sys2Proof.Machine

open Sys2Proof

/-! ### Versions (R107) -/

/-- The anchor offset of a version (R96). -/
def Version.anchorOffset (v : Version) : Nat := v.anchorStep * v.stepLength

/-- The CURRENT version of a tune. -/
def State.current (s : State) (t : Fin 96) : Option Version := s.tunes.slots[t].current

/-- The versions of a tune no longer CURRENT, newest first: the one in the RETIRING place of its slot, and those put out of it
(notes/assumptions/18.md). -/
def TuneStore.retiringOf (x : TuneStore) (t : Fin 96) : List Version :=
  x.slots[t].retiring.toList ++ (x.displaced.filter (·.1 = t)).map (·.2)

/-- All versions of a tune. -/
def TuneStore.versionsOf (x : TuneStore) (t : Fin 96) : List Version := x.slots[t].current.toList ++ x.retiringOf t

/-- Replaces the versions of a tune: its CURRENT one, and those no longer CURRENT, of which the newest has the RETIRING place. -/
def TuneStore.setVersions (x : TuneStore) (t : Fin 96) (current : Option Version) (retiring : List Version) : TuneStore :=
  { x with
    slots := x.slots.set t { current := current, retiring := retiring.head? }
    displaced := x.displaced.filter (·.1 ≠ t) ++ retiring.tail.map fun v => (t, v) }

/-- The version of a tune with a serial number, CURRENT or RETIRING. -/
def State.versionOf (s : State) (t : Fin 96) (serial : Nat) : Option Version := (s.tunes.versionsOf t).find? (·.serial = serial)

/-- A change of the Tune Store. -/
def State.modTunes (s : State) (f : TuneStore → TuneStore) : State := { s with tunes := f s.tunes }

/-- A take: the user count of the CURRENT version rises (R107). -/
def TuneStore.take (x : TuneStore) (t : Fin 96) : TuneStore :=
  { x with slots := x.slots.set t { x.slots[t] with current := x.slots[t].current.map fun v => { v with users := v.users + 1 } } }

/-- A release of the version with a serial number: its user count falls, and a RETIRING version without users is freed (R107). -/
def TuneStore.release (x : TuneStore) (t : Fin 96) (serial : Nat) : TuneStore :=
  let lower (v : Version) : Version := if v.serial = serial then { v with users := v.users - 1 } else v
  x.setVersions t (x.slots[t].current.map lower) (((x.retiringOf t).map lower).filter fun v => decide (0 < v.users))

/-- The version a play holds is released (R107). -/
def State.releaseVersion (s : State) (k : PlayKind) : State :=
  match k with
  | .tune t (some serial) => s.modTunes (·.release t serial)
  | _ => s

/-! ### Ends of plays (R149) -/

/-- The PLAY report of a play that ends (R149). -/
def Play.report (p : Play) (outcome : PlayOutcome) (run : Nat) : Report :=
  .play { outcome := outcome, playId := p.id, origin := p.origin, what := p.kind.what, due := p.due, dropped := p.dropped, run := run,
          started := p.start.map fun st => (p.s0, st, p.offered) }

/-- A play that held no player, or has left it, ends: its version is released and its report made. -/
def State.finish (s : State) (p : Play) (outcome : PlayOutcome) : State :=
  (s.releaseVersion p.kind).report (p.report outcome s.timer.ms)

/-- The play on a player ends and frees it for the INCOMING play or the next (R140). -/
def State.endPlay (s : State) (p : PlayerNo) (outcome : PlayOutcome) : State :=
  match (s.player p).play with
  | some q => (s.setPlayer p { s.player p with play := none }).finish q outcome
  | none => s

/-- The outcome a fixed outcome ends a play with (R142, R151). -/
def FixedOutcome.outcome : FixedOutcome → PlayOutcome
  | .stopped => .stopped true
  | .cut i => .cut i

/-- The outcome a running play ends with at this point, if it ends (R142, R148, R151). -/
def Play.endsNow (q : Play) : Option PlayOutcome :=
  match q.fixed with
  | some f => if q.drives = 0 then some f.outcome else none
  | none => if q.state = .draining ∧ q.queued = 0 ∧ q.drives = 0 then some .ended else none

/-- The player and outcome of a play that ends at this point, Player 0 first. -/
def State.ending (s : State) : Option (PlayerNo × PlayOutcome) :=
  match (s.player .p0).play.bind Play.endsNow with
  | some o => some (.p0, o)
  | none => ((s.player .p1).play.bind Play.endsNow).map fun o => (.p1, o)

/-! ### Starts (R145) -/

/-- A play starts on a player: it takes its version or ends MISSED NO_TUNE, and its actual start is fixed (R145). -/
def State.startPlay (s : State) (p : PlayerNo) (q : Play) : State :=
  let begin_ (kind : PlayKind) (s : State) : State :=
    s.setPlayer p
      { play := some { q with kind := kind, start := some (max q.s0 (s.now + Config.lateStart)), nextIndex := 0, state := .feeding }
        incoming := none }
  match q.kind with
  | .toll .. => begin_ q.kind s
  | .tune t _ =>
    match s.current t with
    | some v => begin_ (.tune t (some v.serial)) (s.modTunes (·.take t))
    | none => (s.setPlayer p Player.free).finish q (.missed .noTune)

/-- A player that holds an INCOMING play and no other (R142). -/
def State.incomingReady (s : State) : Option (PlayerNo × Play) :=
  match (s.player .p0).play, (s.player .p0).incoming with
  | none, some q => some (.p0, q)
  | _, _ =>
    match (s.player .p1).play, (s.player .p1).incoming with
    | none, some q => some (.p1, q)
    | _, _ => none

/-- The player holds no play (R141). -/
def Player.isFree (x : Player) : Bool := x.play.isNone && x.incoming.isNone

/-- The free player a play starts on: Player 0 when both are free (R141). -/
def State.freePlayer (s : State) : Option PlayerNo :=
  if (s.player .p0).isFree then some .p0 else if (s.player .p1).isFree then some .p1 else none

/-- The head of the Pending Play Queue is too late (R144). -/
def State.tooLate (s : State) (q : Play) : Bool := decide (q.due + q.lateLimit * 1000 < s.clock.wall)

/-! ### Feeding (R146, R147) -/

/-- The next note of a play that has started: bell, note time and dynamic (R98, R146, R147). -/
def State.nextNote (s : State) (q : Play) : Option (BellNo × Int × Nat) :=
  match q.start, q.kind with
  | some st, .toll b d interval n => if q.nextIndex < n then some (b, st + q.nextIndex * interval, d) else none
  | some st, .tune t (some serial) =>
    (s.versionOf t serial).bind fun v =>
      (v.events[q.nextIndex]?).map fun e => (e.bell, st + e.step * v.stepLength + e.nudge, e.dynamic)
  | _, _ => none

/-- The play on a player, when it is FEEDING and may offer: no note of it is held (R31, R146). -/
def State.feeder (s : State) (p : PlayerNo) : Option Play :=
  match (s.player p).play with
  | some q => if q.state = .feeding ∧ q.fixed = none ∧ s.holding p = false then some q else none
  | none => none

/-- A play whose last note has had its outcome enters DRAINING (R146, R147). -/
def State.drainIfDone (s : State) (p : PlayerNo) : State :=
  match (s.player p).play with
  | some q =>
    if q.state = .feeding ∧ (s.nextNote q).isNone then
      s.setPlayer p { s.player p with play := some { q with state := .draining } }
    else s
  | none => s

/-- What an offer's outcome does to its play (the table of R146). -/
def Play.take (q : Play) : OfferOutcome → Play
  | .queued _ => { q with queued := q.queued + 1, nextIndex := q.nextIndex + 1 }
  | .queuedLate _ => { q with queued := q.queued + 1, nextIndex := q.nextIndex + 1 }
  | .held => q
  | .bellOut => { q with dropped := q.dropped + 1, nextIndex := q.nextIndex + 1 }
  | .late _ => { q with dropped := q.dropped + 1, nextIndex := q.nextIndex + 1 }
  | .conflict _ _ => { q with dropped := q.dropped + 1, nextIndex := q.nextIndex + 1 }
  | .wrongMode => q
  | .noSpace => q

/-- The outcome of an offer comes back to the play of an id on a player. -/
def State.takeOutcome (s : State) (p : PlayerNo) (id : Nat) (o : OfferOutcome) : State :=
  (s.modPlay id (·.take o)).drainIfDone p

/-- The player may go on with its next note after the outcome. -/
def OfferOutcome.goesOn : OfferOutcome → Bool
  | .held => false
  | .wrongMode => false
  | .noSpace => false
  | _ => true

/-- One horizon arrival: the player's next note is offered if it lies within the horizon. The answer says whether the next note is
to be tested at once. -/
def State.feedOne (s : State) (p : PlayerNo) : Bool × State :=
  match s.feeder p with
  | none => (false, s)
  | some q =>
    match s.nextNote q with
    | none => (false, s.drainIfDone p)
    | some (b, t, d) =>
      if t - s.now ≤ Config.horizon then
        let r := (s.modPlay q.id fun q => { q with offered := q.offered + 1 }).playerOffer p b t d q.priority q.id
        (r.1.goesOn, r.2.takeOutcome p q.id r.1)
      else (false, s)

/-! ### What one event brings about (R142, R144, R145, R146, R148; notes/assumptions/17.md) -/

/-- Works off the consequences of an event in the Play Engine until none is left: plays that now end, notes within the horizon of the players
in `agenda`, INCOMING plays that start, and heads of the Pending Play Queue taken by free players. -/
def State.settleFrom : Nat → List PlayerNo → State → State
  | 0, _, s => s
  | fuel + 1, agenda, s =>
    match s.ending with
    | some (p, o) => State.settleFrom fuel agenda (s.endPlay p o)
    | none =>
      match agenda with
      | p :: rest =>
        let r := s.feedOne p
        State.settleFrom fuel (if r.1 then p :: rest else rest) r.2
      | [] =>
        match s.incomingReady with
        | some (p, q) => State.settleFrom fuel [p] (s.startPlay p q)
        | none =>
          if s.ctl.mode = .active then
            match s.freePlayer, s.engine.waiting with
            | some p, q :: rest =>
              let s := { s with engine := { s.engine with waiting := rest } }
              if s.tooLate q then State.settleFrom fuel [] (s.finish q (.missed .late))
              else State.settleFrom fuel [p] (s.startPlay p q)
            | _, _ => s
          else s

/-- The consequences of an event, with the horizon arrivals of some players. -/
def State.settleWith (s : State) (agenda : List PlayerNo) : State := State.settleFrom Config.settleFuel agenda s

/-- The consequences of an event, after all its other effects and reports (notes/assumptions/47.md). -/
def State.settle (s : State) : State := s.settleWith []

/-! ### Launches (R140 to R143) -/

/-- What a launch hands over (R130, R150), but for the present times. -/
structure Launch where
  origin : Origin
  kind : PlayKind
  anchorOffset : Nat
  priority : Nat
  lateLimit : Nat
  due : Nat
  deriving DecidableEq, Repr

/-- The id belongs to a play record still kept or to a drive still in DRIVE (R140). -/
def State.idTaken (s : State) (i : Nat) : Bool :=
  s.playRecords.any (·.id = i) ||
  s.bells.toList.any fun r =>
    match r.drive with
    | some d => (match d.kind with | .strike _ _ _ id => decide (id = i) | .testPulse => false)
    | none => false

/-- The next free play id at or after `i` (R140): 255 is followed by 1. -/
def State.freeIdFrom (s : State) : Nat → Nat → Nat
  | 0, i => i
  | fuel + 1, i => if s.idTaken i then s.freeIdFrom fuel (i % 255 + 1) else i

/-- The next play id the counter would give (R140, R154). -/
def State.nextId (s : State) : Nat := s.freeIdFrom 255 (s.engine.lastId % 255 + 1)

/-- The intended start (R141). -/
def State.intendedStart (s : State) (l : Launch) : Int := s.now + ((l.due : Int) - s.clock.wall) - l.anchorOffset

/-- The play record of a launch (R141). -/
def State.newPlay (s : State) (l : Launch) : Play :=
  { id := s.nextId, origin := l.origin, kind := l.kind, anchorOffset := l.anchorOffset, priority := l.priority, lateLimit := l.lateLimit,
    due := l.due, s0 := s.intendedStart l, start := none, nextIndex := 0, offered := 0, dropped := 0, queued := 0, drives := 0,
    state := .waiting, fixed := none, launchSeq := s.engine.nextLaunch }

/-- The play on a player that pre-emption may cut (R142). -/
def Player.candidate (x : Player) : Option Play :=
  match x.play, x.incoming with
  | some q, none => if q.fixed = none then some q else none
  | _, _ => none

/-- The candidate with the lowest priority, the later launch between equals (R142). -/
def State.victim (s : State) : Option (PlayerNo × Play) :=
  match (s.player .p0).candidate, (s.player .p1).candidate with
  | some a, some b =>
    if a.priority < b.priority ∨ (a.priority = b.priority ∧ b.launchSeq < a.launchSeq) then some (.p0, a) else some (.p1, b)
  | some a, none => some (.p0, a)
  | none, some b => some (.p1, b)
  | none, none => none

/-- The order of the Pending Play Queue (R143). -/
def Play.before (a b : Play) : Bool :=
  decide (a.due < b.due) ||
  (decide (a.due = b.due) &&
    (decide (b.priority < a.priority) || (decide (a.priority = b.priority) && decide (a.launchSeq ≤ b.launchSeq))))

/-- Places a waiting play (R143). -/
def placePlay (q : Play) : List Play → List Play
  | [] => [q]
  | x :: rest => if q.before x then q :: x :: rest else x :: placePlay q rest

/-- Of two waiting plays, the one to make room (R143): the lower priority, then the later due time, then the later launch. -/
def Play.weaker (a b : Play) : Bool :=
  decide (a.priority < b.priority) ||
  (decide (a.priority = b.priority) && (decide (b.due < a.due) || (decide (a.due = b.due) && decide (b.launchSeq < a.launchSeq))))

/-- The waiting play that makes room. -/
def weakest : List Play → Option Play
  | [] => none
  | q :: rest =>
    match weakest rest with
    | none => some q
    | some k => if q.weaker k then some q else some k

/-- Replaces the Pending Play Queue. -/
def State.setWaiting (s : State) (w : List Play) : State := { s with engine := { s.engine with waiting := w } }

/-- A launched play that must wait (R143). -/
def State.enqueue (s : State) (q : Play) : LaunchPlace × State :=
  if s.engine.waiting.length < Config.waitingCap then (.pending, s.setWaiting (placePlay q s.engine.waiting))
  else
    match weakest s.engine.waiting with
    | some k =>
      if k.priority < q.priority then
        (.pending, (s.setWaiting (placePlay q (s.engine.waiting.filter (·.id ≠ k.id)))).finish k (.missed .queueFull))
      else (.missedFull, s.finish q (.missed .queueFull))
    | none => (.missedFull, s.finish q (.missed .queueFull))

/-- The play is cut by the launched play, which is bound to its player (R142 steps 1 to 3). -/
def State.preempt (s : State) (p : PlayerNo) (victim q : Play) : LaunchPlace × State :=
  let s := s.modPlay victim.id fun v => { v with fixed := some (.cut q.id), state := .draining }
  let s := s.discardPlay victim.id
  (if victim.drives = 0 then .started else .incoming,
   s.setPlayer p { s.player p with incoming := some { q with state := .incoming } })

/-- A launch (R141) with all its consequences: the id given, the intended start and the place. -/
def State.launch (s : State) (l : Launch) : Nat × Int × LaunchPlace × State :=
  let q := s.newPlay l
  let s := { s with engine := { s.engine with lastId := q.id, nextLaunch := s.engine.nextLaunch + 1 } }
  match s.freePlayer with
  | some p => (q.id, q.s0, .started, (s.startPlay p q).settleWith [p])
  | none =>
    match s.victim with
    | some (p, v) =>
      if v.priority < q.priority then
        let r := s.preempt p v q
        (q.id, q.s0, r.1, r.2.settle)
      else
        let r := s.enqueue q
        (q.id, q.s0, r.1, r.2.settle)
    | none =>
      let r := s.enqueue q
      (q.id, q.s0, r.1, r.2.settle)

/-! ### Stops (R151) -/

/-- STOP reaches the play on a player (R151): the number of plays stopped, 0 or 1. -/
def State.stopRunning (s : State) (p : PlayerNo) (hit : Play → Bool) : Nat × State :=
  match (s.player p).play with
  | some q =>
    if hit q ∧ q.fixed = none then
      let s := (s.modPlay q.id fun v => { v with fixed := some .stopped, state := .draining }).discardPlay q.id
      (1, if q.drives = 0 then s.endPlay p (.stopped true) else s)
    else (0, s)
  | none => (0, s)

/-- STOP reaches the INCOMING play of a player (R151). -/
def State.stopIncoming (s : State) (p : PlayerNo) (hit : Play → Bool) : Nat × State :=
  match (s.player p).incoming with
  | some q => if hit q then (1, (s.setPlayer p { s.player p with incoming := none }).finish q (.stopped true)) else (0, s)
  | none => (0, s)

/-- STOP reaches the waiting plays (R151). -/
def State.stopWaiting (s : State) (hit : Play → Bool) : Nat × State :=
  let gone := s.engine.waiting.filter hit
  (gone.length, gone.foldl (fun s q => s.finish q (.stopped true)) (s.setWaiting (s.engine.waiting.filter fun q => !hit q)))

/-- STOP of the plays that meet a condition: Player 0, Player 1, the Pending Play Queue (notes/assumptions/25.md). -/
def State.stopPlays (s : State) (hit : Play → Bool) : Nat × State :=
  let a := s.stopRunning .p0 hit
  let b := a.2.stopIncoming .p0 hit
  let c := b.2.stopRunning .p1 hit
  let d := c.2.stopIncoming .p1 hit
  let e := d.2.stopWaiting hit
  (a.1 + b.1 + c.1 + d.1 + e.1, e.2.settle)

/-! ### The end of all plays at a mode change (R152) -/

/-- The plays of a player end with the outcome of the mode entered (R152), the running play before the INCOMING one (notes/assumptions/34.md). -/
def State.flushPlayer (s : State) (p : PlayerNo) (outcome : PlayOutcome) : State :=
  let x := s.player p
  let s := s.setPlayer p Player.free
  let s :=
    match x.play with
    | some q => s.finish q (match q.fixed with | some f => f.outcome | none => outcome)
    | none => s
  match x.incoming with
  | some q => s.finish q (.missed .flush)
  | none => s

/-- Every play ends (R152): Player 0, Player 1, then the Pending Play Queue in its order. -/
def State.flushPlays (s : State) (outcome : PlayOutcome) : State :=
  let s := (s.flushPlayer .p0 outcome).flushPlayer .p1 outcome
  s.engine.waiting.foldl (fun s q => s.finish q (.missed .flush)) (s.setWaiting [])

end Sys2Proof.Machine
end

