-- ==== Sys2Proof/Machine/BellTable.lean ====
section
/-! DEFINITION. The requests on the Bell Table: BELL SET (R13 to R15), BELL GET (R16) and BELL SERVICE (R9, R10). -/

namespace Sys2Proof.Machine

open Sys2Proof

/-- The prospective record of a BELL SET (R13 step 2). -/
def Bell.prospective (r : Bell) (p : Patch) : Settings := (r.settings.over (r.pending.getD Patch.empty)).over p

/-- BELL SET as its owner judges it (R13 to R15). -/
def ownBellSet (bell : Nat) (fields : List (Nat × Nat)) (s : State) : Result × ReplyBody × State :=
  match bellOf bell, Patch.ofPairs fields with
  | some b, some p =>
    let r := s.bell b
    let whole := (r.pending.getD Patch.empty).merge p
    if !(r.prospective p).wellFormed b then (.badField, .nothing, s)
    else if s.quiet b then (.ok, .bellSet true, s.applySettings b whole)
    else (.ok, .bellSet false, s.modBell b fun r => { r with pending := some whole })
  | _, _ => (.badField, .nothing, s)

/-- BELL SET (R13). -/
def execBellSet (tag : Byte) (bell : Nat) (fields : List (Nat × Nat)) (s : State) : Host.Outcome State Fault Refusal :=
  takeRequest 0x07 tag true (ownBellSet bell fields) s

/-- BELL GET as its owner answers it (R16). -/
def ownBellGet (bell : Nat) (s : State) : Result × ReplyBody × State :=
  match bellOf bell with
  | some b => (.ok, .bellGet b (s.bell b) (s.entriesOf b).length, s)
  | none => (.badField, .nothing, s)

/-- BELL GET (R16). -/
def execBellGet (tag : Byte) (bell : Nat) (s : State) : Host.Outcome State Fault Refusal :=
  takeRequest 0x08 tag true (ownBellGet bell) s

/-- The state a bell is taken back to, by its heat (R10). -/
def Bell.backTo (r : Bell) : Service := if r.settings.heatRest ≤ r.heat then .resting else .inService

/-- A bell is taken back into service with its miss run at 0 (R9, R10). -/
def State.returnBell (s : State) (b : BellNo) : State :=
  let st := (s.bell b).backTo
  (s.modBell b fun r => { r with missRun := 0 }).changeService b st .request 0

/-- The table of BELL SERVICE (R9): the result and the state after it. A withdrawal's removals may end plays. -/
def State.service (s : State) (b : BellNo) (action : Nat) : Result × State :=
  match action, (s.bell b).service with
  | 0, .withdrawn => (.ok, s)
  | 0, .faulted _ => (.ok, ((s.modBell b fun r => { r with missRun := 0 }).leaveService b .withdrawn .request).settle)
  | 0, _ => (.ok, (s.leaveService b .withdrawn .request).settle)
  | 1, .inService => (.ok, s)
  | 1, .withdrawn => (.ok, s.returnBell b)
  | 1, .resting => (.busy, s)
  | 1, .faulted _ => (.sequence, s)
  | _, .faulted _ => (.ok, s.returnBell b)
  | _, _ => (.sequence, s)

/-- BELL SERVICE as its owner judges it (R9). -/
def ownBellService (bell action : Nat) (s : State) : Result × ReplyBody × State :=
  match bellOf bell with
  | some b =>
    if 2 < action then (.badField, .nothing, s)
    else
      let r := s.service b action
      (r.1, if r.1 = .ok then .bellService (r.2.bell b).service else .nothing, r.2)
  | none => (.badField, .nothing, s)

/-- BELL SERVICE (R9). -/
def execBellService (tag : Byte) (bell action : Nat) (s : State) : Host.Outcome State Fault Refusal :=
  takeRequest 0x09 tag true (ownBellService bell action) s

end Sys2Proof.Machine
end

