-- ==== Sys2Proof/Machine/Modes.lean ====
section
/-! DEFINITION. The Mode Controller: what a change of mode does (R159), the console key (R157), the halt causes (R158), resume-pending (R160), and the commands SET
MODE and CONSOLE_KEY_SAMPLE. -/

namespace Sys2Proof.Machine

open Sys2Proof

/-- The mode empties the Firing Queue and ends every play when it is entered (R41, R152). -/
def Mode.flushes : Mode → Bool
  | .loading => true
  | .commission => false
  | .silent => true
  | .active => false
  | .console => true
  | .halt => true

/-- The outcome of a running play at entry to a mode (R152). -/
def Mode.playOutcome : Mode → PlayOutcome
  | .console => .console
  | .halt => .halted
  | _ => .stopped false

/-- Replaces the Mode Controller's state. -/
def State.setCtl (s : State) (c : ModeController) : State := { s with ctl := c }

/-- Cuts the dispatched drives in DRIVE (R57, R159), in order of bell number (notes/assumptions/46.md). -/
def State.cutStrikes (s : State) : State :=
  s.forBells fun b s =>
    match (s.bell b).drive with
    | some d => (match d.kind with | .strike .. => s.cutDrive b | .testPulse => s)
    | none => s

/-- Cuts every drive and test pulse and cancels every window (R57, R66), in order of bell number (notes/assumptions/46.md). -/
def State.cutAll (s : State) : State := s.forBells fun b s => (s.cutDrive b).modBell b fun r => { r with window := none }

/-- The column of R159 on coils and windows. -/
def State.modeCuts (s : State) (m : Mode) : State :=
  match m with
  | .halt => s.cutAll
  | .silent => s.cutStrikes
  | _ => s

/-- The flush of R41 and R33, with its counts: no free slot is granted. -/
def State.flushQueue (s : State) : State := (s.takeOut fun _ => true).discardHeld fun _ => true

/-- The quiet points that a flush reaches (R15, R41), in order of bell number (notes/assumptions/46.md). -/
def State.quietPoints (s : State) : State := s.forBells fun b s => s.quietPoint b

/-- A change of mode (R159): the MODE report first, then the cuts, the flush, the ends of plays and the quiet points. -/
def State.enterMode (s : State) (new : Mode) (remembered : Option Mode) (cause : ModeCause) : State :=
  let old := s.ctl.mode
  let removed := if new.flushes then s.sched.queue.length else 0
  let s := (s.setCtl { s.ctl with mode := new, remembered := remembered }).report (.mode old new cause s.ctl.causes remembered removed)
  let s := s.modeCuts new
  if new.flushes then (s.flushQueue.flushPlays new.playOutcome).quietPoints else s

/-- The modes a CONSOLE or HALT leaves and remembers (R157, R158). -/
def Mode.returnable : Mode → Bool
  | .commission => true
  | .silent => true
  | .active => true
  | _ => false

/-- The mode to return to, SILENT if none is remembered, which R156 rules out. -/
def ModeController.back (c : ModeController) : Mode := c.remembered.getD .silent

/-- A rise or fall of the key (R157), the new key state already noted. -/
def State.keyEvent (s : State) (asserted : Bool) : State :=
  if asserted then
    if s.ctl.mode.returnable then s.enterMode .console (some s.ctl.mode) .keyOn else s
  else if s.ctl.mode = .console then s.enterMode s.ctl.back none .keyOff
  else s

/-- A halt cause handed over as raised, the set already updated (R158). -/
def State.causeRaised (s : State) : State :=
  match s.ctl.mode with
  | .loading => s
  | .halt => s.report (.mode .halt .halt .haltRaised s.ctl.causes s.ctl.remembered 0)
  | .console => s.enterMode .halt s.ctl.remembered .haltRaised
  | m => s.enterMode .halt (some m) .haltRaised

/-- A halt cause handed over as cleared, the set already updated (R158). -/
def State.causeCleared (s : State) : State :=
  match s.ctl.mode with
  | .halt =>
    if s.ctl.causes.isEmpty then
      if s.ctl.keyOut then s.enterMode .console s.ctl.remembered .haltCleared else s.enterMode s.ctl.back none .haltCleared
    else s.report (.mode .halt .halt .haltCleared s.ctl.causes s.ctl.remembered 0)
  | _ => s

/-- Sets or clears a halt cause and hands the change over (R80, R82, R83, R158). -/
def State.setCauses (s : State) (c : Causes) (raised : Bool) : State :=
  let s := s.setCtl { s.ctl with causes := c }
  if raised then s.causeRaised else s.causeCleared

/-- The clock has become valid while resume-pending may be set (R160). -/
def State.clockBecameValid (s : State) : State :=
  if s.ctl.resumePending then
    let s := s.setCtl { s.ctl with resumePending := false }
    match s.ctl.mode, s.ctl.remembered with
    | .silent, _ => s.enterMode .active none .clockValid
    | .console, some .silent => s.setCtl { s.ctl with remembered := some .active }
    | .halt, some .silent => s.setCtl { s.ctl with remembered := some .active }
    | _, _ => s
  else s

/-- SET MODE as its owner judges it (R160). -/
def ownSetMode (named : Nat) (s : State) : Result × ReplyBody × State :=
  if ¬ named ≤ 1 then (.badField, .nothing, s)
  else
    match s.ctl.mode with
    | .silent =>
      if named = 0 then
        if s.clock.valid then
          (.ok, .mode .active, (s.setCtl { s.ctl with resumePending := false }).enterMode .active none .request)
        else (.clockInvalid, .nothing, s)
      else (.ok, .mode .silent, s.setCtl { s.ctl with resumePending := false })
    | .active =>
      if named = 1 then (.ok, .mode .silent, s.enterMode .silent none .request) else (.ok, .mode .active, s)
    | _ => (.wrongMode, .nothing, s)

/-- SET MODE (R160). -/
def execSetMode (tag : Byte) (mode : Nat) (s : State) : Host.Outcome State Fault Refusal :=
  takeRequest 0x02 tag true (ownSetMode mode) s

/-- The console key's filter after a sample, and whether the key state changed (R157). -/
def State.keySample (s : State) (high : Bool) : State :=
  let hist := pushSample s.ctl.keyHist high
  let out := filterOut 3 5 hist s.ctl.keyOut
  let changed := out != s.ctl.keyOut
  let s := s.setCtl { s.ctl with keyHist := hist, keyOut := out }
  if changed then s.keyEvent out else s

/-- CONSOLE_KEY_SAMPLE (R157): one sample at each whole run ms. -/
def execConsoleKeySample (high : Bool) (s : State) : Host.Outcome State Fault Refusal :=
  if s.timer.due.key then
    done (({ s with timer := { s.timer with due := { s.timer.due with key := false } } }).keySample high)
  else done s

end Sys2Proof.Machine
end

