-- ==== Sys2Proof/Machine/Tunes.lean ====
section
/-! DEFINITION. The Tune Store (chapter 6): the pool, uploads, the commit and its ends, deletion, and its readings. -/

namespace Sys2Proof.Machine

open Sys2Proof

/-! ### The pool (R99) -/

/-- The blocks the staging area holds. -/
def Staging.blocks : Staging → List Nat
  | .none => []
  | .opened u => u.blocks
  | .committing u => u.blocks

/-- The blocks of all versions and of the staging area. -/
def TuneStore.usedBlocks (t : TuneStore) : List Nat :=
  (t.slots.toList.flatMap fun x => (x.current.toList ++ x.retiring.toList).flatMap (·.blocks)) ++ (t.displaced.flatMap (·.2.blocks)) ++ t.staging.blocks

/-- The free blocks, lowest first (notes/assumptions/19.md). -/
def TuneStore.freeBlocks (t : TuneStore) : List Nat :=
  let used := t.usedBlocks
  (List.range Config.poolBlocks).filter fun b => !used.contains b

/-- The number of free blocks. -/
def State.freeCount (s : State) : Nat := s.tunes.freeBlocks.length

/-- The blocks n events need (R99). -/
def blocksFor (n : Nat) : Nat := ceilDiv n Config.blockEvents

/-- Replaces the staging area. -/
def State.setStaging (s : State) (x : Staging) : State := { s with tunes := { s.tunes with staging := x } }

/-- Starts a write of the non-volatile store (R100). -/
def State.startWrite (s : State) (w : Write) : State := { s with nv := { s.nv with write := some w } }

/-- Ends the write in flight. -/
def State.endWrite (s : State) : State := { s with nv := { s.nv with write := none } }

/-! ### Uploads (R101 to R103, R106) -/

/-- TUNE OPEN as its owner judges it (R101). -/
def ownTuneOpen (tune stepLength anchorStep declared : Nat) (name : List Byte) (s : State) : Result × ReplyBody × State :=
  match tuneOf tune with
  | none => (.badField, .nothing, s)
  | some t =>
    if !(nameOk name && within stepLength 10 2000 && within declared 1 2048 && decide (anchorStep * stepLength ≤ 600000)) then
      (.badField, .nothing, s)
    else if s.storeBusy then (.busy, .nothing, s)
    else if s.tunes.slots[t].retiring.isSome then (.busy, .nothing, s)
    else
      let discarded : Option (Fin 96) := match s.tunes.staging with | .opened u => some u.tune | _ => none
      let cleared := match s.tunes.staging with | .opened _ => s.setStaging .none | _ => s
      let free := cleared.tunes.freeBlocks
      let n := blocksFor declared
      if free.length < n then (.noSpace, .nothing, s)
      else
        let u : Upload :=
          { tune := t, name := name, stepLength := stepLength, anchorStep := anchorStep, declared := declared, blocks := free.take n,
            events := [], lastStep := none, stepBells := [], crc := 0 }
        (.ok, .tuneOpen n (free.length - n) discarded, cleared.setStaging (.opened u))

/-- TUNE OPEN (R101). -/
def execTuneOpen (tag : Byte) (tune stepLength anchorStep declared : Nat) (name : List Byte) (s : State) :
    Host.Outcome State Fault Refusal :=
  takeRequest 0x10 tag true (ownTuneOpen tune stepLength anchorStep declared name) s

/-- The result of examining one frame's events: the upload with them appended, or the failing position and its result. -/
inductive Staged where
  | all (u : Upload)
  | fails (position : Nat) (result : Result)
  deriving DecidableEq, Repr

/-- Appends an event whose place in the list is right (R102). -/
def Upload.append (u : Upload) (e : Event) : Upload :=
  { u with
    events := u.events ++ [e]
    lastStep := some e.step
    stepBells := if u.lastStep = some e.step then u.stepBells ++ [e.bell] else [e.bell] }

/-- The event's step lies before the last staged one, or its bell is already at that step (R102 step 2). -/
def Upload.breaksOrder (u : Upload) (e : Event) : Bool :=
  match u.lastStep with
  | none => false
  | some st => decide (e.step < st) || (decide (e.step = st) && u.stepBells.contains e.bell)

/-- The examination of R102 step 2, in order, from the frame position `pos`. An event out of range is BAD_FIELD whatever its order
(notes/assumptions/48.md). -/
def stageEvents (pos : Nat) (u : Upload) : List EventRec → Staged
  | [] => .all u
  | r :: rest =>
    match eventOf r with
    | none => .fails pos .badField
    | some e => if u.breaksOrder e then .fails pos .sequence else stageEvents (pos + 1) (u.append e) rest

/-- The last staged event lies at or after the anchor step, if the list is complete (R102 step 3). -/
def Upload.anchorOk (u : Upload) : Bool :=
  decide (u.events.length ≠ u.declared) || (match u.lastStep with | some st => decide (u.anchorStep ≤ st) | none => false)

/-- TUNE EVENTS as its owner judges it (R102). Without an upload the staged count is 0, and the position of the anchor test's BAD_FIELD is 0
(notes/assumptions/48.md). -/
def ownTuneEvents (tune first : Nat) (events : List EventRec) (s : State) : Result × ReplyBody × State :=
  match s.tunes.staging with
  | .opened u =>
    if tuneNumber u.tune ≠ tune ∨ u.events.length ≠ first ∨ u.declared < u.events.length + events.length then
      (.sequence, .tuneEvents u.events.length 0, s)
    else
      match stageEvents 1 u events with
      | .fails pos r => (r, .tuneEvents u.events.length pos, s)
      | .all v =>
        if v.anchorOk then (.ok, .tuneEventsOk v.events.length, s.setStaging (.opened v))
        else (.badField, .tuneEvents u.events.length 0, s)
  | .committing u => (.sequence, .tuneEvents u.events.length 0, s)
  | .none => (.sequence, .tuneEvents 0 0, s)

/-- TUNE EVENTS (R102). -/
def execTuneEvents (tag : Byte) (tune first : Nat) (events : List EventRec) (s : State) : Host.Outcome State Fault Refusal :=
  takeRequest 0x11 tag (decide (1 ≤ events.length ∧ events.length ≤ 60)) (ownTuneEvents tune first events) s

/-- The blocks a commit writes no longer hold what any entry stored there: its check fails, its event count can still be read
(notes/assumptions/20.md). -/
def NvStore.overwrite (n : NvStore) (blocks : List Nat) : NvStore :=
  { n with entries := n.entries.map fun o => o.map fun e =>
      { e with crcMatches := e.crcMatches && !(e.version.blocks.any fun b => blocks.contains b) } }

/-- TUNE CLOSE as its owner judges it (R103). Without an upload both counts are 0 (notes/assumptions/48.md). -/
def ownTuneClose (tune count crc : Nat) (s : State) : Result × ReplyBody × State :=
  match s.tunes.staging with
  | .opened u =>
    if tuneNumber u.tune ≠ tune ∨ count ≠ u.events.length ∨ count ≠ u.declared then
      (.sequence, .tuneCloseSequence u.events.length u.declared, s)
    else if eventCrc u.events ≠ crc then (.check, .tuneCloseCheck (eventCrc u.events), s)
    else if s.storeBusy then (.busy, .nothing, s)
    else
      let s := s.setStaging (.committing { u with crc := eventCrc u.events })
      (.started, .tuneCloseStarted, ({ s with nv := s.nv.overwrite u.blocks }).startWrite .commit)
  | .committing u => (.sequence, .tuneCloseSequence u.events.length u.declared, s)
  | .none => (.sequence, .tuneCloseSequence 0 0, s)

/-- TUNE CLOSE (R103). -/
def execTuneClose (tag : Byte) (tune count crc : Nat) (s : State) : Host.Outcome State Fault Refusal :=
  takeRequest 0x12 tag true (ownTuneClose tune count crc) s

/-- TUNE ABORT as its owner judges it (R106). -/
def ownTuneAbort (s : State) : Result × ReplyBody × State :=
  match s.tunes.staging with
  | .opened u => (.ok, .tuneAbort (some u.tune), s.setStaging .none)
  | .none => (.ok, .tuneAbort none, s)
  | .committing _ => (.busy, .nothing, s)

/-- TUNE ABORT (R106). -/
def execTuneAbort (tag : Byte) (s : State) : Host.Outcome State Fault Refusal := takeRequest 0x13 tag true ownTuneAbort s

/-! ### The commit's ends (R104, R105) -/

/-- The version an upload becomes. -/
def Upload.version (u : Upload) (serial : Nat) : Version :=
  { name := u.name, stepLength := u.stepLength, anchorStep := u.anchorStep, events := u.events, crc := u.crc, blocks := u.blocks,
    users := 0, serial := serial }

/-- The CURRENT version leaves its place: it becomes RETIRING with users, else it is freed (R105, R108). -/
def TuneStore.retire (x : TuneStore) (t : Fin 96) : TuneStore :=
  x.setVersions t none ((x.slots[t].current.toList.filter fun v => decide (0 < v.users)) ++ x.retiringOf t)

/-- A STORE report of the Tune Store (R109), with the free blocks as they now stand. -/
def State.tuneReport (s : State) (kind : StoreKind) (t : Fin 96) (op : StoreOp) (count blocks : Nat) (reason : Option StoreReason) : State :=
  s.report (.store { kind := kind, tune := tuneNumber t, op := op, count := count, blocks := blocks, free := s.freeCount, reason := reason })

/-- The directory switch of an upload (R105). -/
def State.switchDirectory (s : State) (u : Upload) : State :=
  let v := u.version s.tunes.nextSerial
  let s := { s with tunes := { s.tunes with staging := .none, nextSerial := s.tunes.nextSerial + 1 } }
  let s := s.modTunes fun x => (x.retire u.tune).setVersions u.tune (some v) ((x.retire u.tune).retiringOf u.tune)
  let s := { s with nv := { s.nv with
    entries := s.nv.entries.set u.tune (some { version := v, crcMatches := true, countReadable := true }), write := none } }
  s.tuneReport .committed u.tune .commit v.events.length v.blocks.length none

/-- DIRECTORY_SWITCH (R105): the commit in flight ends with its switch. -/
def execDirectorySwitch (s : State) : Host.Outcome State Fault Refusal :=
  match s.tunes.staging, s.nv.write with
  | .committing u, some .commit => done (s.switchDirectory u)
  | _, _ => done s

/-- COMMIT_FAILED (R104): the commit in flight ends because its read-back differs. -/
def execCommitFailed (s : State) : Host.Outcome State Fault Refusal :=
  match s.tunes.staging, s.nv.write with
  | .committing u, some .commit =>
    done ((s.setStaging .none).endWrite.tuneReport .failed u.tune .commit u.events.length u.blocks.length (some .write))
  | _, _ => done s

/-! ### Deletion (R108) -/

/-- TUNE DELETE as its owner judges it (R108): a tune without a CURRENT version is NOT_FOUND even while the store is busy
(notes/assumptions/50.md). -/
def ownTuneDelete (tune : Nat) (s : State) : Result × ReplyBody × State :=
  match tuneOf tune with
  | none => (.badField, .nothing, s)
  | some t =>
    match s.current t with
    | none => (.notFound, .nothing, s)
    | some v =>
      if s.storeBusy then (.busy, .nothing, s)
      else (.started, .nothing, (s.modTunes (·.retire t)).startWrite (.erase t v.events.length v.blocks.length))

/-- TUNE DELETE (R108). -/
def execTuneDelete (tag : Byte) (tune : Nat) (s : State) : Host.Outcome State Fault Refusal :=
  takeRequest 0x14 tag true (ownTuneDelete tune) s

/-- ERASE_END (R108, R109): the erase in flight ends. -/
def execEraseEnd (erased : Bool) (s : State) : Host.Outcome State Fault Refusal :=
  match s.nv.write with
  | some (.erase t count blocks) =>
    let s := s.endWrite
    if erased then
      done (({ s with nv := { s.nv with entries := s.nv.entries.set t none } }).tuneReport .erased t .erase count blocks none)
    else done (s.tuneReport .failed t .erase count blocks (some .write))
  | _ => done s

/-! ### Readings (R110) -/

/-- The staging area holds an upload for the tune: whether it is committing, and its counts when it is open. -/
def Staging.forTune : Staging → Fin 96 → Bool × Option (Nat × Nat)
  | .opened u, t => if u.tune = t then (false, some (u.events.length, u.declared)) else (false, Option.none)
  | .committing u, t => (decide (u.tune = t), Option.none)
  | .none, _ => (false, Option.none)

/-- TUNE INFO as its owner judges it (R110). -/
def ownTuneInfo (tune : Nat) (s : State) : Result × ReplyBody × State :=
  match tuneOf tune with
  | none => (.badField, .nothing, s)
  | some t =>
    let x := s.tunes.slots[t]
    let u := s.tunes.staging.forTune t
    if (s.tunes.versionsOf t).isEmpty && !u.1 && u.2.isNone then (.notFound, .nothing, s)
    else (.ok, .tuneInfo x.current x.retiring u.1 u.2, s)

/-- TUNE INFO (R110). -/
def execTuneInfo (tag : Byte) (tune : Nat) (s : State) : Host.Outcome State Fault Refusal :=
  takeRequest 0x15 tag true (ownTuneInfo tune) s

/-- The entries of TUNE LIST from a tune on: number, CURRENT event count and RETIRING user count, 0 for none. -/
def TuneStore.entriesFrom (t : TuneStore) (first : Fin 96) : List (Nat × Nat × Nat) :=
  ((List.finRange 96).filter fun i => decide (first.val ≤ i.val) && !(t.versionsOf i).isEmpty).map fun i =>
    (tuneNumber i, ((t.slots[i].current.map fun v => v.events.length).getD 0), ((t.slots[i].retiring.map (·.users)).getD 0))

/-- TUNE LIST as its owner judges it (R110). -/
def ownTuneList (first : Nat) (s : State) : Result × ReplyBody × State :=
  match tuneOf first with
  | none => (.badField, .nothing, s)
  | some t =>
    let all := s.tunes.entriesFrom t
    (.ok, .tuneList s.freeCount s.storeBusy s.tunes.staging (all.take 48) ((all.drop 48).head?.map (·.1)), s)

/-- TUNE LIST (R110). -/
def execTuneList (tag : Byte) (first : Nat) (s : State) : Host.Outcome State Fault Refusal :=
  takeRequest 0x16 tag true (ownTuneList first) s

/-! ### Loading (R111) -/

/-- The steps never fall and no bell comes twice at one step (R97). -/
def eventsOrdered : List Event → Bool
  | [] => true
  | e :: rest => (rest.all fun f => decide (e.step ≤ f.step) && !(decide (e.step = f.step) && decide (e.bell = f.bell))) && eventsOrdered rest

/-- A stored version obeys R96 and R97. -/
def Version.formOk (v : Version) : Bool :=
  nameOk v.name && within v.stepLength 10 2000 && decide (v.anchorStep ≤ 65535 ∧ v.anchorOffset ≤ 600000) &&
  within v.events.length 1 2048 &&
  (v.events.all fun e => decide (e.step ≤ 65535) && within e.dynamic 1 8 && decide (-50 ≤ e.nudge ∧ e.nudge ≤ 50)) &&
  eventsOrdered v.events && (match v.events.getLast? with | some e => decide (v.anchorStep ≤ e.step) | none => false) &&
  decide (v.blocks.length = blocksFor v.events.length) && decide v.blocks.Nodup && v.blocks.all fun b => decide (b < Config.poolBlocks)

/-- Why a stored version fails the load check, the blocks of the earlier loaded versions known (R111). -/
def StoredTune.failure (e : StoredTune) (used : List Nat) : Option StoreReason :=
  if !e.crcMatches then some .check
  else if !e.version.formOk || (e.version.blocks.any fun b => used.contains b) then some .form
  else none

/-- One directory entry at loading: the version enters as CURRENT, or its entry is erased and it joins the list of those removed. -/
def loadEntry (s : State) (gone : List (Fin 96 × StoredTune × StoreReason)) (t : Fin 96) : State × List (Fin 96 × StoredTune × StoreReason) :=
  match s.nv.entries[t] with
  | none => (s, gone)
  | some e =>
    match e.failure s.tunes.usedBlocks with
    | none =>
      let s := s.modTunes fun x => x.setVersions t (some { e.version with users := 0, serial := x.nextSerial }) []
      ({ s with tunes := { s.tunes with nextSerial := s.tunes.nextSerial + 1 } }, gone)
    | some why => ({ s with nv := { s.nv with entries := s.nv.entries.set t none } }, gone ++ [(t, e, why)])

/-- The rebuild of the directory at loading, with a REMOVED report for each version left out (R109, R111). The reports are made when all entries are read, so each
names the free blocks after the whole rebuild (notes/assumptions/22.md). -/
def State.loadDirectory (s : State) : State :=
  let r := (List.finRange 96).foldl (fun a t => loadEntry a.1 a.2 t) ({ s with tunes := TuneStore.start }, [])
  r.2.foldl (fun s g =>
    s.tuneReport .removed g.1 .load (if g.2.1.countReadable then g.2.1.version.events.length else 0)
      (if g.2.1.countReadable then g.2.1.version.blocks.length else 0) (some g.2.2)) r.1

end Sys2Proof.Machine
end

