-- ==== Sys2Proof/Machine/Scanner.lean ====
section
/-! DEFINITION. The Schedule Scanner (chapter 8): occurrences, crossings (R129), steps (R133, R134), and the requests on the Program Table. -/

namespace Sys2Proof.Machine

open Sys2Proof

/-! ### Occurrences (R127, R128) -/

/-- The anchor offset A of a slot (R128). -/
def State.anchorOf (s : State) (f : SlotFields) : Nat :=
  match f.kind with
  | .toll => 0
  | .tune => ((s.current f.tune).map Version.anchorOffset).getD 0

/-- The launch offset k in seconds (R128). -/
def launchOffset (a : Nat) : Nat := (a + Config.prelaunch + 999) / 1000

/-- The slot matches a whole wall second (R127). -/
def SlotFields.matchesAt (f : SlotFields) (d : Nat) : Bool :=
  f.enabled && decide (wallSecond d = f.second) && decide (wallMinute d = f.minute) && f.hours.getLsbD (wallHour d) &&
  (match f.date with
   | some date => decide (wallDate d = date)
   | none => f.weekdays.getLsbD (wallWeekday d - 1))

/-- The slot's occurrence after w and at or before w + k seconds (R129): second and minute fix its place in the hour. -/
def SlotFields.occurrenceAfter (f : SlotFields) (w k : Nat) : Option Nat :=
  let ahead := (f.minute * 60 + f.second + 3600 - w / 1000 % 3600) % 3600
  let delta := if ahead = 0 then 3600 else ahead
  let d := w + delta * 1000
  keepIf (decide (delta ≤ k ∧ d < Config.rangeEnd) && f.matchesAt d) d

/-- The latest instant at or before `limit` at the slot's place in the hour. -/
def SlotFields.placeBefore (f : SlotFields) (limit : Nat) : Int :=
  let sec := limit / 1000
  ((sec : Int) - ((sec % 3600 + 3600 - (f.minute * 60 + f.second)) % 3600 : Nat)) * 1000

/-- The slot's latest occurrence whose launch second is in reach of a forward step, searched backward hour by hour from a place in the
hour (R133). -/
def SlotFields.latestFrom (f : SlotFields) (w0 w1 k : Nat) (marker : Option Nat) : Nat → Int → Option Nat
  | 0, _ => none
  | n + 1, d =>
    let launchSecond : Int := d - k * 1000
    if 0 ≤ d ∧ d < (Config.rangeEnd : Int) ∧ (w0 : Int) < launchSecond ∧ (w1 : Int) - Config.dayMs ≤ launchSecond ∧ launchSecond ≤ w1 ∧
        (marker.all fun m => decide (m < d.toNat)) ∧ f.matchesAt d.toNat then
      some d.toNat
    else f.latestFrom w0 w1 k marker n (d - 3600000)

/-- The slot's latest occurrence made by a forward step from w0 to w1 (R133). -/
def SlotFields.latestPassed (f : SlotFields) (w0 w1 k : Nat) (marker : Option Nat) : Option Nat :=
  f.latestFrom w0 w1 k marker 26 (f.placeBefore (w1 + k * 1000))

/-! ### Coming due (R129 to R132) -/

/-- What a slot plays at a due time (R130, R131). -/
def SlotFields.playKind (f : SlotFields) (d : Nat) : PlayKind :=
  match f.kind with
  | .tune => .tune f.tune none
  | .toll => .toll f.tollBell f.tollDynamic f.tollInterval (strokeCount f.countMode (wallHour d))

/-- A PLAY report of the scanner (R136). -/
def State.scannerReport (s : State) (n : Fin 64) (f : SlotFields) (d : Nat) (outcome : PlayOutcome) : State :=
  s.report (.play { outcome := outcome, playId := 0, origin := .slot n, what := (f.playKind d).what, due := d, dropped := 0,
                    run := s.timer.ms, started := none })

/-- The slot's tune, if it plays one, has no CURRENT version. -/
def State.lacksTune (s : State) (f : SlotFields) : Bool :=
  match f.kind with
  | .tune => (s.current f.tune).isNone
  | .toll => false

/-- Writes a slot's marker (R132). -/
def State.mark (s : State) (n : Fin 64) (d : Nat) : State := { s with slots := s.slots.set n { s.slots[n] with marker := some d } }

/-- An occurrence that comes due, dealt with by the mode (R129, R133); `late` is the forward step's late test. -/
def State.comesDue (s : State) (n : Fin 64) (d : Nat) (late : Bool) : State :=
  let f := s.slots[n].fields
  let s := s.mark n d
  if s.ctl.mode ≠ .active then s.scannerReport n f d .suppressed
  else if late then s.scannerReport n f d (.missed .late)
  else if s.lacksTune f then s.scannerReport n f d (.missed .noTune)
  else
    (s.launch { origin := .slot n, kind := f.playKind d, anchorOffset := s.anchorOf f, priority := f.priority, lateLimit := f.lateLimit,
                due := d }).2.2.2

/-- One slot at a second crossing (R129). -/
def State.crossSlot (w : Nat) (s : State) (n : Fin 64) : State :=
  let x := s.slots[n]
  match x.fields.occurrenceAfter w (launchOffset (s.anchorOf x.fields)) with
  | some d => if x.marker.all fun m => decide (m < d) then s.comesDue n d false else s
  | none => s

/-- A second crossing offered to the scanner (R129); in LOADING it is passed over (R135). -/
def State.crossing (s : State) (w : Nat) : State :=
  if s.ctl.mode = .loading then s else (List.finRange 64).foldl (State.crossSlot w) s

/-- One slot at a forward step (R133). -/
def State.stepSlot (w0 w1 : Nat) (s : State) (n : Fin 64) : State :=
  let x := s.slots[n]
  match x.fields.latestPassed w0 w1 (launchOffset (s.anchorOf x.fields)) x.marker with
  | some d => s.comesDue n d (decide (d + x.fields.lateLimit * 1000 < w1))
  | none => s

/-- A step offered to the scanner: forward (R133), backward or zero (R134); in LOADING it is passed over (R135). -/
def State.scanStep (s : State) (w0 w1 : Nat) : State :=
  if s.ctl.mode = .loading ∨ w1 ≤ w0 then s else (List.finRange 64).foldl (State.stepSlot w0 w1) s

/-! ### Requests (R137, R138) -/

/-- The marker after an accepted PROGRAM SET (R137). -/
def State.setMarker (s : State) (m : Option Nat) : Option Nat :=
  if s.clock.valid then
    match m with
    | some d => if s.clock.wall < d then some d else some (wholeSecond s.clock.wall)
    | none => some (wholeSecond s.clock.wall)
  else none

/-- PROGRAM SET as its owner judges it (R137). -/
def ownProgramSet (slot : Nat) (w : SlotWire) (s : State) : Result × ReplyBody × State :=
  match slotOf slot, slotFieldsOf w with
  | some n, some f =>
    let m := s.setMarker s.slots[n].marker
    (.ok, .programSet n m, { s with slots := s.slots.set n { fields := f, marker := m } })
  | _, _ => (.badField, .nothing, s)

/-- PROGRAM SET (R137). -/
def execProgramSet (tag : Byte) (slot : Nat) (w : SlotWire) (s : State) : Host.Outcome State Fault Refusal :=
  takeRequest 0x18 tag true (ownProgramSet slot w) s

/-- PROGRAM GET as its owner judges it (R138). -/
def ownProgramGet (slot : Nat) (s : State) : Result × ReplyBody × State :=
  match slotOf slot with
  | some n =>
    let f := s.slots[n].fields
    (.ok, .programGet s.slots[n] (s.anchorOf f) (launchOffset (s.anchorOf f))
      (match f.kind with | .tune => some (s.current f.tune).isSome | .toll => none), s)
  | none => (.badField, .nothing, s)

/-- PROGRAM GET (R138). -/
def execProgramGet (tag : Byte) (slot : Nat) (s : State) : Host.Outcome State Fault Refusal :=
  takeRequest 0x19 tag true (ownProgramGet slot) s

/-- PROGRAM CLEAR as its owner judges it (R138). -/
def ownProgramClear (slot : Nat) (s : State) : Result × ReplyBody × State :=
  match slotOf slot with
  | some n =>
    (.ok, .nothing, { s with slots := s.slots.set n { s.slots[n] with fields := { s.slots[n].fields with enabled := false } } })
  | none => (.badField, .nothing, s)

/-- PROGRAM CLEAR (R138). -/
def execProgramClear (tag : Byte) (slot : Nat) (s : State) : Host.Outcome State Fault Refusal :=
  takeRequest 0x1A tag true (ownProgramClear slot) s

end Sys2Proof.Machine
end

