-- ==== Sys2Proof/Machine/Clock.lean ====
section
/-! DEFINITION. The Run Timer and the Wall Clock (chapter 7): the advance of one ms, slew, second crossings, SET TIME, GET TIME and the minute pulse. -/

namespace Sys2Proof.Machine

open Sys2Proof

/-! ### The wall clock's moves (R114 to R117) -/

/-- A CLOCK report (R124). -/
def State.clockReport (s : State) (r : ClockReport) : State := s.report (.clock r)

/-- The range end (R114): the wall time is held at a limit, the clock is not valid, the remainder is 0. -/
def State.rangeHold (s : State) (held : Nat) : State :=
  ({ s with clock := { s.clock with wall := held, valid := false, slew := 0, second := wholeSecond held } }).clockReport
    (.rangeEnd s.timer.ms held)

/-- The last wall instant of the range (R113). -/
def lastWall : Nat := Config.rangeEnd - 1

/-- A valid wall clock advances by n ms (R114, R117): past the range it is held, and a whole wall second reached is offered as a crossing. -/
def State.advanceWall (s : State) (n : Nat) : State :=
  let w := s.clock.wall + n
  if Config.rangeEnd ≤ w then s.rangeHold lastWall
  else if s.clock.second + 1000 ≤ w then
    ({ s with clock := { s.clock with wall := w, second := wholeSecond w } }).crossing (wholeSecond w)
  else { s with clock := { s.clock with wall := w } }

/-- The wall clock is stepped to w1 (R117, R119, R123): the remainder is 0 and the current second is set. -/
def State.stepTo (s : State) (w1 : Nat) : State :=
  { s with clock := { s.clock with wall := w1, slew := 0, second := wholeSecond w1 } }

/-! ### The advance of run time (R112) -/

/-- The periodic events of a run ms above 0 (the table under R112). -/
def dueAt (ms : Nat) : Due :=
  { slew := ms % 50 = 0, pulse := true, key := true, supply := ms % 10 = 0, temperature := ms % 100 = 0, cooling := ms % 100 = 0 }

/-- WALL_CLOCK_ADVANCE (R112, R114): one run ms passes. At a slew instant the wall clock's advance belongs to SLEW_INSTANT. A second crossing it makes is
taken before the samples of its ms, the minute pulse among them (R123, R129 leave the order open; notes/assumptions/4.md). -/
def execWallClockAdvance (s : State) : Host.Outcome State Fault Refusal :=
  let ms := s.timer.ms + 1
  let s := { s with timer := { ms := ms, tick := 0, quarters := 0, due := dueAt ms } }
  done (if s.clock.valid ∧ ms % 50 ≠ 0 then s.advanceWall 1 else s)

/-- The advance of a slew instant and the remainder after it (R116). -/
def slewMove (r : Int) : Nat × Int := if 0 < r then (2, r - 1) else if r < 0 then (0, r + 1) else (1, 0)

/-- SLEW_INSTANT (R116): one at each run time that is a multiple of 50. -/
def execSlewInstant (s : State) : Host.Outcome State Fault Refusal :=
  if s.timer.due.slew then
    let s := { s with timer := { s.timer with due := { s.timer.due with slew := false } } }
    if s.clock.valid then
      let m := slewMove s.clock.slew
      done (({ s with clock := { s.clock with slew := m.2 } }).advanceWall m.1)
    else done s
  else done s

/-! ### Requests (R118 to R120) -/

/-- A wall time named by a request (R118). -/
def wallOfRequest (year month day ms : Nat) : Option Nat :=
  let d : Date := { year := year, month := month, day := day }
  keepIf (d.valid && decide (ms < Config.dayMs)) (wallOf d ms)

/-- SET TIME as its owner judges it (R118, R119). -/
def ownSetTime (year month day ms : Nat) (s : State) : Result × ReplyBody × State :=
  match wallOfRequest year month day ms with
  | none => (.badField, .nothing, s)
  | some w1 =>
    let w0 := s.clock.wall
    let was := s.clock.valid
    let s := s.stepTo w1
    let s := { s with clock := { s.clock with valid := true } }
    (.ok, .setTime w0 was w1, if was then s.scanStep w0 w1 else s.clockBecameValid)

/-- SET TIME (R119). -/
def execSetTime (tag : Byte) (year month day ms : Nat) (s : State) : Host.Outcome State Fault Refusal :=
  takeRequest 0x05 tag true (ownSetTime year month day ms) s

/-- GET TIME as its owner answers it (R120). -/
def ownGetTime (s : State) : Result × ReplyBody × State :=
  (.ok, .getTime s.clock.wall s.clock.valid s.timer.ms s.clock.slew s.clock.lastPulse s.globals.pulseEnable, s)

/-- GET TIME (R120). -/
def execGetTime (tag : Byte) (s : State) : Host.Outcome State Fault Refusal := takeRequest 0x06 tag true ownGetTime s

/-! ### The minute pulse (R121 to R123) -/

/-- The offset of an edge whose edge wall time lies p ms after a minute boundary (R123). -/
def pulseOffset (p : Int) : Int := if p < 30000 then -p else 60000 - p

/-- A step by a minute pulse (R123), handled as the range end past either end (R114). -/
def State.pulseStep (s : State) (offset : Int) : State :=
  let w0 := s.clock.wall
  let w1 := (w0 : Int) + offset
  if w1 < 0 then s.rangeHold 0
  else if (Config.rangeEnd : Int) ≤ w1 then s.rangeHold lastWall
  else
    let w1 := w1.toNat
    ((s.stepTo w1).clockReport (.stepped s.timer.ms offset w0 w1)).scanStep w0 w1

/-- An accepted pulse with its edge time (R123). -/
def State.pulseAccepted (s : State) (edge : Nat) : State :=
  let offset := pulseOffset (((s.clock.wall : Int) - 2) % 60000)
  let s := { s with clock := { s.clock with lastPulse := some edge } }
  if -Config.slewMax ≤ offset ∧ offset ≤ Config.slewMax then { s with clock := { s.clock with slew := offset } } else s.pulseStep offset

/-- An edge that is not passed over, judged for its spacing (R122). -/
def State.judgeEdge (s : State) (edge : Nat) : State :=
  match s.clock.lastPulse with
  | some last =>
    if edge < last + Config.pulseSpacing then s.clockReport (.pulseRejected s.timer.ms edge (edge - last)) else s.pulseAccepted edge
  | none => s.pulseAccepted edge

/-- One sample of the minute-pulse input (R121). -/
def State.pulseSample (s : State) (high : Bool) : State :=
  let hist := pushSample s.clock.pulseHist high
  let out := filterOut 3 5 hist s.clock.pulseOut
  let edge := out && !s.clock.pulseOut
  let s := { s with clock := { s.clock with pulseHist := hist, pulseOut := out } }
  if edge && decide (s.ctl.mode ≠ .loading) && s.globals.pulseEnable && s.clock.valid then s.judgeEdge (s.timer.ms - 2) else s

/-- MINUTE_PULSE_SAMPLE (R121): one sample at each whole run ms. -/
def execMinutePulseSample (high : Bool) (s : State) : Host.Outcome State Fault Refusal :=
  if s.timer.due.pulse then
    done (({ s with timer := { s.timer with due := { s.timer.due with pulse := false } } }).pulseSample high)
  else done s

end Sys2Proof.Machine
end

