-- ==== Sys2Proof/Machine/SettingsStore.lean ====
section
/-! DEFINITION. The global settings and the Settings Store (R161, R163, R164): SETTINGS SET, SETTINGS GET, SAVE, COMMISSION END and the end of a settings write. -/

namespace Sys2Proof.Machine

open Sys2Proof

/-! ### Global settings (R164) -/

/-- The visit interval of a sweep period, in ms (R86). -/
def visitInterval (period : Nat) : Nat := period * 1250

/-- The interval timer starts afresh (R94, R95). -/
def State.restartSweep (s : State) : State :=
  { s with sweep := { s.sweep with next := some (s.nextWholeMs + visitInterval s.globals.sweepPeriod) } }

/-- V_nom has been taken: both supply runs are 0 (R84). -/
def State.resetRuns (s : State) : State := { s with supply := { s.supply with lowRun := 0, recoveryRun := 0 } }

/-- A named drive budget (R53): applied if no coil is in DRIVE, else pending. -/
def State.takeBudget (s : State) (v : Nat) : Bool × State :=
  if s.coilsFree then
    (true, { s with globals := { s.globals with driveBudget := v }, drive := { s.drive with pendingBudget := none } })
  else (false, { s with drive := { s.drive with pendingBudget := some v } })

/-- The settings of an accepted SETTINGS SET take effect (R164); the answer says APPLIED or PENDING for a named drive budget. -/
def State.applyGlobals (s : State) (p : GlobalPatch) : Option Bool × State :=
  let s := { s with globals := s.globals.over p }
  let s := if p.vNom.isSome then s.resetRuns else s
  let s := if p.sweepPeriod.isSome then s.restartSweep else s
  match p.driveBudget with
  | some v =>
    let r := s.takeBudget v
    (some r.1, r.2)
  | none => (none, s)

/-- SETTINGS SET as its owner judges it (R164). -/
def ownSettingsSet (fields : List (Nat × Nat)) (s : State) : Result × ReplyBody × State :=
  match GlobalPatch.ofPairs fields with
  | some p =>
    let r := s.applyGlobals p
    (.ok, .settingsSet r.1, r.2)
  | none => (.badField, .nothing, s)

/-- SETTINGS SET (R164). -/
def execSettingsSet (tag : Byte) (fields : List (Nat × Nat)) (s : State) : Host.Outcome State Fault Refusal :=
  takeRequest 0x0A tag true (ownSettingsSet fields) s

/-- SETTINGS GET as its owner answers it (R164). -/
def ownSettingsGet (s : State) : Result × ReplyBody × State := (.ok, .settingsGet s.globals s.drive.pendingBudget, s)

/-- SETTINGS GET (R164). -/
def execSettingsGet (tag : Byte) (s : State) : Host.Outcome State Fault Refusal := takeRequest 0x0B tag true ownSettingsGet s

/-! ### The stored settings area (R163) -/

/-- The copy that SAVE and COMMISSION END take (R163). -/
def State.settingsCopy (s : State) : StoredArea :=
  { globals := { s.globals with driveBudget := s.drive.pendingBudget.getD s.globals.driveBudget }
    bells := s.bells.map fun r => { settings := r.settings, lead16 := r.lead16, withdrawn := decide (r.service = .withdrawn) }
    slots := s.slots.map (·.fields)
    commissioned := s.ctl.commissioned }

/-- The contents of a stored area are in range, well formed and complete (R163), apart from the check value. -/
def StoredArea.formOk (a : StoredArea) : Bool :=
  a.globals.inRange &&
  ((List.finRange 48).all fun b => a.bells[b].settings.wellFormed b && decide (a.bells[b].lead16 ≤ 65535)) &&
  a.slots.toList.all fun f => f.inRange && f.complete

/-- Why the stored area fails its check, if it does (R163). -/
def NvStore.areaFailure (n : NvStore) : Option StoreReason :=
  if !n.areaMatches then some .check else if !n.area.formOk then some .form else none

/-- A STORE report of the Settings Store (R163). -/
def State.settingsReport (s : State) (kind : StoreKind) (op : StoreOp) (reason : Option StoreReason) : State :=
  s.report (.store { kind := kind, tune := 0, op := op, count := 0, blocks := 0, free := 0, reason := reason })

/-- SAVE as its owner judges it (R163). -/
def ownSave (s : State) : Result × ReplyBody × State :=
  if s.storeBusy then (.busy, .nothing, s) else (.started, .nothing, s.startWrite (.save s.settingsCopy))

/-- SAVE (R163). -/
def execSave (tag : Byte) (s : State) : Host.Outcome State Fault Refusal := takeRequest 0x0C tag true ownSave s

/-- COMMISSION END as its owner judges it (R161). -/
def ownCommissionEnd (s : State) : Result × ReplyBody × State :=
  if s.ctl.mode ≠ .commission then (.wrongMode, .nothing, s)
  else if s.storeBusy then (.busy, .nothing, s)
  else
    let s := (s.setCtl { s.ctl with commissioned := true }).enterMode .silent none .commissionEnd
    (.started, .nothing, s.startWrite (.commission s.settingsCopy))

/-- COMMISSION END (R161). -/
def execCommissionEnd (tag : Byte) (s : State) : Host.Outcome State Fault Refusal := takeRequest 0x03 tag true ownCommissionEnd s

/-- A settings write ends (R163): the copy replaces the stored area when the read-back matches. -/
def State.endSettingsWrite (s : State) (copy : StoredArea) (op : StoreOp) (matched : Bool) : State :=
  if matched then
    (({ s with nv := { s.nv with area := copy, areaMatches := true } }).endWrite).settingsReport .saved op none
  else s.endWrite.settingsReport .failed op (some .write)

/-- SETTINGS_WRITE_END (R161, R163). -/
def execSettingsWriteEnd (matched : Bool) (s : State) : Host.Outcome State Fault Refusal :=
  match s.nv.write with
  | some (.save copy) => done (s.endSettingsWrite copy .save matched)
  | some (.commission copy) => done (s.endSettingsWrite copy .commission matched)
  | _ => done s

end Sys2Proof.Machine
end

