-- ==== Sys2Proof/Machine/Guards.lean ====
section
/-! DEFINITION. The guards: cooling (R72), the driver temperature (R78 to R80), the supply (R81 to R83) and the Coil Sweep (chapter 5). -/

namespace Sys2Proof.Machine

open Sys2Proof

/-- A heat count after one cooling step with shift k (R72). -/
def cooled (h k : Nat) : Nat := h - (h / 2 ^ k + 1)

/-- The cooling step of one bell (R72): a count of 0 is passed over. -/
def State.coolBell (b : BellNo) (s : State) : State :=
  if (s.bell b).heat = 0 then s
  else (s.modBell b fun r => { r with heat := cooled r.heat r.settings.cooling }).heatTest b

/-- COOLING_STEP (R72): at each multiple of 100 ms. The bells are cooled, and those released reported (R75, R7), in order of bell number
(notes/assumptions/46.md). -/
def execCoolingStep (s : State) : Host.Outcome State Fault Refusal :=
  if s.timer.due.cooling then
    done (({ s with timer := { s.timer with due := { s.timer.due with cooling := false } } }).forBells State.coolBell)
  else done s

/-- The driver warn state after a reading (R79). -/
def warnAfter (warn : Bool) (celsius : Int) : Bool :=
  if !warn && decide (70 ≤ celsius) then true else if warn && decide (celsius < 65) then false else warn

/-- DRIVER_HOT after a reading (R80). -/
def hotAfter (hot : Bool) (celsius : Int) : Bool :=
  if !hot && decide (85 ≤ celsius) then true else if hot && decide (celsius < 75) then false else hot

/-- One temperature reading, saturated at -40 and +150 (R78 to R80). -/
def State.temperature (s : State) (celsius : Int) : State :=
  let c := clampInt celsius (-40) 150
  let hot := hotAfter s.ctl.causes.driverHot c
  let changed := hot != s.ctl.causes.driverHot
  let s := { s with warn := warnAfter s.warn c }
  if changed then s.setCauses { s.ctl.causes with driverHot := hot } hot else s

/-- DRIVER_TEMPERATURE_READING (R78): at each multiple of 100 ms. -/
def execDriverTemperatureReading (celsius : Int) (s : State) : Host.Outcome State Fault Refusal :=
  if s.timer.due.temperature then
    done (({ s with timer := { s.timer with due := { s.timer.due with temperature := false } } }).temperature celsius)
  else done s

/-- The sample is low (R82). -/
def supplyIsLow (v vNom : Nat) : Bool := decide (4 * v < 3 * vNom)

/-- The sample is good (R83). -/
def supplyIsGood (v vNom : Nat) : Bool := decide (9 * vNom ≤ 10 * v)

/-- Replaces the Supply Monitor's runs. -/
def State.setRuns (s : State) (low recovery : Nat) : State := { s with supply := { s.supply with lowRun := low, recoveryRun := recovery } }

/-- A sample while SUPPLY_LOW is absent (R82). -/
def State.judgeLow (s : State) (low : Bool) : State :=
  let run := if low then s.supply.lowRun + 1 else 0
  if 3 ≤ run then (s.setRuns 0 0).setCauses { s.ctl.causes with supplyLow := true } true else s.setRuns run s.supply.recoveryRun

/-- A sample while SUPPLY_LOW is present (R83). -/
def State.judgeRecovery (s : State) (good : Bool) : State :=
  let run := if good then s.supply.recoveryRun + 1 else 0
  if 200 ≤ run then (s.setRuns s.supply.lowRun 0).setCauses { s.ctl.causes with supplyLow := false } false
  else s.setRuns s.supply.lowRun run

/-- One supply sample, saturated at 1 000 (R81 to R83). -/
def State.supplySample (s : State) (volts : Nat) : State :=
  let v := min volts 1000
  let s := { s with supply := { s.supply with vMeas := some v } }
  if s.ctl.causes.supplyLow then s.judgeRecovery (supplyIsGood v s.globals.vNom) else s.judgeLow (supplyIsLow v s.globals.vNom)

/-- SUPPLY_SAMPLE (R81): at each multiple of 10 ms. -/
def execSupplySample (volts : Nat) (s : State) : Host.Outcome State Fault Refusal :=
  if s.timer.due.supply then
    done (({ s with timer := { s.timer with due := { s.timer.due with supply := false } } }).supplySample volts)
  else done s

/-! ### The Coil Sweep (R86 to R92) -/

/-- The modes in which an expiry is a visit (R86). -/
def Mode.sweeps : Mode → Bool
  | .silent => true
  | .active => true
  | .commission => true
  | _ => false

/-- The bell is IN_SERVICE or RESTING. -/
def Service.inReach : Service → Bool
  | .inService => true
  | .resting => true
  | _ => false

/-- A SWEEP report (R93). -/
def State.sweepReport (s : State) (b : BellNo) (k : SweepKind) : State :=
  s.report (.sweep b k (s.bell b).lastVerified s.timer.ms s.globals.sweepPeriod)

/-- The stale test of one bell (R92). -/
def State.staleTest (b : BellNo) (s : State) : State :=
  let r := s.bell b
  if r.service.inReach then
    if !r.stale && decide (2 * s.globals.sweepPeriod * 60000 + r.lastVerified < s.timer.ms) then
      (s.modBell b fun r => { r with stale := true }).sweepReport b .stale
    else s
  else if r.stale then (s.modBell b fun r => { r with stale := false }).sweepReport b .cleared
  else s

/-- The Coil Sweep's conditions of a test pulse (R89). -/
def State.pulseAsked (s : State) (b : BellNo) : Bool :=
  decide ((s.bell b).hammer = .idle) && (s.entriesOf b).all fun e => decide (s.now + 100 < e.fire)

/-- The visited bell is settled (R87 to R89). -/
def State.settleVisit (s : State) (b : BellNo) : State :=
  if (s.bell b).verified then s.modBell b fun r => { r with verified := false }
  else if (s.bell b).service.inReach && s.pulseAsked b && s.pulseAllowed b then s.pulseStart b
  else s

/-- A visit (R87): the stale test over all bells, the visited bell, and the pointer. -/
def State.visit (s : State) : State :=
  let b := s.sweep.pointer
  let s := (s.forBells State.staleTest).settleVisit b
  { s with sweep := { s.sweep with pointer := b + 1 } }

/-- INTERVAL_TIMER_EXPIRY (R86): a visit in a sweeping mode; the timer runs on. -/
def execIntervalTimerExpiry (s : State) : Host.Outcome State Fault Refusal :=
  match s.sweep.next with
  | some t =>
    if t ≤ s.timer.ms then
      let s := { s with sweep := { s.sweep with next := some (t + visitInterval s.globals.sweepPeriod) } }
      done ((if s.ctl.mode.sweeps then s.visit else s).settle)
    else done s
  | none => done s

end Sys2Proof.Machine
end

