-- ==== Sys2Proof/Machine/Starts.lean ====
section
/-! DEFINITION. The starts and the end of loading (R162): POWER_ON, RESET_PIN, RESTART_MADE and END_OF_LOADING, and the request RESTART (R175). -/

namespace Sys2Proof.Machine

open Sys2Proof

/-- The part in the event of a start (R162 and the start tables of every chapter), with the wall clock, the slots' markers and the non-volatile store
it starts with. -/
def startWith (strap : Bool) (clock : WallClock) (markers : Vector (Option Nat) 64) (nv : NvStore) (waiting : List Instr) : State :=
  { State.reset with
    clock := clock
    slots := markers.map fun m => { fields := SlotFields.empty, marker := m }
    nv := nv
    link := LinkPort.start strap
    pending := waiting }

/-- What a power loss leaves of the non-volatile store: a write in flight is lost (R104, R105, R108, R163). -/
def NvStore.afterPowerLoss (n : NvStore) : NvStore := { n with write := none }

/-- What a restart keeps of the wall clock (R125). -/
def WallClock.afterRestart (c : WallClock) : WallClock :=
  { c with lastPulse := none, pulseHist := [false, false, false, false, false], pulseOut := false }

/-- A power-on (R162): everything but the non-volatile store begins afresh. -/
def State.powerOn (s : State) (strap : Bool) : State :=
  startWith strap WallClock.powerOn (Vector.replicate 64 none) s.nv.afterPowerLoss s.pending

/-- A restart (R125, R139, R162): the wall clock and the markers are kept. -/
def State.restart (s : State) (strap : Bool) : State :=
  startWith strap s.clock.afterRestart (s.slots.map (·.marker)) s.nv s.pending

/-- POWER_ON (R162). -/
def execPowerOn (strap : Bool) (s : State) : Host.Outcome State Fault Refusal := done (s.powerOn strap)

/-- RESET_PIN (R162, R175): the restart is made at once, or held behind a write in flight with the transmitter stopped. -/
def execResetPin (strap : Bool) (s : State) : Host.Outcome State Fault Refusal :=
  if s.storeBusy then done { s with link := { s.link with tx := none, txStopped := true, restart := .due } }
  else done (s.restart strap)

/-- RESTART_MADE (R162, R175): a restart that is due is made once no write is in flight (notes/assumptions/6.md). -/
def execRestartMade (strap : Bool) (s : State) : Host.Outcome State Fault Refusal :=
  if s.link.restart = .due ∧ s.storeBusy = false then done (s.restart strap) else done s

/-- RESTART as its owner answers it (R175). -/
def ownRestart (s : State) : Result × ReplyBody × State := (.ok, .nothing, { s with link := { s.link with restart := .replying } })

/-- RESTART (R175). -/
def execRestart (tag : Byte) (s : State) : Host.Outcome State Fault Refusal := takeRequest 0x04 tag true ownRestart s

/-! ### The end of loading (R162) -/

/-- A bell record after loading from the stored area: every row of the table of R17. -/
def StoredBell.record (x : StoredBell) (r : Bell) : Bell :=
  { r with
    settings := x.settings, lead16 := x.settings.clampLead x.lead16, service := if x.withdrawn then .withdrawn else .inService
    pending := none, missRun := 0, verified := false, stale := false, lastVerified := 0, lastDriveStart := none, readyTime := none }

/-- The loaded settings take effect (R162, R163). -/
def State.loadArea (s : State) (a : StoredArea) : State :=
  { s with
    globals := a.globals
    bells := s.bells.zipWith (fun r x => x.record r) a.bells
    slots := s.slots.zipWith (fun x f => { x with fields := f }) a.slots
    ctl := { s.ctl with commissioned := a.commissioned } }

/-- The Settings Store's load: its contents, or on a failed check the defaults with a report DEFAULTED (R163). -/
def State.loadSettings (s : State) : State :=
  match s.nv.areaFailure with
  | none => s.loadArea s.nv.area
  | some why => (s.loadArea StoredArea.default).settingsReport .defaulted .load (some why)

/-- The target mode, and whether resume-pending is set (the table of R162). -/
def targetMode (commissioned autoActive clockValid : Bool) : Mode × Bool :=
  if !commissioned then (.commission, false)
  else if !autoActive then (.silent, false)
  else if clockValid then (.active, false)
  else (.silent, true)

/-- The mode at the end of loading is decided (R162). -/
def State.endLoading (s : State) : State :=
  let t := targetMode s.ctl.commissioned s.globals.autoActive s.clock.valid
  let s := s.setCtl { s.ctl with resumePending := t.2 }
  if !s.ctl.causes.isEmpty then s.enterMode .halt (some t.1) .loadDone
  else if s.ctl.keyOut then s.enterMode .console (some t.1) .loadDone
  else s.enterMode t.1 none .loadDone

/-- END_OF_LOADING (R162): the directory and the settings are loaded, the runs reset (R84), the interval timer started (R95), the mode decided. -/
def execEndOfLoading (s : State) : Host.Outcome State Fault Refusal :=
  if s.ctl.mode = .loading then done ((s.loadDirectory.loadSettings).resetRuns.restartSweep.endLoading) else done s

end Sys2Proof.Machine
end

