-- ==== Sys2Proof/Machine/Requests.lean ====
section
/-! DEFINITION. The requests of the Play Engine, the Live Lane, the Strike Scheduler and the Mode Controller's STATUS: PLAY NOW (R150), STOP (R151), PLAYS (R154), LIVE
NOTE (R153), QUEUE (R43) and STATUS (R165). -/

namespace Sys2Proof.Machine

open Sys2Proof

/-- The launch of an accepted PLAY NOW (R150). Its due time counts on past the end of the wall range, which the manual leaves open
(notes/assumptions/23.md). -/
def State.playNowLaunch (s : State) (o : PlayOrder) : Launch :=
  let due := s.clock.wall + o.delay * 1000
  match o.kind with
  | .tune =>
    { origin := .playNow, kind := .tune o.tune none, anchorOffset := ((s.current o.tune).map Version.anchorOffset).getD 0,
      priority := o.priority, lateLimit := Config.playNowLate, due := due }
  | .toll =>
    { origin := .playNow, kind := .toll o.tollBell o.tollDynamic o.tollInterval (strokeCount o.countMode (wallHour due)), anchorOffset := 0,
      priority := o.priority, lateLimit := Config.playNowLate, due := due }

/-- PLAY NOW as its owner judges it (R150). -/
def ownPlayNow (w : PlayNowWire) (s : State) : Result × ReplyBody × State :=
  match playOrderOf w with
  | none => (.badField, .nothing, s)
  | some o =>
    if s.ctl.mode ≠ .active then (.wrongMode, .nothing, s)
    else if !s.clock.valid then (.clockInvalid, .nothing, s)
    else if o.kind = .tune ∧ s.current o.tune = none then (.notFound, .nothing, s)
    else
      let l := s.playNowLaunch o
      let r := s.launch l
      (.ok, .playNow r.1 l.due r.2.1 r.2.2.1, r.2.2.2)

/-- PLAY NOW (R150). -/
def execPlayNow (tag : Byte) (w : PlayNowWire) (s : State) : Host.Outcome State Fault Refusal :=
  takeRequest 0x1C tag true (ownPlayNow w) s

/-- STOP as its owner judges it (R151). -/
def ownStop (scope playId : Nat) (s : State) : Result × ReplyBody × State :=
  match scope with
  | 0 =>
    if playId = 0 then (.badField, .nothing, s)
    else if s.playRecords.any (·.id = playId) then
      let r := s.stopPlays (·.id = playId)
      (.ok, .stop r.1, r.2)
    else (.notFound, .nothing, s)
  | 1 =>
    let r := s.stopPlays fun _ => true
    (.ok, .stop r.1, r.2)
  | _ => (.badField, .nothing, s)

/-- STOP (R151). -/
def execStop (tag : Byte) (scope playId : Nat) (s : State) : Host.Outcome State Fault Refusal :=
  takeRequest 0x1D tag true (ownStop scope playId) s

/-- A play as PLAYS shows it (R154): a TUNE play that has started with its version's event count and CRC. -/
def State.playView (s : State) (q : Play) : PlayView :=
  let v : Option Version :=
    match q.kind with
    | .tune t (some serial) => s.versionOf t serial
    | _ => none
  { play := q
    retiring := match q.kind with
      | .tune t (some serial) => (s.tunes.retiringOf t).any (·.serial = serial)
      | _ => false
    count := v.map fun v => v.events.length
    crc := v.map (·.crc) }

/-- PLAYS as its owner answers it (R154). -/
def ownPlays (s : State) : Result × ReplyBody × State :=
  let views (x : Player) : List PlayView := (x.play.toList ++ x.incoming.toList).map s.playView
  (.ok, .plays (views s.engine.player0) (views s.engine.player1) s.engine.waiting s.nextId s.globals.livePriority, s)

/-- PLAYS (R154). -/
def execPlays (tag : Byte) (s : State) : Host.Outcome State Fault Refusal := takeRequest 0x1E tag true ownPlays s

/-- The result code of a LIVE NOTE's outcome (R153). -/
def OfferOutcome.result : OfferOutcome → Result
  | .wrongMode => .wrongMode
  | .noSpace => .noSpace
  | _ => .ok

/-- What a LIVE NOTE's insertion brings about at the plays whose entries it removed; a note that is not queued changes nothing. -/
def OfferOutcome.follow : OfferOutcome → State → State
  | .queued _, s => s.settle
  | .queuedLate _, s => s.settle
  | _, s => s

/-- LIVE NOTE as its owner judges it (R153, R177). -/
def ownLiveNote (bell dynamic timeMode noteTime : Nat) (s : State) : Result × ReplyBody × State :=
  match bellOf bell with
  | none => (.badField, .nothing, s)
  | some b =>
    if 1 < timeMode then (.badField, .nothing, s)
    else
      let r := s.offer { bell := b, noteTime := if timeMode = 0 then none else some noteTime, dynamic := dynamic,
                         priority := s.globals.livePriority, source := .live, playId := 0 }
      (r.1.result, .liveNote r.1, r.1.follow r.2)

/-- LIVE NOTE (R153). -/
def execLiveNote (tag : Byte) (bell dynamic timeMode noteTime : Nat) (s : State) : Host.Outcome State Fault Refusal :=
  takeRequest 0x1F tag true (ownLiveNote bell dynamic timeMode noteTime) s

/-- A player's held note and whether it has been granted (R43). -/
def State.heldOf (s : State) (p : PlayerNo) : Option (Held × Bool) :=
  ((s.sched.held.find? (·.player = p)).map (·, false)) <|> ((s.sched.granted.find? (·.note.player = p)).map fun g => (g.note, true))

/-- QUEUE as its owner answers it (R43). -/
def ownQueue (s : State) : Result × ReplyBody × State :=
  (.ok, .queue s.sched.queue.length s.sched.granted.length (s.heldOf .p0) (s.heldOf .p1) (s.sched.queue.take 7), s)

/-- QUEUE (R43). -/
def execQueue (tag : Byte) (s : State) : Host.Outcome State Fault Refusal := takeRequest 0x20 tag true ownQueue s

/-- A player as STATUS shows it (R165, R177). -/
def Player.shown (x : Player) : Option (PlayState × Nat) := (x.incoming <|> x.play).map fun q => (q.state, q.id)

/-- What STATUS carries (R165). -/
def State.statusView (s : State) : StatusView :=
  { mode := s.ctl.mode, remembered := s.ctl.remembered, causes := s.ctl.causes, clockValid := s.clock.valid,
    resumePending := s.ctl.resumePending, commissioned := s.ctl.commissioned, storeBusy := s.storeBusy, overflow := s.link.overflow,
    linkError := s.link.linkError, depth := s.sched.queue.length, player0 := s.engine.player0.shown, player1 := s.engine.player1.shown,
    waiting := s.engine.waiting.length, inService := s.countBells fun r => r.service.code = 0,
    withdrawn := s.countBells fun r => r.service.code = 1, resting := s.countBells fun r => r.service.code = 2,
    faulted := s.countBells fun r => r.service.code = 3, condition := s.condition }

/-- STATUS as its owner answers it (R165): the read clears the overflow and link-error flags. -/
def ownStatus (s : State) : Result × ReplyBody × State :=
  (.ok, .status s.statusView, { s with link := { s.link with overflow := false, linkError := false } })

/-- STATUS (R165). -/
def execStatus (tag : Byte) (s : State) : Host.Outcome State Fault Refusal := takeRequest 0x01 tag true ownStatus s

/-- HORIZON_ARRIVAL (R146): the next note of the play on a player, if it lies within the horizon, and those after it that do. -/
def execHorizonArrival (p : PlayerNo) (s : State) : Host.Outcome State Fault Refusal := done (s.settleWith [p])

end Sys2Proof.Machine
end

