-- ==== Sys2Proof/Machine/Strikes.lean ====
section
/-! DEFINITION. The timed events of a strike (chapters 2, 3): volleys, current samples, drive ends, returns, sensor samples and window closes. An event whose
instant has not come passes over (notes/assumptions/2.md). -/

namespace Sys2Proof.Machine

open Sys2Proof

/-- GRANTED_NOTE_OFFER (R32): the first granted note is offered at the first whole run ms after its grant. -/
def execGrantedNoteOffer (s : State) : Host.Outcome State Fault Refusal :=
  match s.sched.granted with
  | g :: rest =>
    if g.grantedAt + 1 ≤ s.timer.ms then
      let h := g.note
      let s := { s with sched := { s.sched with granted := rest } }
      let r := s.offer { bell := h.bell, noteTime := some h.noteTime, dynamic := h.dynamic, priority := h.priority,
                         source := .player h.player, playId := h.playId }
      done (((r.2.takeOutcome h.player h.playId r.1).grantSlots).settleWith [h.player])
    else done s
  | [] => done s

/-- VOLLEY (R34): every entry whose fire time has come is taken in queue order. The plays that end by it, and those that start, come after all the
entries are taken (notes/assumptions/47.md). -/
def execVolley (currents : Vector Nat 48) (s : State) : Host.Outcome State Fault Refusal :=
  if s.dueEntries.isEmpty then done s
  else done ((s.dueEntries.foldl (fun s e => s.takeEntry currents[e.bell] e) s).settle)

/-- The drive of a bell whose first current sample is due (R54). -/
def State.firstSampleDue (s : State) (b : BellNo) : Option Drive :=
  match (s.bell b).drive with
  | some d =>
    match d.kind with
    | .strike .. => if d.sampled = false ∧ 10 < d.width ∧ d.start + 1 ≤ s.timer.ms then some d else none
    | .testPulse => none
  | none => none

/-- FIRST_CURRENT_SAMPLE (R54, R56): HIGH cuts the drive as a SHORT. -/
def execFirstCurrentSample (b : BellNo) (reading : Nat) (s : State) : Host.Outcome State Fault Refusal :=
  match s.firstSampleDue b with
  | some d =>
    let s := s.modBell b fun r => { r with drive := some { d with sampled := true } }
    if currentClass d.cls reading = .high then done (((s.cutDrive b).finding b .short .driveCurrent).settle) else done s
  | none => done s

/-- The place within the present ms of an instant in 0.1 ms. -/
def State.atTenth (s : State) (tenths : Nat) : State := s.atTick (2 * tenths - 20 * s.timer.ms)

/-- DRIVE_END (R50): at start + width. The Drive Unit's own report comes before the PLAY report of a play that its notice ends
(notes/assumptions/47.md), as in the other events of this file. -/
def execDriveEnd (b : BellNo) (reading : Nat) (s : State) : Host.Outcome State Fault Refusal :=
  match (s.bell b).drive with
  | some d =>
    match d.kind with
    | .strike .. =>
      if d.endTenths ≤ 10 * s.timer.ms + 9 then done (((s.atTenth d.endTenths).strikeEnd b d reading).settle) else done s
    | .testPulse => done s
  | none => done s

/-- READY_TIME_RETURN (R51): the hammer returns to IDLE, and the quiet point is tested. -/
def execReadyTimeReturn (b : BellNo) (s : State) : Host.Outcome State Fault Refusal :=
  match (s.bell b).hammer, (s.bell b).readyTime with
  | .swing, some t =>
    if t ≤ s.timer.ms then done ((s.modBell b fun r => { r with hammer := .idle }).quietPoint b) else done s
  | _, _ => done s

/-- TEST_PULSE_END (R58, R90): 0.4 ms after the pulse's start. -/
def execTestPulseEnd (b : BellNo) (reading : Nat) (s : State) : Host.Outcome State Fault Refusal :=
  match (s.bell b).drive with
  | some d =>
    match d.kind with
    | .testPulse => if d.start ≤ s.timer.ms then done (((s.atTenth d.endTenths).pulseEnd b d reading).settle) else done s
    | .strike .. => done s
  | none => done s

/-- SENSOR_SAMPLE (R59, R60, R62): every bell's sensor at the next quarter of the present ms. -/
def execSensorSample (levels : BitVec 48) (s : State) : Host.Outcome State Fault Refusal :=
  if s.timer.quarters < 4 then
    let q := 4 * s.timer.ms + s.timer.quarters
    let s := s.atTick (5 * s.timer.quarters)
    let s := { s with timer := { s.timer with quarters := s.timer.quarters + 1 } }
    done { s with bells := s.bells.mapFinIdx fun b r _ => r.sense s.globals.filter q (levels.getLsbD b) }
  else done s

/-- WINDOW_CLOSE (R63, R64): at the close time. -/
def execWindowClose (b : BellNo) (s : State) : Host.Outcome State Fault Refusal :=
  match (s.bell b).window with
  | some w => if w.closeQ ≤ 4 * s.timer.ms then done ((s.closeWindow b).settle) else done s
  | none => done s

end Sys2Proof.Machine
end

