-- ==== Sys2Proof/Machine/Link.lean ====
section
/-! DEFINITION. The Link Port (chapter 11): receiving bytes, judging frames, taking requests, and the transmitter. -/

namespace Sys2Proof.Machine

open Sys2Proof

/-- A discard (R167, R168): the receiver is in HUNT and the link-error flag is set. -/
def State.discardFrame (s : State) : State := { s with link := { s.link with receiver := .hunt, linkError := true } }

/-- Replaces the receiver. -/
def State.setReceiver (s : State) (r : Receiver) : State := { s with link := { s.link with receiver := r } }

/-- UNKNOWN_KIND (R169): answered in every mode, LOADING included (R176). A known kind is no event of this row. -/
def execUnknownKind (kind tag : Byte) (s : State) : Host.Outcome State Fault Refusal :=
  if requestCodes.contains kind.toNat || s.deaf then done s
  else if Config.replyCap ≤ s.link.replies.length then done { s with link := { s.link with linkError := true } }
  else done (s.reply { code := kind, tag := tag, result := .unknownKind, body := .nothing })

/-- A request read from a frame, handed to its owner (R169). -/
def handRequest (i : Instr) (s : State) : Host.Outcome State Fault Refusal :=
  match i with
  | .status tag => execStatus tag s
  | .setMode tag m => execSetMode tag m s
  | .commissionEnd tag => execCommissionEnd tag s
  | .restart tag => execRestart tag s
  | .setTime tag y mo d ms => execSetTime tag y mo d ms s
  | .getTime tag => execGetTime tag s
  | .bellSet tag b fs => execBellSet tag b fs s
  | .bellGet tag b => execBellGet tag b s
  | .bellService tag b a => execBellService tag b a s
  | .settingsSet tag fs => execSettingsSet tag fs s
  | .settingsGet tag => execSettingsGet tag s
  | .save tag => execSave tag s
  | .tuneOpen tag t sl a d nm => execTuneOpen tag t sl a d nm s
  | .tuneEvents tag t f es => execTuneEvents tag t f es s
  | .tuneClose tag t c k => execTuneClose tag t c k s
  | .tuneAbort tag => execTuneAbort tag s
  | .tuneDelete tag t => execTuneDelete tag t s
  | .tuneInfo tag t => execTuneInfo tag t s
  | .tuneList tag t => execTuneList tag t s
  | .programSet tag n w => execProgramSet tag n w s
  | .programGet tag n => execProgramGet tag n s
  | .programClear tag n => execProgramClear tag n s
  | .playNow tag w => execPlayNow tag w s
  | .stop tag sc i => execStop tag sc i s
  | .plays tag => execPlays tag s
  | .liveNote tag b d m t => execLiveNote tag b d m t s
  | .queue tag => execQueue tag s
  | _ => done s

/-- A received request is taken (R169): the kind, the mode, the length, then the owner. -/
def takeFrame (kind tag : Byte) (payload : List Byte) (s : State) : Host.Outcome State Fault Refusal :=
  if requestCodes.contains kind.toNat then
    match decodeRequest kind.toNat tag payload with
    | some i => handRequest i s
    | none => takeRequest kind.toNat tag false (fun s => (.badLength, .nothing, s)) s
  else execUnknownKind kind tag s

/-- The CRC a frame must carry (R168). -/
def frameCrc (len : Nat) (kind tag : Byte) (payload : List Byte) : Nat := (crc16 (u8 len ++ [kind, tag] ++ payload)).toNat

/-- A byte with a good stop bit, by the receiver's state (R167). -/
def receive (v : Byte) (s : State) : Host.Outcome State Fault Refusal :=
  match s.link.receiver with
  | .hunt => done (if v = 0xA5#8 then s.setReceiver .length else s)
  | .length => done (if v.toNat ≤ 248 then s.setReceiver (.kind v.toNat) else s.discardFrame)
  | .kind len => done (s.setReceiver (.tag len v))
  | .tag len kind => done (s.setReceiver (if len = 0 then .check 0 kind v [] none else .payload len kind v []))
  | .payload len kind tag got =>
    done (s.setReceiver (if len ≤ got.length + 1 then .check len kind tag (v :: got).reverse none else .payload len kind tag (v :: got)))
  | .check len kind tag payload none => done (s.setReceiver (.check len kind tag payload (some v)))
  | .check len kind tag payload (some first) =>
    if bigEndian [first, v] = frameCrc len kind tag payload then takeFrame kind tag payload (s.setReceiver .hunt)
    else done s.discardFrame

/-- BYTE_RECEIVED (R167 to R169): a framing error discards the frame being assembled, if there is one. -/
def execByteReceived (value : Byte) (stopHigh : Bool) (s : State) : Host.Outcome State Fault Refusal :=
  if s.deaf then done s
  else
    let s := { s with link := { s.link with lastByte := s.nowTicks } }
    if stopHigh then receive value s
    else if s.link.receiver = .hunt then done s
    else done s.discardFrame

/-- INTER_BYTE_GAP_TIMEOUT (R167): 20 ms without a byte while a frame is being assembled. -/
def execInterByteGapTimeout (s : State) : Host.Outcome State Fault Refusal :=
  if s.deaf = false ∧ s.link.receiver ≠ .hunt ∧ s.link.lastByte + Config.gapTicks ≤ s.nowTicks then done s.discardFrame else done s

/-- FRAME_DISCARDED (R168). -/
def execFrameDiscarded (s : State) : Host.Outcome State Fault Refusal := if s.deaf then done s else done s.discardFrame

/-- The frame is the reply to an accepted RESTART. -/
def Frame.isRestartReply : Frame → Bool
  | .reply r => decide (r.code = 0x04#8) && decide (r.result = .ok)
  | .report _ => false

/-- TRANSMITTER_FRAME_END (R174, R175): the frame's last byte ends; after the RESTART reply the restart is due. -/
def execTransmitterFrameEnd (s : State) : Host.Outcome State Fault Refusal :=
  match s.link.tx with
  | some x =>
    if s.link.txStopped then done s
    else
      let stage := if x.frame.isRestartReply && decide (s.link.restart = .replying) then .due else s.link.restart
      done { s with link := { s.link with tx := none, restart := stage } }
  | none => done s

end Sys2Proof.Machine
end

