-- ==== Sys2Proof/Machine/Dispatch.lean ====
section
/-! DEFINITION. One arm per command of spec/opcode_table.json, each a direct call of its meaning. -/

namespace Sys2Proof.Machine

open Sys2Proof

def exec (i : Instr) (s : State) : Host.Outcome State Fault Refusal :=
  match i with
  | .powerOn strap => Sys2Proof.Machine.execPowerOn strap s
  | .resetPin strap => Sys2Proof.Machine.execResetPin strap s
  | .restartMade strap => Sys2Proof.Machine.execRestartMade strap s
  | .endOfLoading => Sys2Proof.Machine.execEndOfLoading s
  | .byteReceived value stopHigh => Sys2Proof.Machine.execByteReceived value stopHigh s
  | .interByteGapTimeout => Sys2Proof.Machine.execInterByteGapTimeout s
  | .frameDiscarded => Sys2Proof.Machine.execFrameDiscarded s
  | .unknownKind kind tag => Sys2Proof.Machine.execUnknownKind kind tag s
  | .status tag => Sys2Proof.Machine.execStatus tag s
  | .setMode tag mode => Sys2Proof.Machine.execSetMode tag mode s
  | .commissionEnd tag => Sys2Proof.Machine.execCommissionEnd tag s
  | .restart tag => Sys2Proof.Machine.execRestart tag s
  | .setTime tag year month day msOfDay => Sys2Proof.Machine.execSetTime tag year month day msOfDay s
  | .getTime tag => Sys2Proof.Machine.execGetTime tag s
  | .bellSet tag bell fields => Sys2Proof.Machine.execBellSet tag bell fields s
  | .bellGet tag bell => Sys2Proof.Machine.execBellGet tag bell s
  | .bellService tag bell action => Sys2Proof.Machine.execBellService tag bell action s
  | .settingsSet tag fields => Sys2Proof.Machine.execSettingsSet tag fields s
  | .settingsGet tag => Sys2Proof.Machine.execSettingsGet tag s
  | .save tag => Sys2Proof.Machine.execSave tag s
  | .tuneOpen tag tune stepLength anchorStep declared name => Sys2Proof.Machine.execTuneOpen tag tune stepLength anchorStep declared name s
  | .tuneEvents tag tune first events => Sys2Proof.Machine.execTuneEvents tag tune first events s
  | .tuneClose tag tune count crc => Sys2Proof.Machine.execTuneClose tag tune count crc s
  | .tuneAbort tag => Sys2Proof.Machine.execTuneAbort tag s
  | .tuneDelete tag tune => Sys2Proof.Machine.execTuneDelete tag tune s
  | .tuneInfo tag tune => Sys2Proof.Machine.execTuneInfo tag tune s
  | .tuneList tag first => Sys2Proof.Machine.execTuneList tag first s
  | .programSet tag slot fields => Sys2Proof.Machine.execProgramSet tag slot fields s
  | .programGet tag slot => Sys2Proof.Machine.execProgramGet tag slot s
  | .programClear tag slot => Sys2Proof.Machine.execProgramClear tag slot s
  | .playNow tag fields => Sys2Proof.Machine.execPlayNow tag fields s
  | .stop tag scope playId => Sys2Proof.Machine.execStop tag scope playId s
  | .plays tag => Sys2Proof.Machine.execPlays tag s
  | .liveNote tag bell dynamic timeMode noteTime => Sys2Proof.Machine.execLiveNote tag bell dynamic timeMode noteTime s
  | .queue tag => Sys2Proof.Machine.execQueue tag s
  | .transmitterFrameEnd => Sys2Proof.Machine.execTransmitterFrameEnd s
  | .grantedNoteOffer => Sys2Proof.Machine.execGrantedNoteOffer s
  | .volley currents => Sys2Proof.Machine.execVolley currents s
  | .firstCurrentSample bell reading => Sys2Proof.Machine.execFirstCurrentSample bell reading s
  | .driveEnd bell reading => Sys2Proof.Machine.execDriveEnd bell reading s
  | .readyTimeReturn bell => Sys2Proof.Machine.execReadyTimeReturn bell s
  | .testPulseEnd bell reading => Sys2Proof.Machine.execTestPulseEnd bell reading s
  | .sensorSample levels => Sys2Proof.Machine.execSensorSample levels s
  | .windowClose bell => Sys2Proof.Machine.execWindowClose bell s
  | .coolingStep => Sys2Proof.Machine.execCoolingStep s
  | .driverTemperatureReading celsius => Sys2Proof.Machine.execDriverTemperatureReading celsius s
  | .supplySample volts => Sys2Proof.Machine.execSupplySample volts s
  | .intervalTimerExpiry => Sys2Proof.Machine.execIntervalTimerExpiry s
  | .directorySwitch => Sys2Proof.Machine.execDirectorySwitch s
  | .commitFailed => Sys2Proof.Machine.execCommitFailed s
  | .eraseEnd erased => Sys2Proof.Machine.execEraseEnd erased s
  | .settingsWriteEnd matched => Sys2Proof.Machine.execSettingsWriteEnd matched s
  | .wallClockAdvance => Sys2Proof.Machine.execWallClockAdvance s
  | .slewInstant => Sys2Proof.Machine.execSlewInstant s
  | .minutePulseSample high => Sys2Proof.Machine.execMinutePulseSample high s
  | .horizonArrival player => Sys2Proof.Machine.execHorizonArrival player s
  | .consoleKeySample high => Sys2Proof.Machine.execConsoleKeySample high s

end Sys2Proof.Machine
end

