-- ==== Sys2Proof/Safety.lean ====
section
/-! DEFINITION. What a sound state of the HJ748 is, by block, and the terms the statements are made in: when a request reaches its owner, what
an answered request leaves, what a start leaves, and a run of bytes on the link. -/

namespace Sys2Proof.Machine

open Sys2Proof

/-! ### Requests -/

/-- A request reaches its owner (R169, R170, R175, R176): no restart is asked for, the reply queue has room, and the part is not in
LOADING. -/
structure State.Takes (s : State) : Prop where
  hears : s.link.restart = .none
  room : s.link.replies.length < Config.replyCap
  loaded : s.ctl.mode ≠ .loading

/-- The state after a request of a code and tag is answered: the reply joins the reply queue, and an idle transmitter begins its head
(R169, R170, R174). -/
def State.answered (s : State) (code : Nat) (tag : Byte) (result : Result) (body : ReplyBody) : State :=
  (s.reply { code := BitVec.ofNat 8 code, tag := tag, result := result, body := body }).transmit

/-- The state after a request that finds the reply queue full (R170). -/
def State.lostRequest (s : State) : State := { s with link := { s.link with linkError := true } }

/-- The request code of a command, if it is a request (R171). -/
def requestCodeOf : Instr → Option Nat
  | .status _ => some 0x01
  | .setMode .. => some 0x02
  | .commissionEnd _ => some 0x03
  | .restart _ => some 0x04
  | .setTime .. => some 0x05
  | .getTime _ => some 0x06
  | .bellSet .. => some 0x07
  | .bellGet .. => some 0x08
  | .bellService .. => some 0x09
  | .settingsSet .. => some 0x0A
  | .settingsGet _ => some 0x0B
  | .save _ => some 0x0C
  | .tuneOpen .. => some 0x10
  | .tuneEvents .. => some 0x11
  | .tuneClose .. => some 0x12
  | .tuneAbort _ => some 0x13
  | .tuneDelete .. => some 0x14
  | .tuneInfo .. => some 0x15
  | .tuneList .. => some 0x16
  | .programSet .. => some 0x18
  | .programGet .. => some 0x19
  | .programClear .. => some 0x1A
  | .playNow .. => some 0x1C
  | .stop .. => some 0x1D
  | .plays _ => some 0x1E
  | .liveNote .. => some 0x1F
  | .queue _ => some 0x20
  | .powerOn _ => none
  | .resetPin _ => none
  | .restartMade _ => none
  | .endOfLoading => none
  | .byteReceived .. => none
  | .interByteGapTimeout => none
  | .frameDiscarded => none
  | .unknownKind .. => none
  | .transmitterFrameEnd => none
  | .grantedNoteOffer => none
  | .volley _ => none
  | .firstCurrentSample .. => none
  | .driveEnd .. => none
  | .readyTimeReturn _ => none
  | .testPulseEnd .. => none
  | .sensorSample _ => none
  | .windowClose _ => none
  | .coolingStep => none
  | .driverTemperatureReading _ => none
  | .supplySample _ => none
  | .intervalTimerExpiry => none
  | .directorySwitch => none
  | .commitFailed => none
  | .eraseEnd _ => none
  | .settingsWriteEnd _ => none
  | .wallClockAdvance => none
  | .slewInstant => none
  | .minutePulseSample _ => none
  | .horizonArrival _ => none
  | .consoleKeySample _ => none

/-- The tag a request carries, 0 for a command that is no request. -/
def requestTagOf : Instr → Byte
  | .status t => t
  | .setMode t _ => t
  | .commissionEnd t => t
  | .restart t => t
  | .setTime t .. => t
  | .getTime t => t
  | .bellSet t .. => t
  | .bellGet t _ => t
  | .bellService t .. => t
  | .settingsSet t _ => t
  | .settingsGet t => t
  | .save t => t
  | .tuneOpen t .. => t
  | .tuneEvents t .. => t
  | .tuneClose t .. => t
  | .tuneAbort t => t
  | .tuneDelete t _ => t
  | .tuneInfo t _ => t
  | .tuneList t _ => t
  | .programSet t .. => t
  | .programGet t _ => t
  | .programClear t _ => t
  | .playNow t _ => t
  | .stop t .. => t
  | .plays t => t
  | .liveNote t .. => t
  | .queue t => t
  | _ => 0#8

/-- Bytes with good stop bits received one after another. -/
def receiveAll : List Byte → State → Host.Outcome State Fault Refusal
  | [], s => .next s
  | v :: rest, s =>
    match exec (.byteReceived v true) s with
    | .next t => receiveAll rest t
    | .fault f => .fault f
    | .refused r => .refused r

/-! ### Starts (R162) -/

/-- Every part of the state that a start sets, whatever it was: all but the wall clock, the slots' markers, the non-volatile store, the line
rate and the commands that wait. -/
structure State.Fresh (t : State) : Prop where
  timer : t.timer = RunTimer.start
  mode : t.ctl = ModeController.start
  globals : t.globals = Globals.default
  bells : ∀ b, t.bell b = Bell.start
  drive : t.drive = { inUse := 0, pendingBudget := none }
  warn : t.warn = false
  supply : t.supply = { vMeas := none, lowRun := 0, recoveryRun := 0 }
  sweep : t.sweep = { pointer := 0, next := none }
  sched : t.sched = Scheduler.start
  engine : t.engine = PlayEngine.start
  fields : ∀ n : Fin 64, t.slots[n].fields = SlotFields.empty
  tunes : t.tunes = TuneStore.start
  link : t.link = LinkPort.start t.link.fast

/-- A restart of s, with the rate strap as read (R125, R139, R162): the wall instant, its validity, the slew remainder and the markers are
kept, the minute pulse begins afresh. -/
structure RestartedFrom (strap : Bool) (s t : State) : Prop where
  fresh : t.Fresh
  rate : t.link.fast = strap
  clock : t.clock = { s.clock with lastPulse := none, pulseHist := [false, false, false, false, false], pulseOut := false }
  markers : ∀ n : Fin 64, t.slots[n].marker = s.slots[n].marker
  store : t.nv = s.nv
  waiting : t.pending = s.pending

/-! ### The laws of a sound state -/

/-- Modes (R156 to R160): CONSOLE and HALT alone remember a mode, and one they may return to. HALT has a cause, and no other mode but LOADING
has one. The key is released in the working modes and asserted in CONSOLE. Resume-pending belongs to SILENT, or to SILENT remembered, with
the clock not valid. -/
structure State.ModesLaw (s : State) : Prop where
  remembers : s.ctl.remembered.isSome ↔ s.ctl.mode = .console ∨ s.ctl.mode = .halt
  returns : ∀ m, s.ctl.remembered = some m → m.returnable = true
  halted : s.ctl.mode = .halt → s.ctl.causes.isEmpty = false
  unhalted : s.ctl.mode ≠ .halt → s.ctl.mode ≠ .loading → s.ctl.causes.isEmpty = true
  released : s.ctl.mode.returnable = true → s.ctl.keyOut = false
  asserted : s.ctl.mode = .console → s.ctl.keyOut = true
  resume : s.ctl.resumePending = true → (s.ctl.mode = .silent ∨ s.ctl.remembered = some .silent) ∧ s.clock.valid = false

/-- The Link Port's queues keep to their capacities (R170, R173). -/
structure State.LinkLaw (s : State) : Prop where
  reports : s.link.reports.length ≤ Config.reportCap
  replies : s.link.replies.length ≤ Config.replyCap

/-- The wall clock (R113 to R117, R121, R123): in its range, the current second at or below it, the slew remainder within 2 000 ms, five samples
of the minute pulse. -/
structure State.ClockLaw (s : State) : Prop where
  range : s.clock.wall < Config.rangeEnd
  second : s.clock.second = s.clock.wall / 1000 * 1000
  slew : -Config.slewMax ≤ s.clock.slew ∧ s.clock.slew ≤ Config.slewMax
  samples : s.clock.pulseHist.length = 5

/-- A bell's record (R1 to R3, R14, R63, R70, R73): well-formed settings, and well formed still with the pending ones laid over them, lead16 within the
lead limits, the miss run and the heat count within their ranges, and a RESTING bell's heat count at or above heat_release. -/
structure Bell.Law (b : BellNo) (r : Bell) : Prop where
  formed : r.settings.wellFormed b = true
  pending : ∀ p, r.pending = some p → (r.settings.over p).wellFormed b = true
  lead : 16 * r.settings.leadMin ≤ r.lead16 ∧ r.lead16 ≤ 16 * r.settings.leadMax
  misses : r.missRun ≤ Config.missLimit
  heat : r.heat ≤ Config.heatMax
  resting : r.service = .resting → r.settings.heatRelease ≤ r.heat

/-- Every bell's record obeys its law. -/
def State.BellsLaw (s : State) : Prop := ∀ b, (s.bell b).Law b

/-- The class a bell's coil holds, 0 without a drive (R52). -/
def Bell.heldClass (r : Bell) : Nat := (r.drive.map (·.cls)).getD 0

/-- The drive budget (R45, R52, R53, R57): a coil is in DRIVE exactly when it has a drive record, the budget in use is the sum of the classes
held and within the budget in force, and no coil is driven in LOADING or HALT, where the Firing Queue is empty. -/
structure State.DriveLaw (s : State) : Prop where
  recorded : ∀ b, (s.bell b).hammer = .drive ↔ (s.bell b).drive.isSome = true
  summed : s.drive.inUse = (s.bells.toList.map Bell.heldClass).sum
  bounded : s.drive.inUse ≤ s.globals.driveBudget
  stopped : s.ctl.mode = .loading ∨ s.ctl.mode = .halt → s.sched.queue = [] ∧ ∀ b, (s.bell b).drive = none

/-- The Firing Queue (R18, R19, R23, R25, R28, R31, R37, R41): in the order of R19, every entry number within its 48 bits, two entries of one bell a
recovery apart and of different note times, no fire time before the original or past its slack, no lead above the highest lead limit,
slots within the capacity, and entries in ACTIVE and COMMISSION only. -/
structure State.QueueLaw (s : State) : Prop where
  ordered : s.sched.queue.Pairwise fun a b => a.before b = true
  numbered : ∀ e ∈ s.sched.queue, e.number < Config.numberSpan
  counted : s.sched.nextNumber < Config.numberSpan
  apart : s.sched.queue.Pairwise fun a b =>
    a.bell = b.bell → ((s.bell a.bell).settings.recovery : Int) ≤ |a.fire - b.fire| ∧ a.noteTime ≠ b.noteTime
  slack : ∀ e ∈ s.sched.queue, e.origFire ≤ e.fire ∧ e.fire ≤ e.origFire + (s.bell e.bell).settings.slack
  lead : ∀ e ∈ s.sched.queue, e.noteTime - e.origFire ≤ 400
  capped : s.slotsTaken ≤ Config.queueCap
  offered : s.ctl.mode ≠ .active → s.ctl.mode ≠ .commission → s.sched.queue = []

/-- Plays (R143, R152): at most eight wait, in the order of R143 and with launch places of the past, and outside ACTIVE there is no play. -/
structure State.PlaysLaw (s : State) : Prop where
  bounded : s.engine.waiting.length ≤ Config.waitingCap
  ordered : s.engine.waiting.Pairwise fun a b => a.before b = true
  launched : ∀ q ∈ s.playRecords, q.launchSeq < s.engine.nextLaunch
  active : s.ctl.mode ≠ .active → s.playRecords = []

/-- Play ids (R140): the plays kept have ids of their own, 1 to 255. -/
structure State.PlayIdsLaw (s : State) : Prop where
  distinct : (s.playRecords.map (·.id)).Nodup
  range : ∀ q ∈ s.playRecords, 1 ≤ q.id ∧ q.id ≤ 255

/-- The event pool (R99): every block of a version or of the staging area is one of the 256, and no block is held twice. -/
structure State.PoolLaw (s : State) : Prop where
  distinct : s.tunes.usedBlocks.Nodup
  range : ∀ b ∈ s.tunes.usedBlocks, b < Config.poolBlocks

/-- The running plays that hold a version of a tune (R107). -/
def State.holders (s : State) (t : Fin 96) (serial : Nat) : Nat :=
  ((s.engine.player0.play.toList ++ s.engine.player1.play.toList).filter fun q => decide (q.kind = .tune t (some serial))).length

/-- The play has no version yet. -/
def PlayKind.unstarted : PlayKind → Bool
  | .tune _ (some _) => false
  | _ => true

/-- How many uploads for a tune the staging area holds. -/
def Staging.uploadsFor : Staging → Fin 96 → Nat
  | .none, _ => 0
  | .opened u, t => if u.tune = t then 1 else 0
  | .committing u, t => if u.tune = t then 1 else 0

/-- Versions (R96, R97, R101, R105, R107, R108): serial numbers are each their own and of the past, the user count of a version is the number of running plays that
hold it, a RETIRING version has a user, every version held is kept, none is out of the RETIRING place while that is free, a tune has two versions
at most, its upload counted, only a running play holds one, and the events of every version lie in their ranges. -/
structure State.VersionsLaw (s : State) : Prop where
  serials : ∀ t : Fin 96, ((s.tunes.versionsOf t).map (·.serial)).Nodup
  past : ∀ t : Fin 96, ∀ v ∈ s.tunes.versionsOf t, v.serial < s.tunes.nextSerial
  users : ∀ t : Fin 96, ∀ v ∈ s.tunes.versionsOf t, v.users = s.holders t v.serial
  retiring : ∀ t : Fin 96, ∀ v ∈ s.tunes.retiringOf t, 0 < v.users
  kept : ∀ t : Fin 96, ∀ n, 0 < s.holders t n → ∃ v ∈ s.tunes.versionsOf t, v.serial = n
  placed : ∀ t : Fin 96, s.tunes.slots[t].retiring = none → s.tunes.retiringOf t = []
  two : ∀ t : Fin 96, (s.tunes.versionsOf t).length + (s.tunes.staging.uploadsFor t) ≤ 2
  unstarted : ∀ q ∈ s.engine.player0.incoming.toList ++ s.engine.player1.incoming.toList ++ s.engine.waiting, q.kind.unstarted = true
  ranged : ∀ t : Fin 96, ∀ v ∈ s.tunes.versionsOf t, ∀ e ∈ v.events, 1 ≤ e.dynamic ∧ e.dynamic ≤ 8 ∧ -50 ≤ e.nudge ∧ e.nudge ≤ 50

/-- An upload (R97, R100 to R102): no more events than declared, in order, each in its ranges; the last step and its bells kept beside them; and a
complete list ends at or after the anchor step. -/
structure Upload.Law (u : Upload) : Prop where
  counted : u.events.length ≤ u.declared
  ordered : eventsOrdered u.events = true
  ranged : ∀ e ∈ u.events, 1 ≤ e.dynamic ∧ e.dynamic ≤ 8 ∧ -50 ≤ e.nudge ∧ e.nudge ≤ 50
  last : u.lastStep = u.events.getLast?.map (·.step)
  bells : ∀ b, b ∈ u.stepBells ↔ ∃ e ∈ u.events, u.lastStep = some e.step ∧ e.bell = b
  anchored : 0 < u.declared ∧ u.anchorOk = true

/-- The upload in the staging area obeys its law, and while it is committing it is complete. -/
def State.UploadLaw (s : State) : Prop :=
  match s.tunes.staging with
  | .none => True
  | .opened u => u.Law
  | .committing u => u.Law ∧ u.events.length = u.declared

/-! ### Entry to HALT -/

/-- What a raised halt cause leaves (R57, R66, R152, R158, R159): HALT with the mode to return to remembered, no drive and no window, the Firing Queue and
the waiting list empty, no play, and the rest as it was. -/
structure HaltedFrom (s t : State) (causes : Causes) : Prop where
  ctl : t.ctl = { s.ctl with
    mode := .halt, causes := causes, remembered := if s.ctl.mode = .console then s.ctl.remembered else some s.ctl.mode }
  coils : ∀ b, (t.bell b).drive = none ∧ (t.bell b).window = none
  sched : t.sched = { s.sched with queue := [], held := [], granted := [] }
  plays : t.playRecords = []
  clock : t.clock = s.clock
  sweep : t.sweep = s.sweep
  slots : t.slots = s.slots
  store : t.nv = s.nv
  waiting : t.pending = s.pending

/-! ### Occurrences and launched plays -/

/-- A forward step from w0 to w1 passes the launch second of slot n's occurrence at o, which lies after its marker (R133). -/
def State.Passes (s : State) (n : Fin 64) (w0 w1 o : Nat) : Prop :=
  let f := s.slots[n].fields
  let launchSecond : Int := (o : Int) - ((s.anchorOf f + 2999) / 1000 : Nat) * 1000
  o % 1000 = 0 ∧ o < Config.rangeEnd ∧ f.matchesAt o = true ∧ (w0 : Int) < launchSecond ∧ (w1 : Int) - 86400000 ≤ launchSecond ∧
  launchSecond ≤ w1 ∧ ∀ m, s.slots[n].marker = some m → m < o

/-- The latest such occurrence (R133). -/
def State.LatestPassed (s : State) (n : Fin 64) (w0 w1 o : Nat) : Prop :=
  s.Passes n w0 w1 o ∧ ∀ x, s.Passes n w0 w1 x → x ≤ o

/-- What an occurrence of slot n that comes due leaves (R129, R130, R133, R136): the marker at its due time, and a launch or the report of its
outcome. -/
def State.dealtWith (s : State) (n : Fin 64) (o : Nat) (late : Bool) : State :=
  let f := s.slots[n].fields
  let marked : State := { s with slots := s.slots.set n { fields := f, marker := some o } }
  let reported (x : PlayOutcome) : State := marked.report
    (.play { outcome := x, playId := 0, origin := .slot n, what := (f.playKind o).what, due := o, dropped := 0, run := s.timer.ms,
             started := none })
  if s.ctl.mode ≠ .active then reported .suppressed
  else if late = true then reported (.missed .late)
  else if f.kind = .tune ∧ s.tunes.slots[f.tune].current = none then reported (.missed .noTune)
  else
    (marked.launch { origin := .slot n, kind := f.playKind o, anchorOffset := s.anchorOf f, priority := f.priority, lateLimit := f.lateLimit,
                     due := o }).2.2.2

/-- A play as it stands on its player when it has started (R145): FEEDING, from its intended start or 500 ms from now, with the CURRENT version of its
tune. -/
def State.begun (s : State) (q : Play) : Play :=
  { q with
    kind := match q.kind with
      | .tune t _ => .tune t (s.tunes.slots[t].current.map fun v => v.serial)
      | .toll b d i n => .toll b d i n
    start := some (max q.s0 (s.timer.ms + 500)), nextIndex := 0, state := .feeding }

/-! ### Easy offers -/

/-- Nothing in the Play Engine waits to be done: no play ends now, no INCOMING play starts, and no waiting play has a free player. -/
structure State.Settled (s : State) : Prop where
  ending : s.ending = none
  incoming : s.incomingReady = none
  waiting : s.ctl.mode = .active → s.freePlayer = none ∨ s.engine.waiting = []

/-- A note of a note time and fire time can be queued on bell b as it stands: no entry of the bell and no drive of it is in its way, and a slot
is free (R20 to R30). -/
structure State.Admits (s : State) (b : BellNo) (noteTime fire : Int) : Prop where
  mode : s.ctl.mode = .active ∨ s.ctl.mode = .commission
  ready : ∀ t, (s.bell b).readyTime = some t → (t : Int) ≤ fire
  clear : ∀ x ∈ s.sched.queue, x.bell = b → ((s.bell b).settings.recovery : Int) ≤ |x.fire - fire| ∧ x.noteTime ≠ noteTime
  room : s.slotsTaken < Config.queueCap

/-- The lead in ms of a note at bell b (R23). -/
def State.lead (s : State) (b : BellNo) (dynamic : Nat) : Int := leadMs (s.bell b).settings (s.bell b).lead16 dynamic

/-- The entry a note makes at bell b when it is neither late nor moved (R18, R20, R23). -/
def State.entryOf (s : State) (b : BellNo) (original : Option BellNo) (noteTime : Int) (dynamic priority : Nat) (source : Source) (playId : Nat) :
    Entry :=
  { number := s.sched.nextNumber, bell := b, original := original, noteTime := noteTime, fire := noteTime - s.lead b dynamic,
    origFire := noteTime - s.lead b dynamic, late := false, dynamic := dynamic, priority := priority, source := source, playId := playId }

/-- The Strike Scheduler with an entry queued in its place. -/
def Scheduler.withEntry (x : Scheduler) (e : Entry) : Scheduler := { x with queue := placeEntry e x.queue, nextNumber := nextEntryNumber x.nextNumber }

end Sys2Proof.Machine
end

