-- ==== Sys2Proof/Certificates/Slice0/Obligations.lean ====
section
/-! DEFINITION. The statements for the provers. Each names the rules or sections it formalises in OBLIGATIONS.json. -/

open Sys2Proof Sys2Proof.Machine

/-! ### Steps, starts and the laws every step keeps -/

/-- A step is the meaning of the command at the front, with the rest of the queue. On an empty queue the part idles, which is the model's choice
(notes/assumptions/3.md). -/
def Obligations.StepRunsTheFrontCommand : Prop :=
  (∀ (c : Instr) (s : State), step { s with pending := c :: s.pending } = exec c s) ∧ ∀ s : State, s.pending = [] → step s = .next s

/-- The part after reset is sound. -/
def Obligations.ResetMeetsEveryLaw : Prop :=
  State.reset.ModesLaw ∧ State.reset.LinkLaw ∧ State.reset.ClockLaw ∧ State.reset.BellsLaw ∧ State.reset.DriveLaw ∧ State.reset.QueueLaw ∧
  State.reset.PlaysLaw ∧ State.reset.PlayIdsLaw ∧ State.reset.PoolLaw ∧ State.reset.VersionsLaw ∧ State.reset.UploadLaw

/-- Every step keeps the law of the modes (R156 to R160). -/
def Obligations.StepKeepsTheModes : Prop := ∀ s t : State, s.ModesLaw → step s = .next t → t.ModesLaw

/-- Every step keeps the Link Port's queues within their capacities (R170, R173). -/
def Obligations.StepKeepsTheLinkQueuesBounded : Prop := ∀ s t : State, s.LinkLaw → step s = .next t → t.LinkLaw

/-- Every step keeps the wall clock in its range, with its second and its slew remainder (R113 to R117, R123). -/
def Obligations.StepKeepsTheClockSound : Prop := ∀ s t : State, s.ClockLaw → step s = .next t → t.ClockLaw

/-- Every step keeps every bell's record in its ranges and relations (R1 to R3, R14, R15, R63, R65, R70). -/
def Obligations.StepKeepsTheBellRecords : Prop := ∀ s t : State, s.BellsLaw → step s = .next t → t.BellsLaw

/-- Every step keeps the drive budget: the classes held never exceed it (R52, R53). -/
def Obligations.StepKeepsTheDriveBudget : Prop := ∀ s t : State, s.ModesLaw → s.DriveLaw → step s = .next t → t.DriveLaw

/-- Every step keeps the Firing Queue in order, its entries of one bell a recovery apart, and the lead of each within the limits of the settings (R19, R23, R25).
Entry numbers begin again after 48 bits (notes/assumptions/28.md), so the law does not have them distinct. -/
def Obligations.StepKeepsTheFiringQueue : Prop := ∀ s t : State, s.BellsLaw → s.QueueLaw → step s = .next t → t.QueueLaw

/-- Every step keeps the Pending Play Queue bounded and in order, and no play outside ACTIVE (R143, R152). -/
def Obligations.StepKeepsThePlays : Prop := ∀ s t : State, s.PlaysLaw → step s = .next t → t.PlaysLaw

/-- Every step keeps the play ids distinct and within 1 to 255 (R140). -/
def Obligations.StepKeepsThePlayIds : Prop := ∀ s t : State, s.PlaysLaw → s.PlayIdsLaw → step s = .next t → t.PlayIdsLaw

/-- Every step keeps every block of the event pool with one holder at most (R99). -/
def Obligations.StepKeepsThePoolUnshared : Prop := ∀ s t : State, s.PoolLaw → step s = .next t → t.PoolLaw

/-- Every step keeps the user count of every version the number of running plays that hold it, every version held, and the events of every version in their
ranges (R97, R107). -/
def Obligations.StepKeepsTheVersionsHeld : Prop := ∀ s t : State, s.PlaysLaw → s.UploadLaw → s.VersionsLaw → step s = .next t → t.VersionsLaw

/-- Every step keeps the staged upload in order and within its declared count (R97, R102). -/
def Obligations.StepKeepsTheUpload : Prop := ∀ s t : State, s.UploadLaw → step s = .next t → t.UploadLaw

/-- POWER_ON: everything starts afresh but the non-volatile store (R125, R139, R162). That the store loses a write in flight and nothing else, an erase
in flight among them, is the model's choice (notes/assumptions/33.md), as are the first values of the tick, the last byte's time, the version serial
and the launch sequence (notes/assumptions/5.md). -/
def Obligations.PowerOnStartsAfresh : Prop :=
  ∀ (strap : Bool) (s : State), ∃ t, exec (.powerOn strap) s = .next t ∧ t.Fresh ∧ t.link.fast = strap ∧
    t.clock = { wall := 0, valid := false, slew := 0, second := 0, lastPulse := none, pulseHist := [false, false, false, false, false],
                pulseOut := false } ∧
    (∀ n : Fin 64, t.slots[n].marker = none) ∧ t.nv = { s.nv with write := none } ∧ t.pending = s.pending

/-- RESET_PIN and RESTART_MADE: a restart is made at once, or waits for the write in flight with the transmitter stopped; RESTART is answered OK and the
part is deaf from then on (R162, R175). -/
def Obligations.ResetsRestartThePart : Prop :=
  ∀ (strap : Bool) (s : State),
    (s.nv.write = none → ∃ t, exec (.resetPin strap) s = .next t ∧ RestartedFrom strap s t) ∧
    (s.nv.write ≠ none →
      exec (.resetPin strap) s = .next { s with link := { s.link with tx := none, txStopped := true, restart := .due } }) ∧
    (s.link.restart = .due → s.nv.write = none → ∃ t, exec (.restartMade strap) s = .next t ∧ RestartedFrom strap s t) ∧
    (s.link.restart ≠ .due ∨ s.nv.write ≠ none → exec (.restartMade strap) s = .next s.transmit) ∧
    (s.Takes → ∀ tag, exec (.restart tag) s =
      .next (State.answered { s with link := { s.link with restart := .replying } } 0x04 tag .ok .nothing))

/-- END_OF_LOADING decides the mode by the loaded settings, the causes, the key and the clock, loads the bells, the slots and the working commissioned
flag, rebuilds the tune directory from the stored versions that pass their check, erasing the others, and starts the interval timer (R17, R84, R95,
R111, R139, R162); outside LOADING it passes over, which is the model's choice (notes/assumptions/2.md). -/
def Obligations.EndOfLoadingDecidesTheMode : Prop :=
  ∀ s : State,
    (s.ctl.mode = .loading → ∃ t : State, ∃ a : StoredArea,
      exec .endOfLoading s = .next t ∧
      (s.nv.areaMatches = true → s.nv.area.formOk = true → a = s.nv.area) ∧
      (s.nv.areaMatches = false ∨ s.nv.area.formOk = false → a = StoredArea.default) ∧
      (let target : Mode :=
        if a.commissioned = false then .commission else if a.globals.autoActive && s.clock.valid then .active else .silent
       t.ctl = { s.ctl with
         mode := if s.ctl.causes.isEmpty = false then .halt else if s.ctl.keyOut then .console else target
         remembered := if s.ctl.causes.isEmpty = false ∨ s.ctl.keyOut = true then some target else none
         resumePending := a.commissioned && a.globals.autoActive && !s.clock.valid
         commissioned := a.commissioned }) ∧
      ((∀ b, (s.bell b).drive = none ∧ (s.bell b).window = none) → t.globals = a.globals ∧ ∀ b : BellNo, t.bell b =
          { s.bell b with
            settings := a.bells[b].settings, lead16 := a.bells[b].settings.clampLead a.bells[b].lead16
            service := if a.bells[b].withdrawn then .withdrawn else .inService
            pending := none, missRun := 0, verified := false, stale := false, lastVerified := 0, lastDriveStart := none, readyTime := none }) ∧
      (∀ n : Fin 64, t.slots[n].fields = a.slots[n] ∧ t.slots[n].marker = s.slots[n].marker) ∧
      (∀ i : Fin 96,
        (s.nv.entries[i] = none → t.nv.entries[i] = none ∧ t.tunes.slots[i] = { current := none, retiring := none }) ∧
        ∀ e, s.nv.entries[i] = some e →
          let clash := ∃ j : Fin 96, j < i ∧ ∃ v, t.tunes.slots[j].current = some v ∧ ∃ x ∈ v.blocks, x ∈ e.version.blocks
          let passes := e.crcMatches = true ∧ e.version.formOk = true ∧ ¬ clash
          (passes → t.nv.entries[i] = some e ∧ ∃ serial : Nat,
            t.tunes.slots[i] = { current := some { e.version with users := 0, serial := serial }, retiring := none }) ∧
          (¬ passes → t.nv.entries[i] = none ∧ t.tunes.slots[i] = { current := none, retiring := none })) ∧
      t.tunes.staging = .none ∧ t.tunes.displaced = [] ∧
      t.supply = { s.supply with lowRun := 0, recoveryRun := 0 } ∧
      t.sweep = { s.sweep with next := some ((if s.timer.tick = 0 then s.timer.ms else s.timer.ms + 1) + a.globals.sweepPeriod * 1250) } ∧
      t.timer = s.timer ∧ t.clock = s.clock ∧ t.warn = s.warn ∧ t.pending = s.pending ∧ t.nv.area = s.nv.area ∧ t.nv.write = s.nv.write) ∧
    (s.ctl.mode ≠ .loading → exec .endOfLoading s = .next s.transmit)

/-! ### The serial link -/

/-- The bytes of a frame, received one after another by a receiver in HUNT, run exactly the request they carry (R167 to R169, R177): the command they
decode to, UNKNOWN_KIND for any other kind, and BAD_LENGTH for a length that does not fit. -/
def Obligations.FrameBytesRunTheirRequest : Prop :=
  ∀ (kind tag : Byte) (payload : List Byte) (s : State),
    payload.length ≤ 248 → s.link.restart = .none → s.link.receiver = .hunt →
    let u : State := { s.transmit with link := { s.transmit.link with receiver := .hunt, lastByte := s.nowTicks } }
    (∀ i, decodeRequest kind.toNat tag payload = some i → receiveAll (frameBytes kind tag payload) s = exec i u) ∧
    (kind.toNat ∉ requestCodes → receiveAll (frameBytes kind tag payload) s = exec (.unknownKind kind tag) u) ∧
    (kind.toNat ∈ requestCodes → decodeRequest kind.toNat tag payload = none → u.Takes →
      receiveAll (frameBytes kind tag payload) s = .next (u.answered kind.toNat tag .badLength .nothing))

/-- BYTE_RECEIVED moves the receiver by the table of R167, judges the CRC at the second check byte, and passes bytes over once a restart is asked for;
INTER_BYTE_GAP_TIMEOUT discards the frame being assembled 20 ms (400 ticks of 0.05 ms) after its last byte, and FRAME_DISCARDED is the discard itself
(R167, R168, R175). -/
def Obligations.ReceiverFollowsItsTable : Prop :=
  ∀ (v : Byte) (s : State),
    let u : State := { s with link := { s.link with lastByte := s.timer.ms * 20 + s.timer.tick } }
    let become (r : Receiver) : Host.Outcome State Fault Refusal := .next (State.transmit { u with link := { u.link with receiver := r } })
    let discard : Host.Outcome State Fault Refusal := .next (State.transmit { u with link := { u.link with receiver := .hunt, linkError := true } })
    let got := exec (.byteReceived v true) s
    (s.link.restart ≠ .none → ∀ stop, exec (.byteReceived v stop) s = .next s.transmit) ∧
    (s.link.restart = .none →
      (s.link.receiver = .hunt → got = become (if v = 0xA5#8 then .length else .hunt)) ∧
      (s.link.receiver = .length → got = if v.toNat ≤ 248 then become (.kind v.toNat) else discard) ∧
      (∀ n, s.link.receiver = .kind n → got = become (.tag n v)) ∧
      (∀ n k, s.link.receiver = .tag n k → got = become (if n = 0 then .check 0 k v [] none else .payload n k v [])) ∧
      (∀ n k g l, s.link.receiver = .payload n k g l →
        got = become (if l.length + 1 < n then .payload n k g (v :: l) else .check n k g ((v :: l).reverse) none)) ∧
      (∀ n k g p, s.link.receiver = .check n k g p none → got = become (.check n k g p (some v))) ∧
      (∀ n k g p c, s.link.receiver = .check n k g p (some c) →
        got = if c.toNat * 256 + v.toNat = (crc16 (BitVec.ofNat 8 n :: k :: g :: p)).toNat
              then takeFrame k g p { u with link := { u.link with receiver := .hunt } } else discard) ∧
      exec (.byteReceived v false) s = if s.link.receiver = .hunt then .next (State.transmit u) else discard) ∧
    (let lost : Host.Outcome State Fault Refusal := .next (State.transmit { s with link := { s.link with receiver := .hunt, linkError := true } })
     (s.link.restart = .none → s.link.receiver ≠ .hunt → s.link.lastByte + 400 ≤ s.nowTicks → exec .interByteGapTimeout s = lost) ∧
     (s.link.restart ≠ .none ∨ s.link.receiver = .hunt ∨ s.nowTicks < s.link.lastByte + 400 → exec .interByteGapTimeout s = .next s.transmit) ∧
     (s.link.restart = .none → exec .frameDiscarded s = lost) ∧
     (s.link.restart ≠ .none → exec .frameDiscarded s = .next s.transmit))

/-- Each reply joins the reply queue behind those that wait, a request that finds four waiting is lost with the link-error flag set, and a reply leaves
the queue when its sending begins (R170). That a command ends with the start of an idle transmitter is the model's reading (notes/assumptions/8.md). -/
def Obligations.RepliesJoinTheReplyQueue : Prop :=
  (∀ (c : Instr) (code : Nat) (tag : Byte) (s : State),
    requestCodeOf c = some code ∧ tag = requestTagOf c ∨ c = .unknownKind (BitVec.ofNat 8 code) tag ∧ code < 256 ∧ code ∉ requestCodes →
    s.link.restart = .none →
    (s.link.replies.length < 4 → ∃ t : State, ∃ r : Reply,
      exec c s = .next t.transmit ∧ t.link.replies = s.link.replies ++ [r] ∧ t.link.replies.length ≤ 4 ∧
      r.code = BitVec.ofNat 8 code ∧ r.tag = tag ∧ t.link.tx = s.link.tx) ∧
    (4 ≤ s.link.replies.length → exec c s = .next s.lostRequest.transmit)) ∧
  (∀ (s : State) (r : Reply) (rest : List Reply), s.link.replies = r :: rest →
    (s.link.tx = none → s.link.txStopped = false →
      s.transmit = { s with link := { s.link with replies := rest, tx := some { frame := .reply r, bytes := (Frame.reply r).bytes } } }) ∧
    (s.link.tx ≠ none → s.transmit = s))

/-- Requests that go no further than the Link Port (R169, R175, R176): an unknown kind is answered in every mode, in LOADING every kind but STATUS gets
WRONG_MODE, a run of events that is empty or longer than 60 gets BAD_LENGTH (R102), and once a restart is asked for a request is passed over. -/
def Obligations.RequestsStoppedAtTheLinkPort : Prop :=
  (∀ (c : Instr) (code : Nat) (s : State), requestCodeOf c = some code → code ≠ 1 → s.ctl.mode = .loading → s.link.restart = .none →
    s.link.replies.length < 4 → exec c s = .next (s.answered code (requestTagOf c) .wrongMode .nothing)) ∧
  (∀ (c : Instr) (code : Nat) (s : State), requestCodeOf c = some code → s.link.restart ≠ .none → exec c s = .next s.transmit) ∧
  (∀ (tag : Byte) (s : State), s.Takes →
    ∀ n f es, es.length = 0 ∨ 60 < es.length → exec (.tuneEvents tag n f es) s = .next (s.answered 0x11 tag .badLength .nothing)) ∧
  (∀ (kind tag : Byte) (s : State), kind.toNat ∉ requestCodes →
    (s.link.restart = .none → s.link.replies.length < 4 →
      exec (.unknownKind kind tag) s = .next (s.answered kind.toNat tag .unknownKind .nothing)) ∧
    (s.link.restart = .none → 4 ≤ s.link.replies.length → exec (.unknownKind kind tag) s = .next s.lostRequest.transmit) ∧
    (s.link.restart ≠ .none → exec (.unknownKind kind tag) s = .next s.transmit))

/-- TRANSMITTER_FRAME_END: replies go before reports, no report once a restart is asked for, and the end of the RESTART reply makes the restart due
(R174, R175). That the command passes over with no frame on the line, or with the transmitter stopped, is the model's choice (notes/assumptions/2.md). -/
def Obligations.RepliesGoBeforeReports : Prop :=
  (∀ s : State, s.link.tx = none ∨ s.link.txStopped = true → exec .transmitterFrameEnd s = .next s.transmit) ∧
  ∀ (s : State) (x : Sending), s.link.tx = some x → s.link.txStopped = false →
    let stage : RestartStage :=
      if x.frame.isRestartReply = true ∧ s.link.restart = .replying then .due else s.link.restart
    (∀ r rest, s.link.replies = r :: rest →
      exec .transmitterFrameEnd s = .next { s with link := { s.link with
        replies := rest, tx := some { frame := .reply r, bytes := (Frame.reply r).bytes }, restart := stage } }) ∧
    (∀ r rest, s.link.replies = [] → stage = .none → s.link.reports = r :: rest →
      exec .transmitterFrameEnd s = .next { s with link := { s.link with
        reports := rest, tx := some { frame := .report r, bytes := (Frame.report r).bytes }, restart := stage } }) ∧
    (s.link.replies = [] → stage ≠ .none ∨ s.link.reports = [] →
      exec .transmitterFrameEnd s = .next { s with link := { s.link with tx := none, restart := stage } })

/-- STATUS is answered in every mode with every field as it stands, its counts of bells add up to 48, and the read clears the report-overflow and link-error
flags (R165). -/
def Obligations.StatusReadsAndClears : Prop :=
  ∀ (tag : Byte) (s : State),
    (s.link.restart = .none → s.link.replies.length < 4 →
      exec (.status tag) s =
        .next (State.answered { s with link := { s.link with overflow := false, linkError := false } } 0x01 tag .ok (.status s.statusView))) ∧
    s.statusView.inService + s.statusView.withdrawn + s.statusView.resting + s.statusView.faulted = 48 ∧
    s.statusView.mode = s.ctl.mode ∧ s.statusView.causes = s.ctl.causes ∧ s.statusView.clockValid = s.clock.valid ∧
    s.statusView.storeBusy = s.nv.write.isSome ∧ s.statusView.overflow = s.link.overflow ∧ s.statusView.linkError = s.link.linkError ∧
    s.statusView.depth = s.sched.queue.length ∧ s.statusView.waiting = s.engine.waiting.length ∧
    s.statusView.remembered = s.ctl.remembered ∧ s.statusView.resumePending = s.ctl.resumePending ∧
    s.statusView.commissioned = s.ctl.commissioned ∧
    (let shown (x : Player) : Option (PlayState × Nat) :=
      match x.incoming, x.play with
      | some q, _ => some (q.state, q.id)
      | none, some q => some (q.state, q.id)
      | none, none => none
    s.statusView.player0 = shown s.engine.player0 ∧ s.statusView.player1 = shown s.engine.player1) ∧
    (let faulted (b : BellNo) : Bool := match (s.bell b).service with | .faulted _ => true | _ => false
    s.statusView.inService = (List.finRange 48).countP (fun b => decide ((s.bell b).service = .inService)) ∧
    s.statusView.withdrawn = (List.finRange 48).countP (fun b => decide ((s.bell b).service = .withdrawn)) ∧
    s.statusView.resting = (List.finRange 48).countP (fun b => decide ((s.bell b).service = .resting)) ∧
    s.statusView.faulted = (List.finRange 48).countP faulted ∧
    s.statusView.condition =
      (if s.ctl.causes.supplyLow = true then .supplyLow
       else if s.ctl.causes.driverHot = true then .driverHot
       else if ∃ b, faulted b = true then .bellFaulted
       else if ∃ b : BellNo, (s.bell b).stale = true then .sweepStale
       else if ∃ b : BellNo, (s.bell b).service = .resting then .bellResting
       else if s.warn = true then .driverWarm
       else if s.link.overflow = true then .reportOverflow
       else .nothing))

/-- GET TIME, BELL GET, SETTINGS GET, PROGRAM GET, TUNE INFO, TUNE LIST, PLAYS and QUEUE are answered with what stands and change nothing but the Link Port
(R16, R43, R110, R120, R138, R154, R164). Of several RETIRING versions of a tune, the newest is the one shown (notes/assumptions/18.md); a held
note with a reserved slot is shown as granted (R43). -/
def Obligations.ReadingsChangeNothing : Prop :=
  ∀ (tag : Byte) (s : State), s.Takes →
    exec (.getTime tag) s =
      .next (s.answered 0x06 tag .ok (.getTime s.clock.wall s.clock.valid s.timer.ms s.clock.slew s.clock.lastPulse s.globals.pulseEnable)) ∧
    (∀ b : BellNo, exec (.bellGet tag b.val) s =
      .next (s.answered 0x08 tag .ok (.bellGet b (s.bell b) (s.sched.queue.filter (·.bell = b)).length))) ∧
    (∀ n, 48 ≤ n → exec (.bellGet tag n) s = .next (s.answered 0x08 tag .badField .nothing)) ∧
    exec (.settingsGet tag) s = .next (s.answered 0x0B tag .ok (.settingsGet s.globals s.drive.pendingBudget)) ∧
    (∀ n : Fin 64, ∃ a k has, exec (.programGet tag n.val) s = .next (s.answered 0x19 tag .ok (.programGet s.slots[n] a k has)) ∧
      1000 * k < a + 3000 ∧ a + 2000 ≤ 1000 * k ∧
      (s.slots[n].fields.kind = .toll → a = 0 ∧ has = none) ∧
      (s.slots[n].fields.kind = .tune → has = some (s.tunes.slots[s.slots[n].fields.tune].current.isSome) ∧
        ∀ v, s.tunes.slots[s.slots[n].fields.tune].current = some v → a = v.anchorStep * v.stepLength)) ∧
    (∀ n, 64 ≤ n → exec (.programGet tag n) s = .next (s.answered 0x19 tag .badField .nothing)) ∧
    (∀ t : Fin 96,
      let committing : Bool := match s.tunes.staging with | .committing u => decide (u.tune = t) | _ => false
      let staged : Option (Nat × Nat) := match s.tunes.staging with
        | .opened u => if u.tune = t then some (u.events.length, u.declared) else none
        | _ => none
      (s.tunes.versionsOf t ≠ [] ∨ committing = true ∨ staged ≠ none → exec (.tuneInfo tag (t.val + 1)) s =
        .next (s.answered 0x15 tag .ok (.tuneInfo s.tunes.slots[t].current s.tunes.slots[t].retiring committing staged))) ∧
      (s.tunes.versionsOf t = [] → committing = false → staged = none →
        exec (.tuneInfo tag (t.val + 1)) s = .next (s.answered 0x15 tag .notFound .nothing))) ∧
    (∀ n, n = 0 ∨ 96 < n → exec (.tuneInfo tag n) s = .next (s.answered 0x15 tag .badField .nothing) ∧
      exec (.tuneList tag n) s = .next (s.answered 0x16 tag .badField .nothing)) ∧
    (∀ t : Fin 96,
      let listed := (List.finRange 96).filter fun i => decide (t ≤ i ∧ s.tunes.versionsOf i ≠ [])
      let entries : List (Nat × Nat × Nat) := listed.map fun i =>
        (i.val + 1, (s.tunes.slots[i].current.map fun v => v.events.length).getD 0, (s.tunes.slots[i].retiring.map fun v => v.users).getD 0)
      exec (.tuneList tag (t.val + 1)) s = .next (s.answered 0x16 tag .ok
        (.tuneList s.tunes.freeBlocks.length s.nv.write.isSome s.tunes.staging (entries.take 48) ((listed[48]?).map fun i => i.val + 1)))) ∧
    exec (.plays tag) s = .next (s.answered 0x1E tag .ok (.plays
      ((s.engine.player0.play.toList ++ s.engine.player0.incoming.toList).map s.playView)
      ((s.engine.player1.play.toList ++ s.engine.player1.incoming.toList).map s.playView)
      s.engine.waiting s.nextId s.globals.livePriority)) ∧
    (let heldOf (p : PlayerNo) : Option (Held × Bool) :=
      match s.sched.held.filter (·.player = p), s.sched.granted.filter (·.note.player = p) with
      | h :: _, _ => some (h, false)
      | [], g :: _ => some (g.note, true)
      | [], [] => none
    exec (.queue tag) s = .next (s.answered 0x20 tag .ok
      (.queue s.sched.queue.length s.sched.granted.length (heldOf .p0) (heldOf .p1) (s.sched.queue.take 7))))

/-! ### Modes -/

/-- SET MODE by the table of R160: from SILENT to ACTIVE with a valid clock, from ACTIVE to SILENT with every drive cut, every entry, held note and play
gone, OK where the mode named is held, and its refusals. -/
def Obligations.SetModeFollowsItsTable : Prop :=
  ∀ (tag : Byte) (s : State), s.Takes →
    (∀ n, 1 < n → exec (.setMode tag n) s = .next (s.answered 0x02 tag .badField .nothing)) ∧
    (s.ctl.mode = .commission ∨ s.ctl.mode = .console ∨ s.ctl.mode = .halt →
      ∀ n, n ≤ 1 → exec (.setMode tag n) s = .next (s.answered 0x02 tag .wrongMode .nothing)) ∧
    (s.ctl.mode = .silent →
      exec (.setMode tag 1) s = .next (State.answered { s with ctl := { s.ctl with resumePending := false } } 0x02 tag .ok (.mode .silent)) ∧
      (s.clock.valid = false → exec (.setMode tag 0) s = .next (s.answered 0x02 tag .clockInvalid .nothing)) ∧
      (s.clock.valid = true → exec (.setMode tag 0) s = .next (State.answered
        (State.report { s with ctl := { s.ctl with mode := .active, remembered := none, resumePending := false } }
          (.mode .silent .active .request s.ctl.causes none 0)) 0x02 tag .ok (.mode .active)))) ∧
    (s.ctl.mode = .active →
      exec (.setMode tag 0) s = .next (s.answered 0x02 tag .ok (.mode .active)) ∧
      ∃ t : State, exec (.setMode tag 1) s = .next (t.answered 0x02 tag .ok (.mode .silent)) ∧
        t.ctl = { s.ctl with mode := .silent, remembered := none } ∧
        t.sched = { s.sched with queue := [], held := [], granted := [] } ∧ t.playRecords = [] ∧
        (∀ b d, (t.bell b).drive = some d → d.kind = .testPulse ∧ (s.bell b).drive = some d) ∧
        (∀ b, (t.bell b).heat = (s.bell b).heat ∧ (t.bell b).missRun = (s.bell b).missRun ∧
          (t.bell b).lastDriveStart = (s.bell b).lastDriveStart ∧ (t.bell b).readyTime = (s.bell b).readyTime) ∧
        t.timer = s.timer ∧ t.clock = s.clock ∧ t.warn = s.warn ∧ t.supply = s.supply ∧ t.sweep = s.sweep ∧ t.slots = s.slots ∧
        t.nv = s.nv ∧ t.pending = s.pending)

/-- COMMISSION END leaves COMMISSION for SILENT, sets the working commissioned flag and starts the write of a copy that carries it (R161, R163); refused
outside COMMISSION and while the store is busy. -/
def Obligations.CommissionEndStartsItsWrite : Prop :=
  ∀ (tag : Byte) (s : State), s.Takes →
    (s.ctl.mode ≠ .commission → exec (.commissionEnd tag) s = .next (s.answered 0x03 tag .wrongMode .nothing)) ∧
    (s.ctl.mode = .commission → s.nv.write ≠ none → exec (.commissionEnd tag) s = .next (s.answered 0x03 tag .busy .nothing)) ∧
    (s.ctl.mode = .commission → s.nv.write = none → ∃ (t : State) (copy : StoredArea),
      exec (.commissionEnd tag) s = .next (t.answered 0x03 tag .started .nothing) ∧
      t.ctl = { s.ctl with mode := .silent, remembered := none, commissioned := true } ∧
      t.nv = { s.nv with write := some (.commission copy) } ∧ copy.commissioned = true ∧
      (∀ n : Fin 64, copy.slots[n] = s.slots[n].fields) ∧
      (∀ b : BellNo, copy.bells[b].settings = (t.bell b).settings ∧ copy.bells[b].lead16 = (t.bell b).lead16) ∧
      t.sched = { s.sched with queue := [], held := [], granted := [] } ∧ t.playRecords = [] ∧
      t.timer = s.timer ∧ t.clock = s.clock ∧ t.warn = s.warn ∧ t.supply = s.supply ∧ t.sweep = s.sweep ∧ t.slots = s.slots ∧
      t.pending = s.pending)

/-- CONSOLE_KEY_SAMPLE: the key's filter takes three highs of five, a rise in COMMISSION, SILENT or ACTIVE enters CONSOLE and remembers the mode, and
a fall in CONSOLE returns to the mode remembered (R157, R159). -/
def Obligations.ConsoleKeyEntersAndLeavesConsole : Prop :=
  ∀ (high : Bool) (s : State),
    (s.timer.due.key = false → exec (.consoleKeySample high) s = .next s.transmit) ∧
    (s.timer.due.key = true →
      let hist := (high :: s.ctl.keyHist).take 5
      let out : Bool := if s.ctl.keyOut = false ∧ 3 ≤ hist.countP id then true
        else if s.ctl.keyOut = true ∧ hist.countP id < 3 then false else s.ctl.keyOut
      let rises := s.ctl.keyOut = false ∧ out = true ∧ s.ctl.mode.returnable = true
      let falls := s.ctl.keyOut = true ∧ out = false ∧ s.ctl.mode = .console
      ∃ t : State, exec (.consoleKeySample high) s = .next t.transmit ∧
        t.timer = { s.timer with due := { s.timer.due with key := false } } ∧
        t.ctl.keyHist = hist ∧ t.ctl.keyOut = out ∧
        (¬ rises ∧ ¬ falls → t = { s with
          timer := { s.timer with due := { s.timer.due with key := false } }, ctl := { s.ctl with keyHist := hist, keyOut := out } }) ∧
        (rises → t.ctl.mode = .console ∧ t.ctl.remembered = some s.ctl.mode ∧ t.sched.queue = [] ∧ t.playRecords = [] ∧
          ∀ b, (t.bell b).drive = (s.bell b).drive ∧ (t.bell b).window = (s.bell b).window) ∧
        (falls → ∀ m, s.ctl.remembered = some m → m.returnable = true → t.ctl.mode = m ∧ t.ctl.remembered = none) ∧
        t.clock = s.clock ∧ t.warn = s.warn ∧ t.supply = s.supply ∧ t.sweep = s.sweep ∧ t.slots = s.slots ∧ t.nv = s.nv ∧
        t.pending = s.pending)

/-! ### Clocks -/

/-- The calendar of R113 and R115: from a date of the range and a ms of day the wall instant, and back. -/
def Obligations.WallInstantsAreDatesAndBack : Prop :=
  ∀ (d : Date) (ms : Nat), d.valid = true → ms < 86400000 →
    wallOf d ms < Config.rangeEnd ∧ wallDate (wallOf d ms) = d ∧ wallMs (wallOf d ms) = ms

/-- SET TIME sets the wall time, the current second and the valid flag and clears the slew remainder (R118, R119). A forward step of a valid clock marks
the latest occurrence of each slot whose launch second it passed, and launches it or reports it SUPPRESSED, LATE or without a tune (R133, R136); a
backward step or one of zero meets none (R134), and a clock that becomes valid ends resume-pending in SILENT (R160); its end in CONSOLE and HALT with SILENT
remembered is not stated. That occurrences past 2099-12-31 do not exist, the bound `o < Config.rangeEnd` of `State.Passes`, is the model's choice
(notes/assumptions/23.md). -/
def Obligations.SetTimeStepsTheWallClock : Prop :=
  ∀ (tag : Byte) (y mo d ms : Nat) (s : State), s.Takes →
    let date : Date := { year := y, month := mo, day := d }
    (date.valid = false ∨ 86400000 ≤ ms → exec (.setTime tag y mo d ms) s = .next (s.answered 0x05 tag .badField .nothing)) ∧
    (date.valid = true → ms < 86400000 →
      let w1 := wallOf date ms
      let stepped : State := { s with clock := { s.clock with wall := w1, valid := true, slew := 0, second := w1 / 1000 * 1000 } }
      (∃ t : State, exec (.setTime tag y mo d ms) s = .next (t.answered 0x05 tag .ok (.setTime s.clock.wall s.clock.valid w1)) ∧
        t.clock = stepped.clock ∧ t.timer = s.timer ∧ t.globals = s.globals ∧ t.drive = s.drive ∧ t.warn = s.warn ∧ t.supply = s.supply ∧
        t.sweep = s.sweep ∧ t.nv = s.nv ∧ t.pending = s.pending ∧ (∀ n : Fin 64, t.slots[n].fields = s.slots[n].fields) ∧
        (s.clock.valid = true → s.clock.wall < w1 → ∀ n : Fin 64,
          (∀ o, s.LatestPassed n s.clock.wall w1 o → t.slots[n].marker = some o) ∧
          ((∀ o, ¬ s.Passes n s.clock.wall w1 o) → t.slots[n].marker = s.slots[n].marker))) ∧
      (s.clock.valid = true → s.clock.wall < w1 → ∀ (n : Fin 64) (o : Nat),
        s.LatestPassed n s.clock.wall w1 o → (∀ m : Fin 64, m ≠ n → ∀ x, s.clock.wall < x → s.slots[m].fields.matchesAt x = false) →
        let late := decide (o + s.slots[n].fields.lateLimit * 1000 < w1)
        exec (.setTime tag y mo d ms) s = .next (State.answered (stepped.dealtWith n o late) 0x05 tag .ok (.setTime s.clock.wall true w1))) ∧
      (s.clock.valid = true ∧ w1 ≤ s.clock.wall ∨ s.clock.valid = false ∧ s.ctl.resumePending = false →
        exec (.setTime tag y mo d ms) s = .next (stepped.answered 0x05 tag .ok (.setTime s.clock.wall s.clock.valid w1))) ∧
      (s.clock.valid = false → s.ctl.resumePending = true → s.ctl.mode = .silent →
        exec (.setTime tag y mo d ms) s = .next (State.answered
          (State.report { stepped with ctl := { s.ctl with mode := .active, remembered := none, resumePending := false } }
            (.mode .silent .active .clockValid s.ctl.causes none 0)) 0x05 tag .ok (.setTime s.clock.wall false w1))))

/-- WALL_CLOCK_ADVANCE: run time rises by one in every mode, the periodic events of the new ms fall due, and a valid wall clock advances by 1 ms but at
the slew instants (R112, R114, R117); at a whole wall second the scanner is offered the crossing. -/
def Obligations.RunTimeAdvancesEveryMs : Prop :=
  ∀ s : State,
    let ms := s.timer.ms + 1
    let timer : RunTimer := { ms := ms, tick := 0, quarters := 0, due :=
      { slew := ms % 50 = 0, pulse := true, key := true, supply := ms % 10 = 0, temperature := ms % 100 = 0, cooling := ms % 100 = 0 } }
    (∃ t : State, exec .wallClockAdvance s = .next t.transmit ∧ t.timer = timer ∧
      t.ctl = s.ctl ∧ t.globals = s.globals ∧ t.drive = s.drive ∧ t.warn = s.warn ∧ t.supply = s.supply ∧ t.sweep = s.sweep ∧ t.nv = s.nv ∧
      t.pending = s.pending ∧ (s.clock.wall + 1 < Config.rangeEnd → t.clock.slew = s.clock.slew) ∧
      (s.clock.valid = true → ms % 50 ≠ 0 → s.clock.wall + 1 < Config.rangeEnd → t.clock.wall = s.clock.wall + 1 ∧ t.clock.valid = true)) ∧
    (s.clock.valid = false ∨ ms % 50 = 0 → exec .wallClockAdvance s = .next (State.transmit { s with timer := timer })) ∧
    (s.clock.valid = true → ms % 50 ≠ 0 → s.clock.wall + 1 < s.clock.second + 1000 → s.clock.wall + 1 < Config.rangeEnd →
      exec .wallClockAdvance s = .next (State.transmit { s with timer := timer, clock := { s.clock with wall := s.clock.wall + 1 } })) ∧
    (s.clock.valid = true → ms % 50 ≠ 0 → s.clock.wall + 1 = Config.rangeEnd →
      exec .wallClockAdvance s = .next (State.transmit (State.report
        { s with
          timer := timer
          clock := { s.clock with wall := Config.rangeEnd - 1, valid := false, slew := 0, second := (Config.rangeEnd - 1) / 1000 * 1000 } }
        (.clock (.rangeEnd ms (Config.rangeEnd - 1))))))

/-- SLEW_INSTANT moves the slew remainder one ms toward 0 and the wall clock by 2, 0 or 1 ms (R116). -/
def Obligations.SlewMovesTheRemainderTowardZero : Prop :=
  ∀ s : State,
    let timer := { s.timer with due := { s.timer.due with slew := false } }
    let move : Nat := if 0 < s.clock.slew then 2 else if s.clock.slew < 0 then 0 else 1
    let left : Int := if 0 < s.clock.slew then s.clock.slew - 1 else if s.clock.slew < 0 then s.clock.slew + 1 else 0
    (s.timer.due.slew = false → exec .slewInstant s = .next s.transmit) ∧
    (s.timer.due.slew = true → s.clock.valid = false → exec .slewInstant s = .next (State.transmit { s with timer := timer })) ∧
    (s.timer.due.slew = true → s.clock.valid = true → s.clock.wall + move < Config.rangeEnd →
      (∃ t : State, exec .slewInstant s = .next t.transmit ∧ t.timer = timer ∧ t.clock.wall = s.clock.wall + move ∧ t.clock.slew = left ∧
        t.clock.valid = true ∧ t.ctl = s.ctl ∧ t.globals = s.globals ∧ t.nv = s.nv ∧ t.pending = s.pending) ∧
      (s.clock.wall + move < s.clock.second + 1000 → exec .slewInstant s = .next (State.transmit
        { s with timer := timer, clock := { s.clock with wall := s.clock.wall + move, slew := left } })))

/-- MINUTE_PULSE_SAMPLE: three highs of five raise the output, and an edge of a valid, enabled clock, 50 000 ms after the last accepted or the first, sets
the slew remainder to its offset of at most 2 000 ms; a nearer edge is reported and rejected (R121 to R123). -/
def Obligations.MinutePulsesSetTheSlew : Prop :=
  ∀ (high : Bool) (s : State),
    let hist := (high :: s.clock.pulseHist).take 5
    let rises := s.clock.pulseOut = false ∧ 3 ≤ hist.countP id
    let out : Bool := if rises then true else if s.clock.pulseOut = true ∧ hist.countP id < 3 then false else s.clock.pulseOut
    let sampled : State := { s with
      timer := { s.timer with due := { s.timer.due with pulse := false } }
      clock := { s.clock with pulseHist := hist, pulseOut := out } }
    let edge := s.timer.ms - 2
    let p : Int := ((s.clock.wall : Int) - 2) % 60000
    let offset : Int := if p < 30000 then -p else 60000 - p
    let judged := rises ∧ s.ctl.mode ≠ .loading ∧ s.globals.pulseEnable = true ∧ s.clock.valid = true
    (s.timer.due.pulse = false → exec (.minutePulseSample high) s = .next s.transmit) ∧
    (s.timer.due.pulse = true → ¬ judged → exec (.minutePulseSample high) s = .next sampled.transmit) ∧
    (s.timer.due.pulse = true → judged →
      (∀ last, s.clock.lastPulse = some last → edge < last + 50000 →
        exec (.minutePulseSample high) s = .next (State.transmit (sampled.report (.clock (.pulseRejected s.timer.ms edge (edge - last)))))) ∧
      ((∀ last, s.clock.lastPulse = some last → last + 50000 ≤ edge) → -2000 ≤ offset ∧ offset ≤ 2000 →
        exec (.minutePulseSample high) s =
          .next (State.transmit { sampled with clock := { sampled.clock with lastPulse := some edge, slew := offset } })) ∧
      ((∀ last, s.clock.lastPulse = some last → last + 50000 ≤ edge) → offset < -2000 →
        0 ≤ (s.clock.wall : Int) + offset → (s.clock.wall : Int) + offset < Config.rangeEnd →
        let w1 := ((s.clock.wall : Int) + offset).toNat
        exec (.minutePulseSample high) s = .next (State.transmit (State.report
          { sampled with clock :=
              { sampled.clock with wall := w1, slew := 0, second := w1 / 1000 * 1000, lastPulse := some edge } }
          (.clock (.stepped s.timer.ms offset s.clock.wall w1))))) ∧
      ((∀ last, s.clock.lastPulse = some last → last + 50000 ≤ edge) → 2000 < offset → (s.clock.wall : Int) + offset < Config.rangeEnd →
        ∃ t : State, exec (.minutePulseSample high) s = .next t.transmit ∧ (t.clock.wall : Int) = s.clock.wall + offset ∧ t.clock.slew = 0 ∧
          t.clock.valid = true ∧ t.clock.lastPulse = some edge ∧ t.timer = sampled.timer ∧ t.ctl = s.ctl ∧ t.globals = s.globals ∧
          t.nv = s.nv ∧ t.pending = s.pending))

/-! ### Settings -/

/-- BELL SET: refused whole when no field or one twice is named or a field or the prospective record is bad, pending while the bell is not quiet, applied at once when it is, with lead16
clamped; laying the united pending record is laying the old one and then the new (R13 to R15). -/
def Obligations.BellSetAppliesOrWaits : Prop :=
  (∀ (x : Settings) (old new : Patch), x.over (old.merge new) = (x.over old).over new ∧
    ((old.merge new).lead16 = if new.lead16.isSome then new.lead16 else old.lead16)) ∧
  ∀ (tag : Byte) (b : BellNo) (fs : List (Nat × Nat)) (s : State), s.Takes →
    (fs.length = 0 ∨ 15 < fs.length → ∀ n, exec (.bellSet tag n fs) s = .next (s.answered 0x07 tag .badField .nothing)) ∧
    (∀ n, 48 ≤ n → exec (.bellSet tag n fs) s = .next (s.answered 0x07 tag .badField .nothing)) ∧
    (Patch.ofPairs fs = none → exec (.bellSet tag b.val fs) s = .next (s.answered 0x07 tag .badField .nothing)) ∧
    (∀ p, Patch.ofPairs fs = some p →
      let r := s.bell b
      let whole := (r.pending.getD Patch.empty).merge p
      let x := r.settings.over whole
      let quiet := (∀ e ∈ s.sched.queue, e.bell ≠ b) ∧ r.hammer = .idle
      let lead := whole.lead16.getD r.lead16
      let applied : Bell :=
        { r with settings := x, pending := none, lead16 := max (16 * x.leadMin) (min lead (16 * x.leadMax)) }
      (x.wellFormed b = false → exec (.bellSet tag b.val fs) s = .next (s.answered 0x07 tag .badField .nothing)) ∧
      (x.wellFormed b = true → ¬ quiet →
        exec (.bellSet tag b.val fs) s =
          .next (State.answered { s with bells := s.bells.set b { r with pending := some whole } } 0x07 tag .ok (.bellSet false))) ∧
      (x.wellFormed b = true → quiet → whole.heatWarn = none → whole.heatRest = none → whole.heatRelease = none →
        exec (.bellSet tag b.val fs) s = .next (State.answered { s with bells := s.bells.set b applied } 0x07 tag .ok (.bellSet true))) ∧
      (x.wellFormed b = true → quiet → whole.heatWarn.isSome ∨ whole.heatRest.isSome ∨ whole.heatRelease.isSome →
        let st : Option Service := match r.service with
          | .inService => if x.heatRest ≤ r.heat then some .resting else none
          | .resting => if r.heat < x.heatRelease then some .inService else none
          | _ => none
        exec (.bellSet tag b.val fs) s = .next (State.answered
          (match st with
            | some st => State.report { s with bells := s.bells.set b { applied with service := st } } (.bell b st .heat 0)
            | none => { s with bells := s.bells.set b applied }) 0x07 tag .ok (.bellSet true))))

/-- BELL SERVICE by the table of R9: a withdrawal removes the bell's entries, a return and a cleared fault take the bell back by its heat with the miss run
at 0 (R7, R10). -/
def Obligations.BellServiceFollowsItsTable : Prop :=
  ∀ (tag : Byte) (b : BellNo) (s : State), s.Takes →
    let r := s.bell b
    let refused (x : Result) : Host.Outcome State Fault Refusal := .next (s.answered 0x09 tag x .nothing)
    let st : Service := if r.settings.heatRest ≤ r.heat then .resting else .inService
    let back : Host.Outcome State Fault Refusal := .next (State.answered
      (State.report { s with bells := s.bells.set b { r with missRun := 0, service := st } } (.bell b st .request 0)) 0x09 tag .ok (.bellService st))
    (∀ n a, 48 ≤ n → exec (.bellService tag n a) s = refused .badField) ∧
    (∀ a, 2 < a → exec (.bellService tag b.val a) s = refused .badField) ∧
    (r.service = .withdrawn →
      exec (.bellService tag b.val 0) s = .next (s.answered 0x09 tag .ok (.bellService .withdrawn)) ∧
      exec (.bellService tag b.val 1) s = back ∧ exec (.bellService tag b.val 2) s = refused .sequence) ∧
    (r.service = .inService → exec (.bellService tag b.val 1) s = .next (s.answered 0x09 tag .ok (.bellService .inService)) ∧
      exec (.bellService tag b.val 2) s = refused .sequence) ∧
    (r.service = .resting → exec (.bellService tag b.val 1) s = refused .busy ∧ exec (.bellService tag b.val 2) s = refused .sequence) ∧
    (∀ k, r.service = .faulted k → exec (.bellService tag b.val 1) s = refused .sequence ∧ exec (.bellService tag b.val 2) s = back) ∧
    (r.service ≠ .withdrawn → ∃ t : State, exec (.bellService tag b.val 0) s = .next (t.answered 0x09 tag .ok (.bellService .withdrawn)) ∧
      (t.bell b).service = .withdrawn ∧ (∀ e ∈ t.sched.queue, e.bell ≠ b) ∧
      (t.bell b).missRun = (if r.service.code = 3 then 0 else r.missRun) ∧ (t.bell b).drive = r.drive ∧ (t.bell b).heat = r.heat ∧
      (∀ c, c ≠ b → t.bell c = s.bell c) ∧
      t.timer = s.timer ∧ t.clock = s.clock ∧ t.ctl = s.ctl ∧ t.globals = s.globals ∧ t.drive = s.drive ∧ t.warn = s.warn ∧ t.supply = s.supply ∧
      t.sweep = s.sweep ∧ t.slots = s.slots ∧ t.nv = s.nv ∧ t.pending = s.pending)

/-- SETTINGS SET is refused whole, as when it names no setting or one twice, or takes effect at once; a named drive budget waits while a coil is in DRIVE (R53, R84, R94, R164). -/
def Obligations.SettingsSetTakesEffect : Prop :=
  ∀ (tag : Byte) (fs : List (Nat × Nat)) (s : State), s.Takes →
    (fs.length = 0 ∨ 10 < fs.length → exec (.settingsSet tag fs) s = .next (s.answered 0x0A tag .badField .nothing)) ∧
    (GlobalPatch.ofPairs fs = none → exec (.settingsSet tag fs) s = .next (s.answered 0x0A tag .badField .nothing)) ∧
    (∀ p, GlobalPatch.ofPairs fs = some p →
      let free := ∀ b, (s.bell b).hammer ≠ .drive
      let supply := if p.vNom.isSome then { s.supply with lowRun := 0, recoveryRun := 0 } else s.supply
      let next := (if s.timer.tick = 0 then s.timer.ms else s.timer.ms + 1) + (p.sweepPeriod.getD 0) * 1250
      let sweep := if p.sweepPeriod.isSome then { s.sweep with next := some next } else s.sweep
      let g : Globals :=
        { driveBudget := s.globals.driveBudget, stagger := p.stagger.getD s.globals.stagger, filter := p.filter.getD s.globals.filter,
          sweepPeriod := p.sweepPeriod.getD s.globals.sweepPeriod, strikeReports := p.strikeReports.getD s.globals.strikeReports,
          noteReports := p.noteReports.getD s.globals.noteReports, autoActive := p.autoActive.getD s.globals.autoActive,
          livePriority := p.livePriority.getD s.globals.livePriority, pulseEnable := p.pulseEnable.getD s.globals.pulseEnable,
          vNom := p.vNom.getD s.globals.vNom }
      (p.driveBudget = none → exec (.settingsSet tag fs) s =
        .next (State.answered { s with globals := g, supply := supply, sweep := sweep } 0x0A tag .ok (.settingsSet none))) ∧
      (∀ v, p.driveBudget = some v → free → exec (.settingsSet tag fs) s = .next (State.answered
        { s with globals := { g with driveBudget := v }, supply := supply, sweep := sweep, drive := { s.drive with pendingBudget := none } }
        0x0A tag .ok (.settingsSet (some true)))) ∧
      (∀ v, p.driveBudget = some v → ¬ free → exec (.settingsSet tag fs) s = .next (State.answered
        { s with globals := g, supply := supply, sweep := sweep, drive := { s.drive with pendingBudget := some v } }
        0x0A tag .ok (.settingsSet (some false)))))

/-- SAVE starts the write of a copy of the settings, and SETTINGS_WRITE_END puts that copy in the stored area when the read-back matches (R161, R163). That the command passes
over without such a write in flight is the model's choice (notes/assumptions/2.md). -/
def Obligations.SavedSettingsReplaceTheArea : Prop :=
  (∀ (tag : Byte) (s : State), s.Takes →
    (s.nv.write ≠ none → exec (.save tag) s = .next (s.answered 0x0C tag .busy .nothing)) ∧
    (s.nv.write = none → ∃ copy : StoredArea,
      exec (.save tag) s = .next (State.answered { s with nv := { s.nv with write := some (.save copy) } } 0x0C tag .started .nothing) ∧
      copy.globals = { s.globals with driveBudget := s.drive.pendingBudget.getD s.globals.driveBudget } ∧
      (∀ b : BellNo, copy.bells[b] =
        { settings := (s.bell b).settings, lead16 := (s.bell b).lead16, withdrawn := decide ((s.bell b).service = .withdrawn) }) ∧
      (∀ n : Fin 64, copy.slots[n] = s.slots[n].fields) ∧ copy.commissioned = s.ctl.commissioned)) ∧
  (∀ (s : State) (copy : StoredArea) (op : StoreOp),
    s.nv.write = some (.save copy) ∧ op = .save ∨ s.nv.write = some (.commission copy) ∧ op = .commission →
    exec (.settingsWriteEnd true) s = .next (State.transmit (State.report
      { s with nv := { s.nv with area := copy, areaMatches := true, write := none } }
      (.store { kind := .saved, tune := 0, op := op, count := 0, blocks := 0, free := 0, reason := none }))) ∧
    exec (.settingsWriteEnd false) s = .next (State.transmit (State.report { s with nv := { s.nv with write := none } }
      (.store { kind := .failed, tune := 0, op := op, count := 0, blocks := 0, free := 0, reason := some .write })))) ∧
  (∀ (s : State) (m : Bool), (∀ copy, s.nv.write ≠ some (.save copy) ∧ s.nv.write ≠ some (.commission copy)) →
    exec (.settingsWriteEnd m) s = .next s.transmit)

/-! ### Tunes -/

/-- TUNE OPEN reserves free blocks for the declared events, or refuses and changes nothing (R99, R101). -/
def Obligations.TuneOpenReservesBlocks : Prop :=
  ∀ (tag : Byte) (t : Fin 96) (sl a d : Nat) (name : List Byte) (s : State), s.Takes →
    let refused (x : Result) : Host.Outcome State Fault Refusal := .next (s.answered 0x10 tag x .nothing)
    let good := name.length ≤ 16 ∧ (∀ c ∈ name, 32 ≤ c.toNat ∧ c.toNat ≤ 126) ∧ 10 ≤ sl ∧ sl ≤ 2000 ∧ 1 ≤ d ∧ d ≤ 2048 ∧ a * sl ≤ 600000
    let cleared : TuneStore := match s.tunes.staging with | .opened _ => { s.tunes with staging := .none } | _ => s.tunes
    let lost : Option (Fin 96) := match s.tunes.staging with | .opened u => some u.tune | _ => none
    let n := (d + 31) / 32
    let fresh (blocks : List Nat) : Upload :=
      { tune := t, name := name, stepLength := sl, anchorStep := a, declared := d, blocks := blocks, events := [], lastStep := none,
        stepBells := [], crc := 0 }
    let open_ := exec (.tuneOpen tag (t.val + 1) sl a d name) s
    (∀ m, m = 0 ∨ 96 < m → exec (.tuneOpen tag m sl a d name) s = refused .badField) ∧
    (¬ good → open_ = refused .badField) ∧
    (good → s.nv.write ≠ none ∨ s.tunes.slots[t].retiring ≠ none → open_ = refused .busy) ∧
    (good → s.nv.write = none → s.tunes.slots[t].retiring = none → cleared.freeBlocks.length < n → open_ = refused .noSpace) ∧
    (good → s.nv.write = none → s.tunes.slots[t].retiring = none → n ≤ cleared.freeBlocks.length → ∃ blocks : List Nat,
      open_ = .next (State.answered
        { s with tunes := { s.tunes with staging := .opened (fresh blocks) } }
        0x10 tag .ok (.tuneOpen n (cleared.freeBlocks.length - n) lost)) ∧
      blocks.length = n ∧ blocks.Nodup ∧ ∀ x ∈ blocks, x < 256 ∧ x ∉ cleared.usedBlocks)

/-- TUNE EVENTS accepts a frame of events exactly when it goes on with the open upload where it stands, keeps to the declared count, and leaves the whole
list in range, in order and, when complete, at or past the anchor step; a frame not accepted stages nothing (R97, R102). That SEQUENCE carries the counts 0 and 0
without an upload is the model's choice (notes/assumptions/48.md). -/
def Obligations.TuneEventsAcceptOrderedLists : Prop :=
  ∀ (tag : Byte) (tune first : Nat) (recs : List EventRec) (s : State), s.Takes → 1 ≤ recs.length → recs.length ≤ 60 →
    (∀ u, s.tunes.staging = .opened u → u.Law →
      let good (es : List Event) : Prop :=
        tune = tuneNumber u.tune ∧ first = u.events.length ∧ recs.map eventOf = es.map some ∧ u.events.length + es.length ≤ u.declared ∧
        eventsOrdered (u.events ++ es) = true ∧
        (u.events.length + es.length = u.declared → ∀ e, (u.events ++ es).getLast? = some e → u.anchorStep ≤ e.step)
      (∀ es, good es → ∃ last bells, exec (.tuneEvents tag tune first recs) s = .next (State.answered
        { s with tunes := { s.tunes with staging := .opened { u with events := u.events ++ es, lastStep := last, stepBells := bells } } }
        0x11 tag .ok (.tuneEventsOk (u.events.length + es.length)))) ∧
      ((∀ es, ¬ good es) → ∃ result position, (result = .sequence ∨ result = .badField) ∧
        exec (.tuneEvents tag tune first recs) s = .next (s.answered 0x11 tag result (.tuneEvents u.events.length position)))) ∧
    (∀ u, s.tunes.staging = .committing u →
      exec (.tuneEvents tag tune first recs) s = .next (s.answered 0x11 tag .sequence (.tuneEvents u.events.length 0))) ∧
    (s.tunes.staging = .none →
      exec (.tuneEvents tag tune first recs) s = .next (s.answered 0x11 tag .sequence (.tuneEvents 0 0)))

/-- TUNE CLOSE starts the commit of a complete upload whose CRC-16 matches (R100, R103); TUNE ABORT gives an open upload up (R106). Which stored check
values a started commit spoils (notes/assumptions/20.md), and the counts 0 and 0 of a SEQUENCE without an upload (notes/assumptions/48.md), are the model's
choices. -/
def Obligations.TuneCloseStartsTheCommit : Prop :=
  ∀ (tag : Byte) (tune count crc : Nat) (s : State), s.Takes →
    (∀ u, s.tunes.staging = .opened u →
      let complete := tune = tuneNumber u.tune ∧ count = u.events.length ∧ count = u.declared
      let found := (crc16 (u.events.flatMap fun e => encodeEvent e.toRec)).toNat
      (¬ complete → exec (.tuneClose tag tune count crc) s =
        .next (s.answered 0x12 tag .sequence (.tuneCloseSequence u.events.length u.declared))) ∧
      (complete → found ≠ crc → exec (.tuneClose tag tune count crc) s = .next (s.answered 0x12 tag .check (.tuneCloseCheck found))) ∧
      (complete → found = crc → s.nv.write ≠ none → exec (.tuneClose tag tune count crc) s = .next (s.answered 0x12 tag .busy .nothing)) ∧
      (complete → found = crc → s.nv.write = none → ∃ entries, exec (.tuneClose tag tune count crc) s = .next (State.answered
        { s with
          tunes := { s.tunes with staging := .committing { u with crc := found } }
          nv := { s.nv with entries := entries, write := some .commit } } 0x12 tag .started .tuneCloseStarted) ∧
        ∀ i : Fin 96, entries[i].map (·.version) = s.nv.entries[i].map (·.version)) ∧
      exec (.tuneAbort tag) s =
        .next (State.answered { s with tunes := { s.tunes with staging := .none } } 0x13 tag .ok (.tuneAbort (some u.tune)))) ∧
    (∀ u, s.tunes.staging = .committing u →
      exec (.tuneClose tag tune count crc) s = .next (s.answered 0x12 tag .sequence (.tuneCloseSequence u.events.length u.declared)) ∧
      exec (.tuneAbort tag) s = .next (s.answered 0x13 tag .busy .nothing)) ∧
    (s.tunes.staging = .none →
      exec (.tuneClose tag tune count crc) s = .next (s.answered 0x12 tag .sequence (.tuneCloseSequence 0 0)) ∧
      exec (.tuneAbort tag) s = .next (s.answered 0x13 tag .ok (.tuneAbort none)))

/-- DIRECTORY_SWITCH makes the committed upload the CURRENT version and keeps the old one RETIRING while it is used; COMMIT_FAILED drops the upload and
leaves the directory (R104, R105, R109). That the two commands pass over without a commit in flight is the model's choice (notes/assumptions/2.md), as is
the serial number of the version (notes/assumptions/30.md). -/
def Obligations.CommitsEndInASwitchOrFail : Prop :=
  ∀ s : State,
    (∀ u, s.tunes.staging = .committing u → s.nv.write = some .commit →
      (∃ (t : State) (v : Version) (free : Nat), exec .directorySwitch s = .next (State.transmit (t.report
          (.store { kind := .committed, tune := tuneNumber u.tune, op := .commit, count := u.events.length, blocks := u.blocks.length,
                    free := free, reason := none }))) ∧
        v = { name := u.name, stepLength := u.stepLength, anchorStep := u.anchorStep, events := u.events, crc := u.crc, blocks := u.blocks,
              users := 0, serial := s.tunes.nextSerial } ∧
        t.tunes.slots[u.tune].current = some v ∧
        t.tunes.retiringOf u.tune =
          (s.tunes.slots[u.tune].current.toList.filter fun old => decide (0 < old.users)) ++ s.tunes.retiringOf u.tune ∧
        t.tunes.slots[u.tune].retiring = (t.tunes.retiringOf u.tune).head? ∧
        (∀ i : Fin 96, i ≠ u.tune →
          t.tunes.slots[i] = s.tunes.slots[i] ∧ t.tunes.retiringOf i = s.tunes.retiringOf i ∧ t.nv.entries[i] = s.nv.entries[i]) ∧
        t.tunes.staging = .none ∧ t.nv.write = none ∧ t.nv.area = s.nv.area ∧
        t.nv.entries[u.tune] = some { version := v, crcMatches := true, countReadable := true } ∧
        t = { s with tunes := t.tunes, nv := t.nv }) ∧
      (∃ free : Nat, exec .commitFailed s = .next (State.transmit (State.report
        { s with tunes := { s.tunes with staging := .none }, nv := { s.nv with write := none } }
        (.store { kind := .failed, tune := tuneNumber u.tune, op := .commit, count := u.events.length, blocks := u.blocks.length,
                  free := free, reason := some .write }))))) ∧
    (s.nv.write ≠ some .commit → exec .directorySwitch s = .next s.transmit ∧ exec .commitFailed s = .next s.transmit)

/-- TUNE DELETE takes the CURRENT version away, keeps it RETIRING while it is used, and starts the erase; ERASE_END empties the stored entry (R108, R109). That
ERASE_END passes over without an erase in flight is the model's choice (notes/assumptions/2.md), as are where a second RETIRING version is kept
(notes/assumptions/18.md) and that a tune without a CURRENT version is NOT_FOUND even while the store is busy (notes/assumptions/50.md). -/
def Obligations.TuneDeleteErasesItsEntry : Prop :=
  ∀ (tag : Byte) (t : Fin 96) (s : State),
    (s.Takes →
      (∀ m, m = 0 ∨ 96 < m → exec (.tuneDelete tag m) s = .next (s.answered 0x14 tag .badField .nothing)) ∧
      (s.tunes.slots[t].current = none → exec (.tuneDelete tag (t.val + 1)) s = .next (s.answered 0x14 tag .notFound .nothing)) ∧
      (∀ v, s.tunes.slots[t].current = some v →
        (s.nv.write ≠ none → exec (.tuneDelete tag (t.val + 1)) s = .next (s.answered 0x14 tag .busy .nothing)) ∧
        (s.nv.write = none →
          let retiring := if 0 < v.users then v :: s.tunes.retiringOf t else s.tunes.retiringOf t
          exec (.tuneDelete tag (t.val + 1)) s = .next (State.answered
            { s with
              tunes := { s.tunes with
                slots := s.tunes.slots.set t { current := none, retiring := retiring.head? }
                displaced := (s.tunes.displaced.filter fun x => decide (x.1 ≠ t)) ++ retiring.tail.map fun x => (t, x) }
              nv := { s.nv with write := some (.erase t v.events.length v.blocks.length) } } 0x14 tag .started .nothing)))) ∧
    (∀ n k, s.nv.write = some (.erase t n k) →
      (∃ free, exec (.eraseEnd true) s = .next (State.transmit (State.report
        { s with nv := { s.nv with entries := s.nv.entries.set t none, write := none } }
        (.store { kind := .erased, tune := tuneNumber t, op := .erase, count := n, blocks := k, free := free, reason := none })))) ∧
      (∃ free, exec (.eraseEnd false) s = .next (State.transmit (State.report { s with nv := { s.nv with write := none } }
        (.store { kind := .failed, tune := tuneNumber t, op := .erase, count := n, blocks := k, free := free, reason := some .write }))))) ∧
    ((∀ i n k, s.nv.write ≠ some (.erase i n k)) → ∀ m, exec (.eraseEnd m) s = .next s.transmit)

/-! ### The Program Table -/

/-- PROGRAM SET is judged field by field, replaces the slot and sets its marker; PROGRAM CLEAR disables the slot (R126, R137, R138). That a yes or no is a
byte of 1 or 0 is the model's reading (notes/assumptions/12.md), as is what is judged of a field not in use (notes/assumptions/29.md). -/
def Obligations.ProgramSetJudgesEveryField : Prop :=
  (∀ w : SlotWire, (slotFieldsOf w).isSome = true ↔
    w.enabled ≤ 1 ∧ w.second ≤ 59 ∧ w.minute ≤ 59 ∧ w.datePresent ≤ 1 ∧
    (w.datePresent = 1 → Date.valid { year := w.year, month := w.month, day := w.day } = true) ∧ w.weekdays ≤ 127 ∧ w.kind ≤ 1 ∧
    1 ≤ w.tune ∧ w.tune ≤ 96 ∧ w.tollBell ≤ 47 ∧ 1 ≤ w.tollDynamic ∧ w.tollDynamic ≤ 8 ∧ 500 ≤ w.tollInterval ∧ w.tollInterval ≤ 10000 ∧
    w.countMode ≤ 2 ∧ (w.countMode = 0 → 1 ≤ w.n ∧ w.n ≤ 24) ∧ w.priority ≤ 7 ∧ w.lateLimit ≤ 600 ∧
    (w.enabled = 1 → w.hours % 16777216 ≠ 0 ∧ (w.datePresent = 1 ∨ w.weekdays ≠ 0))) ∧
  ∀ (tag : Byte) (w : SlotWire) (s : State), s.Takes →
    (∀ n, 64 ≤ n → exec (.programSet tag n w) s = .next (s.answered 0x18 tag .badField .nothing) ∧
      exec (.programClear tag n) s = .next (s.answered 0x1A tag .badField .nothing)) ∧
    (∀ n : Fin 64,
      (slotFieldsOf w = none → exec (.programSet tag n.val w) s = .next (s.answered 0x18 tag .badField .nothing)) ∧
      (∀ f, slotFieldsOf w = some f →
        let marker : Option Nat :=
          if s.clock.valid = false then none
          else match s.slots[n].marker with
            | some d => if s.clock.wall < d then some d else some (s.clock.wall / 1000 * 1000)
            | none => some (s.clock.wall / 1000 * 1000)
        exec (.programSet tag n.val w) s = .next (State.answered
          { s with slots := s.slots.set n { fields := f, marker := marker } } 0x18 tag .ok (.programSet n marker))) ∧
      exec (.programClear tag n.val) s = .next (State.answered
        { s with slots := s.slots.set n { fields := { s.slots[n].fields with enabled := false }, marker := s.slots[n].marker } }
        0x1A tag .ok .nothing))

/-- A second crossing by WALL_CLOCK_ADVANCE: an occurrence within the slot's launch offset after the crossed second, and after its marker, comes due and
sets the marker; outside LOADING no other marker changes (R127 to R129, R132). It is launched in ACTIVE, reported MISSED NO_TUNE there without a
CURRENT version, and reported SUPPRESSED in every other mode (R129, R130, R136). -/
def Obligations.CrossingsMarkTheirOccurrences : Prop :=
  ∀ (s : State) (n : Fin 64) (w : Nat),
    s.clock.valid = true → w = s.clock.wall + 1 → w % 1000 = 0 → w < Config.rangeEnd → s.clock.second + 1000 ≤ w → (s.timer.ms + 1) % 50 ≠ 0 →
    s.ctl.mode ≠ .loading →
    let f := s.slots[n].fields
    let k := (s.anchorOf f + 2999) / 1000
    ∃ t : State, exec .wallClockAdvance s = .next t.transmit ∧ t.clock.wall = w ∧ t.clock.second = w ∧ t.slots[n].fields = f ∧
      (k ≤ 3600 → ∀ d, d % 1000 = 0 → w < d → d ≤ w + k * 1000 → d < Config.rangeEnd → f.matchesAt d = true →
        (∀ m, s.slots[n].marker = some m → m < d) → t.slots[n].marker = some d) ∧
      ((∀ d, d % 1000 = 0 → w < d → d ≤ w + k * 1000 → f.matchesAt d = true → ∃ m, s.slots[n].marker = some m ∧ d ≤ m) →
        t.slots[n].marker = s.slots[n].marker) ∧
      (k ≤ 3600 → ∀ d, d % 1000 = 0 → w < d → d ≤ w + k * 1000 → d < Config.rangeEnd → f.matchesAt d = true →
        (∀ m, s.slots[n].marker = some m → m < d) →
        (∀ m : Fin 64, m ≠ n → ∀ e, w < e → e ≤ w + 3600000 → s.slots[m].fields.matchesAt e = false) →
        let crossed : State := { s with
          timer := { ms := s.timer.ms + 1, tick := 0, quarters := 0, due := dueAt (s.timer.ms + 1) }
          clock := { s.clock with wall := w, second := w } }
        t = crossed.dealtWith n d false)

/-- R131: the stroke count of a toll. -/
def Obligations.StrokeCountsFollowTheHour : Prop :=
  (∀ n h, strokeCount (.fixed n) h = n) ∧
  (∀ h, h < 24 → strokeCount .hour12 h = (if h % 12 = 0 then 12 else h % 12)) ∧
  (∀ h, h < 24 → strokeCount .hour24 h = (if h = 0 then 24 else h)) ∧
  (∀ (f : SlotFields) (d : Nat), f.kind = .toll →
    f.playKind d = .toll f.tollBell f.tollDynamic f.tollInterval (strokeCount f.countMode (d % 86400000 / 3600000)) ∧
    (f.inRange = true → 1 ≤ strokeCount f.countMode (d % 86400000 / 3600000) ∧ strokeCount f.countMode (d % 86400000 / 3600000) ≤ 24))

/-! ### Plays -/

/-- PLAY NOW is judged in its order and launches a play with the next id and launch sequence (R141, R150). With a free player it starts there, takes its
version and plays from its intended start, or 500 ms from now where that is later (R145, R107). A play that finds no player and outranks none waits in its
place, or is MISSED or displaces the weakest of eight (R143), and one that outranks the weakest running play cuts it and is bound to its player, or starts
there at once where the cut play has no drive (R142). -/
def Obligations.PlayNowLaunchesAPlay : Prop :=
  ∀ (tag : Byte) (w : PlayNowWire) (s : State), s.Takes →
    (playOrderOf w = none → exec (.playNow tag w) s = .next (s.answered 0x1C tag .badField .nothing)) ∧
    (∀ o, playOrderOf w = some o →
      let missing := o.kind = .tune ∧ s.tunes.slots[o.tune].current = none
      let due := s.clock.wall + o.delay * 1000
      let anchor : Nat := match o.kind with
        | .tune => ((s.tunes.slots[o.tune].current.map fun v => v.anchorStep * v.stepLength).getD 0)
        | .toll => 0
      let s0 : Int := s.timer.ms + o.delay * 1000 - anchor
      let q : Play := s.newPlay (s.playNowLaunch o)
      let given : State := { s with engine := { s.engine with lastId := q.id, nextLaunch := s.engine.nextLaunch + 1 } }
      (s.ctl.mode ≠ .active → exec (.playNow tag w) s = .next (s.answered 0x1C tag .wrongMode .nothing)) ∧
      (s.ctl.mode = .active → s.clock.valid = false → exec (.playNow tag w) s = .next (s.answered 0x1C tag .clockInvalid .nothing)) ∧
      (s.ctl.mode = .active → s.clock.valid = true → missing → exec (.playNow tag w) s = .next (s.answered 0x1C tag .notFound .nothing)) ∧
      (s.ctl.mode = .active → s.clock.valid = true → ¬ missing →
        q.due = due ∧ q.s0 = s0 ∧ q.anchorOffset = anchor ∧ q.priority = o.priority ∧ q.lateLimit = 60 ∧ q.id = s.nextId ∧
        q.launchSeq = s.engine.nextLaunch ∧
        (∃ (t : State) (place : LaunchPlace), exec (.playNow tag w) s = .next (t.answered 0x1C tag .ok (.playNow s.nextId due s0 place)) ∧
          t.engine.lastId = s.nextId ∧ t.engine.nextLaunch = s.engine.nextLaunch + 1 ∧
          t.timer = s.timer ∧ t.clock = s.clock ∧ t.ctl = s.ctl ∧ t.globals = s.globals ∧ t.drive = s.drive ∧ t.warn = s.warn ∧
          t.supply = s.supply ∧ t.sweep = s.sweep ∧ t.slots = s.slots ∧ t.nv = s.nv ∧ t.pending = s.pending) ∧
        (∀ p, s.freePlayer = some p →
          (∃ t : State, exec (.playNow tag w) s = .next (t.answered 0x1C tag .ok (.playNow s.nextId due s0 .started))) ∧
          (s.Settled →
            let held : TuneStore := match o.kind with
              | .tune => { s.tunes with slots := s.tunes.slots.set o.tune { s.tunes.slots[o.tune] with
                  current := s.tunes.slots[o.tune].current.map fun v => { v with users := v.users + 1 } } }
              | .toll => s.tunes
            let begun : State := { given with
              engine := given.engine.setPlayer p { play := some (s.begun q), incoming := none }, tunes := held }
            (∃ note, begun.nextNote (s.begun q) = some note ∧ 2000 < note.2.1 - s.timer.ms) →
            exec (.playNow tag w) s = .next (begun.answered 0x1C tag .ok (.playNow s.nextId due s0 .started)))) ∧
        (s.freePlayer = none → s.Settled → (∀ p v, (s.player p).candidate = some v → o.priority ≤ v.priority) →
          (s.engine.waiting.length < 8 →
            exec (.playNow tag w) s = .next (State.answered
              { given with engine := { given.engine with waiting := placePlay q s.engine.waiting } }
              0x1C tag .ok (.playNow s.nextId due s0 .pending))) ∧
          (8 ≤ s.engine.waiting.length → ∀ k, weakest s.engine.waiting = some k → k.kind.unstarted = true →
            (k.priority < o.priority → exec (.playNow tag w) s = .next (State.answered
              (State.report { given with engine := { given.engine with
                  waiting := placePlay q (s.engine.waiting.filter fun x => decide (x.id ≠ k.id)) } }
                (k.report (.missed .queueFull) s.timer.ms)) 0x1C tag .ok (.playNow s.nextId due s0 .pending))) ∧
            (o.priority ≤ k.priority → exec (.playNow tag w) s = .next (State.answered
              (given.report (q.report (.missed .queueFull) s.timer.ms)) 0x1C tag .ok (.playNow s.nextId due s0 .missedFull))))) ∧
        (∀ p v, s.freePlayer = none → s.Settled → s.PlaysLaw → s.PlayIdsLaw → s.victim = some (p, v) → v.priority < o.priority →
          v.drives = 0 →
          (∃ note, s.nextNote (s.begun q) = some note ∧ 2000 < note.2.1 - s.timer.ms) →
          ∃ t : State, exec (.playNow tag w) s = .next (t.answered 0x1C tag .ok (.playNow s.nextId due s0 .started)) ∧
            t.player p = { play := some (s.begun q), incoming := none } ∧ (∀ x ∈ t.playRecords, x.id ≠ v.id) ∧
            ∀ e ∈ t.sched.queue, e.playId ≠ v.id) ∧
        (∀ p v, s.freePlayer = none → s.Settled → s.PlayIdsLaw → s.victim = some (p, v) → v.priority < o.priority → 0 < v.drives →
          ∃ t : State, exec (.playNow tag w) s = .next (t.answered 0x1C tag .ok (.playNow s.nextId due s0 .incoming)) ∧
            (t.player p).incoming = some { q with state := .incoming } ∧
            (∃ v', (t.player p).play = some v' ∧ v'.id = v.id ∧ v'.fixed = some (.cut q.id) ∧ v'.state = .draining ∧ v'.drives = v.drives) ∧
            ∀ e ∈ t.sched.queue, e.playId ≠ v.id)))

/-- STOP ends the plays it names and counts them: ALL leaves no waiting and no INCOMING play and every running one with a fixed outcome and no entries; ONE
reaches a running play as R151's table says, one with a fixed outcome not at all, and takes an INCOMING or a waiting one out; an id without a record is
NOT_FOUND (R151). -/
def Obligations.StopEndsThePlaysNamed : Prop :=
  ∀ (tag : Byte) (i : Nat) (s : State), s.Takes →
    exec (.stop tag 0 0) s = .next (s.answered 0x1D tag .badField .nothing) ∧
    (∀ n, 1 < n → exec (.stop tag n i) s = .next (s.answered 0x1D tag .badField .nothing)) ∧
    (i ≠ 0 → (∀ q ∈ s.playRecords, q.id ≠ i) → exec (.stop tag 0 i) s = .next (s.answered 0x1D tag .notFound .nothing)) ∧
    (s.PlayIdsLaw →
      let running := s.engine.player0.play.toList ++ s.engine.player1.play.toList
      let incoming := s.engine.player0.incoming.toList ++ s.engine.player1.incoming.toList
      let stopped := (running.filter fun q => decide (q.fixed = none)).length + incoming.length + s.engine.waiting.length
      ∃ t : State, exec (.stop tag 1 i) s = .next (t.answered 0x1D tag .ok (.stop stopped)) ∧
      t.engine.waiting = [] ∧ (∀ p, (t.player p).incoming = none) ∧
      (∀ p q, (t.player p).play = some q → q.fixed ≠ none ∧ q.drives ≠ 0) ∧
      (∀ p q, (s.player p).play = some q → q.fixed = none → ∀ e ∈ t.sched.queue, e.playId ≠ q.id) ∧
      t.timer = s.timer ∧ t.clock = s.clock ∧ t.ctl = s.ctl ∧ t.globals = s.globals ∧ t.drive = s.drive ∧ t.warn = s.warn ∧
      t.supply = s.supply ∧ t.sweep = s.sweep ∧ t.slots = s.slots ∧ t.nv = s.nv ∧ t.pending = s.pending) ∧
    (i ≠ 0 → s.PlayIdsLaw → s.Settled → ∀ q ∈ s.engine.waiting, q.id = i → q.kind.unstarted = true →
      exec (.stop tag 0 i) s = .next (State.answered
        (State.report { s with engine := { s.engine with waiting := s.engine.waiting.filter fun x => decide (x.id ≠ i) } }
          (q.report (.stopped true) s.timer.ms)) 0x1D tag .ok (.stop 1))) ∧
    (s.PlayIdsLaw → ∀ (p : PlayerNo) (q : Play), (s.player p).play = some q → q.id = i →
      (q.fixed ≠ none → s.Settled → exec (.stop tag 0 i) s = .next (s.answered 0x1D tag .ok (.stop 0))) ∧
      (q.fixed = none → ∃ t : State, exec (.stop tag 0 i) s = .next (t.answered 0x1D tag .ok (.stop 1)) ∧
        (∀ e ∈ t.sched.queue, e.playId ≠ i) ∧ (∀ h ∈ t.sched.held, h.playId ≠ i) ∧ (∀ g ∈ t.sched.granted, g.note.playId ≠ i) ∧
        (q.drives ≠ 0 → ∃ q', (t.player p).play = some q' ∧ q'.id = i ∧ q'.fixed = some .stopped ∧ q'.state = .draining ∧
          q'.drives = q.drives ∧ q'.nextIndex = q.nextIndex) ∧
        (q.drives = 0 → (∀ x ∈ t.playRecords, x.id ≠ i) ∧
          (s.engine.waiting = [] → (s.player p).incoming = none → t.player p = { play := none, incoming := none })) ∧
        t.timer = s.timer ∧ t.clock = s.clock ∧ t.ctl = s.ctl ∧ t.globals = s.globals ∧ t.drive = s.drive ∧ t.warn = s.warn ∧
        t.supply = s.supply ∧ t.sweep = s.sweep ∧ t.slots = s.slots ∧ t.nv = s.nv ∧ t.pending = s.pending) ∧
      (q.fixed = none → q.drives = 0 → s.Settled → s.engine.waiting = [] → (s.player p).incoming = none → s.sched.held = [] →
        s.sched.granted = [] → (∀ e ∈ s.sched.queue, e.playId ≠ i) →
        exec (.stop tag 0 i) s = .next (State.answered
          (State.report { s with engine := s.engine.setPlayer p { play := none, incoming := none }, tunes := (s.releaseVersion q.kind).tunes }
            (q.report (.stopped true) s.timer.ms)) 0x1D tag .ok (.stop 1)))) ∧
    (s.PlayIdsLaw → s.Settled → ∀ (p : PlayerNo) (q : Play), (s.player p).incoming = some q → q.id = i → q.kind.unstarted = true →
      exec (.stop tag 0 i) s = .next (State.answered
        (State.report { s with engine := s.engine.setPlayer p { s.player p with incoming := none } } (q.report (.stopped true) s.timer.ms))
        0x1D tag .ok (.stop 1)))

/-! ### Notes -/

/-- LIVE NOTE: the lead rule of R23 gives the fire time; a note with nothing in its way is queued, taken late within the slack, refused LATE past it,
sent to the substitute of a bell out of service or answered BELL_OUT, and refused outside ACTIVE and COMMISSION (R11, R20 to R24, R153). The fire time LATE
names is the model's reading (notes/assumptions/15.md), as is the entry number that follows the last of 48 bits (notes/assumptions/28.md). -/
def Obligations.LiveNotesAreOffered : Prop :=
  (∀ (x : Settings) (l d : Nat), x.leadMin < x.leadMax →
    leadMs x l d = (max (16 * (x.leadMin : Int)) (min ((l : Int) + x.slope * (5 - (d : Int))) (16 * x.leadMax)) + 8) / 16 ∧
    (x.leadMin : Int) ≤ leadMs x l d ∧ leadMs x l d ≤ x.leadMax) ∧
  ∀ (tag : Byte) (bell : BellNo) (dynamic time : Nat) (s : State), s.Takes →
    (∀ n m, 48 ≤ n → exec (.liveNote tag n dynamic m time) s = .next (s.answered 0x1F tag .badField .nothing)) ∧
    (∀ m, 1 < m → exec (.liveNote tag bell.val dynamic m time) s = .next (s.answered 0x1F tag .badField .nothing)) ∧
    (s.ctl.mode ≠ .active → s.ctl.mode ≠ .commission → ∀ m, m ≤ 1 →
      exec (.liveNote tag bell.val dynamic m time) s = .next (s.answered 0x1F tag .wrongMode (.liveNote .wrongMode))) ∧
    (s.ctl.mode = .active ∨ s.ctl.mode = .commission → ∀ m, m ≤ 1 →
      (s.bell bell).service ≠ .inService → (∀ c, (s.bell bell).settings.substitute = some c → (s.bell c).service ≠ .inService) →
      exec (.liveNote tag bell.val dynamic m time) s = .next (s.answered 0x1F tag .ok (.liveNote .bellOut))) ∧
    (∀ (b : BellNo) (original : Option BellNo),
      (s.bell bell).service = .inService ∧ b = bell ∧ original = none ∨
      (s.bell bell).service ≠ .inService ∧ (s.bell bell).settings.substitute = some b ∧ (s.bell b).service = .inService ∧ original = some bell →
      let d := max 1 (min dynamic 8)
      let e (noteTime : Int) : Entry := s.entryOf b original noteTime d s.globals.livePriority .live 0
      let late : Entry := { e time with fire := s.timer.ms, late := true }
      let queued (e : Entry) (o : OfferOutcome) : Host.Outcome State Fault Refusal :=
        .next (State.answered { s with sched := s.sched.withEntry e } 0x1F tag .ok (.liveNote o))
      (s.ctl.mode = .active ∨ s.ctl.mode = .commission → (time : Int) - s.lead b d + (s.bell b).settings.slack < s.timer.ms →
        exec (.liveNote tag bell.val dynamic 1 time) s = .next (s.answered 0x1F tag .ok (.liveNote (.late (time - s.lead b d))))) ∧
      (s.QueueLaw → s.Settled → s.sched.held = [] →
        ((s.timer.ms : Int) ≤ time - s.lead b d → s.Admits b time (time - s.lead b d) →
          exec (.liveNote tag bell.val dynamic 1 time) s = queued (e time) (.queued (e time))) ∧
        ((time : Int) - s.lead b d < s.timer.ms → (s.timer.ms : Int) ≤ time - s.lead b d + (s.bell b).settings.slack →
          s.Admits b time s.timer.ms → exec (.liveNote tag bell.val dynamic 1 time) s = queued late (.queuedLate late)) ∧
        (s.Admits b (s.timer.ms + s.lead b d) s.timer.ms →
          exec (.liveNote tag bell.val dynamic 0 time) s =
            queued (e (s.timer.ms + s.lead b d)) (.queued (e (s.timer.ms + s.lead b d))))))

/-- A conflict with the one queued entry of the bell, without slack to move either: an outranking entry keeps its place and the note is answered CONFLICT
with nothing changed; an outranked entry is removed and the note takes its place (R25, R27, R28). The fire time CONFLICT names (notes/assumptions/15.md), the
bell's pending settings that stay unapplied (notes/assumptions/16.md) and the entry number that follows the last (notes/assumptions/28.md) are the model's
readings. -/
def Obligations.ConflictsKeepTheOutrankingNote : Prop :=
  ∀ (tag : Byte) (b : BellNo) (d time : Nat) (s : State) (x : Entry),
    s.Takes → s.QueueLaw → s.ctl.mode = .active ∨ s.ctl.mode = .commission → (s.bell b).service = .inService → (s.bell b).settings.slack = 0 →
    (s.bell b).readyTime = none → 1 ≤ d → d ≤ 8 → 0 < (s.bell b).settings.recovery →
    s.sched.queue.filter (·.bell = b) = [x] → (s.timer.ms : Int) ≤ time - s.lead b d →
    |x.fire - ((time : Int) - s.lead b d)| < (s.bell b).settings.recovery →
    let e := s.entryOf b none time d s.globals.livePriority .live 0
    let outranks := e.priority < x.priority ∨ x.priority = e.priority ∧ x.noteTime ≤ time
    (outranks → exec (.liveNote tag b.val d 1 time) s =
      .next (s.answered 0x1F tag .ok (.liveNote (.conflict e.fire (.note x.noteTime x.source x.playId))))) ∧
    (¬ outranks → s.Settled → x.playId = 0 → s.globals.noteReports = false → s.sched.held = [] →
      exec (.liveNote tag b.val d 1 time) s = .next (State.answered
        { s with sched := { s.sched with
            queue := placeEntry e (s.sched.queue.filter fun y => decide (y.bell ≠ b)), nextNumber := (s.sched.nextNumber + 1) % 281474976710656 } }
        0x1F tag .ok (.liveNote (.queued e))))

/-- HORIZON_ARRIVAL and GRANTED_NOTE_OFFER: a player's note with nothing in its way is queued under the play's priority, id and player, and counted to its
play (R31, R32, R146, R147). That the commands pass over without a play, and for a grant of the present ms, is the model's choice
(notes/assumptions/2.md), as are the count of notes offered (notes/assumptions/30.md) and the entry number that follows the last of 48 bits
(notes/assumptions/28.md). Both commands answer a next state in every state. -/
def Obligations.PlayersOfferTheirNotes : Prop :=
  (∀ (p : PlayerNo) (q : Play) (bell b : BellNo) (original : Option BellNo) (noteTime : Int) (d : Nat) (s : State),
    s.QueueLaw → s.PlayIdsLaw → s.Settled → s.sched.held = [] → (s.player p).play = some q → q.state = .feeding → q.fixed = none → 1 ≤ d → d ≤ 8 →
    s.receiver bell = some (b, original) → s.nextNote q = some (bell, noteTime, d) →
    (∃ next, s.nextNote { q with nextIndex := q.nextIndex + 1 } = some next ∧ 2000 < next.2.1 - s.timer.ms) →
    (s.timer.ms : Int) ≤ noteTime - s.lead b d →
    let e := s.entryOf b original noteTime d q.priority (.player p) q.id
    let taken (offered : Nat) : PlayEngine :=
      s.engine.setPlayer p { s.player p with
        play := some { q with offered := offered, queued := q.queued + 1, nextIndex := q.nextIndex + 1 } }
    (noteTime - s.timer.ms ≤ 2000 → (∀ g ∈ s.sched.granted, g.note.player ≠ p) → s.Admits b noteTime (noteTime - s.lead b d) →
      exec (.horizonArrival p) s =
        .next (State.transmit { s with sched := s.sched.withEntry e, engine := taken (q.offered + 1) })) ∧
    (∀ g rest, s.sched.granted = g :: rest → g.grantedAt < s.timer.ms →
      g.note = { bell := bell, noteTime := noteTime, dynamic := d, priority := q.priority, player := p, playId := q.id } →
      State.Admits { s with sched := { s.sched with granted := rest } } b noteTime (noteTime - s.lead b d) →
      exec .grantedNoteOffer s =
        .next (State.transmit { s with sched := { s.sched.withEntry e with granted := rest }, engine := taken q.offered }))) ∧
  (∀ (p : PlayerNo) (s : State), s.Settled → (s.player p).play = none → exec (.horizonArrival p) s = .next s.transmit) ∧
  (∀ s : State, (∀ g ∈ s.sched.granted, s.timer.ms ≤ g.grantedAt) → exec .grantedNoteOffer s = .next s.transmit) ∧
  ∀ s : State, (∃ t, exec .grantedNoteOffer s = .next t) ∧ ∀ p : PlayerNo, ∃ t, exec (.horizonArrival p) s = .next t

/-! ### Drives -/

/-- R47: the base width. -/
def Obligations.BaseWidthInterpolates : Prop :=
  (∀ (x : Settings) (d : Nat), baseWidth x d = x.wMin + (x.wMax - x.wMin) * (d - 1) / 7) ∧
  (∀ x : Settings, x.wMin = 30 → x.wMax = 150 → [1, 2, 3, 4, 5, 6, 7, 8].map (baseWidth x) = [30, 47, 64, 81, 98, 115, 132, 150]) ∧
  (∀ x : Settings, x.wMin ≤ x.wMax → baseWidth x 1 = x.wMin ∧ baseWidth x 8 = x.wMax ∧
    ∀ d e, 1 ≤ d → d ≤ e → e ≤ 8 → baseWidth x d ≤ baseWidth x e) ∧
  (∀ (x : Settings) (d : Nat), x.wMin = x.wMax → baseWidth x d = x.wMin)

/-- VOLLEY: the one entry whose fire time has come starts its drive when the hammer is IDLE and the budget admits its class, with every effect of R46 on the
bell, the budget in use, the play and the heat count (R34, R36, R46 to R49, R61, R71). A window still open whose edges, if any, rose no earlier than the drive's start closes first as
a miss (R46, R62, R63). That VOLLEY passes over with no entry due
(notes/assumptions/2.md), and that a late one starts its drive at the entry's fire time (notes/assumptions/42.md), are the model's choices. -/
def Obligations.VolleyStartsADrive : Prop :=
  (∀ (currents : Vector Nat 48) (s : State), (∀ e ∈ s.sched.queue, (s.timer.ms : Int) < e.fire) → exec (.volley currents) s = .next s.transmit) ∧
  ∀ (currents : Vector Nat 48) (e : Entry) (s : State),
    let r := s.bell e.bell
    let x := r.settings
    let vMeas := s.supply.vMeas.getD s.globals.vNom
    let vEff := max vMeas (2 * s.globals.vNom / 3)
    let scaled := ((x.wMin + (x.wMax - x.wMin) * (e.dynamic - 1) / 7) * s.globals.vNom + vEff / 2) / vEff
    let derated := if x.heatWarn ≤ r.heat ∨ s.warn = true then scaled * 3 / 4 else scaled
    let width := max x.wMin (min derated 600)
    let start := e.fire.toNat
    let heat := min (r.heat + width * x.cls) 65535
    s.sched.queue.filter (fun y => decide (y.fire ≤ (s.timer.ms : Int))) = [e] → s.Settled → s.sched.held = [] →
    r.service = .inService → r.hammer = .idle → r.drive = none → x.wMin ≤ 600 →
    r.window = none ∨ (∃ w, r.window = some w ∧ (∀ c, w.capture = some c → 4 * start ≤ c.rise) ∧ r.missRun + 1 < 3 ∧ s.globals.strikeReports = false) →
    s.drive.inUse + x.cls ≤ s.globals.driveBudget → heat < x.heatRest →
    let counted (q : Play) : Play :=
      if e.playId ≠ 0 ∧ q.id = e.playId then { q with queued := q.queued - 1, drives := q.drives + 1 } else q
    let player (x : Player) : Player := { play := x.play.map counted, incoming := x.incoming.map counted }
    exec (.volley currents) s = .next (State.transmit { s with
        bells := s.bells.set e.bell { r with
          missRun := if r.window = none then r.missRun else r.missRun + 1
          hammer := .drive
          drive := some { kind := .strike e.original e.noteTime e.dynamic e.playId, start := start, width := width, cls := x.cls, sampled := false }
          lastDriveStart := some start
          readyTime := some (start + x.recovery)
          window := some
            { original := e.original, playId := e.playId, noteTime := e.noteTime, dynamic := e.dynamic, start := start, width := width,
              openQ := 4 * (start + x.leadMin), closeQ := 4 * (start + x.leadMax), capture := none, rebound := none }
          heat := heat }
        drive := { s.drive with inUse := s.drive.inUse + x.cls }
        sched := { s.sched with queue := s.sched.queue.filter fun y => decide (¬ (y.bell = e.bell ∧ y.noteTime = e.noteTime)) }
        engine := { s.engine with
          player0 := player s.engine.player0, player1 := player s.engine.player1, waiting := s.engine.waiting.map counted } })

/-- VOLLEY: an entry that the budget does not admit, or whose bell is held by a test pulse, moves later by the stagger within its slack and clear of the
bell's other entries, or leaves the queue LATE: its play counts it as dropped, and a NOTE report says so when note reports are on (R36 to R38, R42). -/
def Obligations.VolleyDefersAnEntry : Prop :=
  ∀ (currents : Vector Nat 48) (e : Entry) (s : State), s.QueueLaw → s.Settled →
    s.sched.queue.filter (fun y => decide (y.fire ≤ (s.timer.ms : Int))) = [e] →
    let r := s.bell e.bell
    r.hammer = .idle ∧ r.drive = none ∧ s.globals.driveBudget < s.drive.inUse + r.settings.cls ∨
      r.hammer = .drive ∧ (∃ d, r.drive = some d ∧ d.kind = .testPulse) →
    let fire := e.fire + s.globals.stagger
    let allowed := fire ≤ e.origFire + r.settings.slack ∧
      ∀ y ∈ s.sched.queue, y.bell = e.bell → y.noteTime ≠ e.noteTime → (r.settings.recovery : Int) ≤ |y.fire - fire|
    let rest := s.sched.queue.filter fun y => decide (¬ (y.bell = e.bell ∧ y.noteTime = e.noteTime))
    let counted (q : Play) : Play :=
      if e.playId ≠ 0 ∧ q.id = e.playId then { q with queued := q.queued - 1, dropped := q.dropped + 1 } else q
    let player (x : Player) : Player := { play := x.play.map counted, incoming := x.incoming.map counted }
    let reported (t : State) : State := if s.globals.noteReports then t.report (.note { reason := .late, atOffer := false, note := e }) else t
    (allowed → exec (.volley currents) s = .next (State.transmit { s with sched := { s.sched with queue := placeEntry { e with fire := fire } rest } })) ∧
    (¬ allowed → s.sched.held = [] → r.pending = none ∨ r.hammer ≠ .idle ∨ (∃ y ∈ rest, y.bell = e.bell) →
      (∀ p q, (s.player p).play = some q → (counted q).endsNow = none) →
      exec (.volley currents) s = .next (State.transmit (reported { s with
        sched := { s.sched with queue := rest }
        engine := { s.engine with
          player0 := player s.engine.player0, player1 := player s.engine.player1, waiting := s.engine.waiting.map counted } }))) ∧
    (¬ allowed → s.VersionsLaw → ∃ t : State, exec (.volley currents) s = .next t.transmit ∧ (∀ y ∈ t.sched.queue, y.bell = e.bell → y.noteTime ≠ e.noteTime) ∧
      (∀ c, c ≠ e.bell → t.bell c = s.bell c) ∧ (t.bell e.bell).hammer = r.hammer ∧ (t.bell e.bell).drive = r.drive ∧ t.drive = s.drive ∧
      t.timer = s.timer ∧ t.clock = s.clock ∧ t.ctl = s.ctl ∧ t.globals = s.globals ∧ t.slots = s.slots ∧ t.nv = s.nv ∧ t.pending = s.pending)

/-- FIRST_CURRENT_SAMPLE, 1 ms after the start of a drive wider than 1 ms: a HIGH reading cuts the drive as a SHORT, any other changes nothing else (R54,
R56, R57). -/
def Obligations.HighFirstSampleCutsTheDrive : Prop :=
  ∀ (b : BellNo) (reading : Nat) (s : State),
    let r := s.bell b
    ((∀ d, r.drive = some d → d.kind = .testPulse ∨ d.sampled = true ∨ d.width ≤ 10 ∨ s.timer.ms < d.start + 1) →
      exec (.firstCurrentSample b reading) s = .next s.transmit) ∧
    (∀ d, r.drive = some d → d.kind ≠ .testPulse → d.sampled = false → 10 < d.width → d.start + 1 ≤ s.timer.ms →
      (reading ≤ 20 * d.cls → exec (.firstCurrentSample b reading) s =
        .next (State.transmit { s with bells := s.bells.set b { r with drive := some { d with sampled := true } } })) ∧
      (20 * d.cls < reading → ∃ t : State, exec (.firstCurrentSample b reading) s = .next t.transmit ∧
        t.bells = s.bells.set b { r with
          hammer := .swing, drive := none, window := none, service := if r.service.code = 3 then r.service else .faulted .short } ∧
        (r.service.code ≠ 3 → ∀ e ∈ t.sched.queue, e.bell ≠ b) ∧ t.drive.inUse = s.drive.inUse - d.cls ∧
        t.timer = s.timer ∧ t.clock = s.clock ∧ t.ctl = s.ctl ∧ t.warn = s.warn ∧ t.supply = s.supply ∧ t.sweep = s.sweep ∧
        t.slots = s.slots ∧ t.nv = s.nv ∧ t.pending = s.pending))

/-- DRIVE_END: the hammer enters RETURN and the class is freed; a NORMAL end sample verifies and freshens the bell, a LOW one faults it OPEN with its window
kept, and a HIGH one faults it SHORT with its window cancelled (R8, R50, R54 to R56, R93). -/
def Obligations.DriveEndClassesItsSample : Prop :=
  ∀ (b : BellNo) (reading : Nat) (s : State),
    let r := s.bell b
    let found (k : FaultKind) : Service := if r.service.code = 3 then r.service else .faulted k
    ((∀ d, r.drive = some d → d.kind = .testPulse ∨ 10 * s.timer.ms + 9 < d.start * 10 + d.width) →
      exec (.driveEnd b reading) s = .next s.transmit) ∧
    (∀ d, r.drive = some d → d.kind ≠ .testPulse → d.start * 10 + d.width ≤ 10 * s.timer.ms + 9 →
      ∃ t : State, exec (.driveEnd b reading) s = .next t.transmit ∧
        (4 * d.cls ≤ reading → reading ≤ 20 * d.cls → t.bells = s.bells.set b { r with
          hammer := .swing, drive := none, verified := true, lastVerified := d.start + d.width / 10, stale := false }) ∧
        (reading < 4 * d.cls → t.bells = s.bells.set b { r with hammer := .swing, drive := none, service := found .openCoil }) ∧
        (20 * d.cls < reading → t.bells = s.bells.set b { r with
          hammer := .swing, drive := none, window := none, service := found .short }) ∧
        (reading < 4 * d.cls ∨ 20 * d.cls < reading → r.service.code ≠ 3 → ∀ e ∈ t.sched.queue, e.bell ≠ b) ∧
        t.drive.inUse = s.drive.inUse - d.cls ∧
        (s.drive.pendingBudget = none → t.globals = s.globals) ∧
        t.timer.ms = s.timer.ms ∧ t.timer.due = s.timer.due ∧ t.clock = s.clock ∧ t.ctl = s.ctl ∧ t.warn = s.warn ∧ t.supply = s.supply ∧
        t.sweep = s.sweep ∧ t.slots = s.slots ∧ t.nv = s.nv ∧ t.pending = s.pending)

/-- READY_TIME_RETURN brings a hammer in RETURN to IDLE and applies pending settings at the quiet point (R12, R15, R51); TEST_PULSE_END classes the pulse's
sample, and a NORMAL one writes last verified and leaves the verified mark clear (R58, R90). -/
def Obligations.HammersComeToRest : Prop :=
  (∀ (b : BellNo) (s : State),
    let r := s.bell b
    (r.hammer ≠ .swing ∨ (∀ t, r.readyTime = some t → s.timer.ms < t) → exec (.readyTimeReturn b) s = .next s.transmit) ∧
    (∀ t, r.hammer = .swing → r.readyTime = some t → t ≤ s.timer.ms →
      (r.pending = none ∨ (∃ e ∈ s.sched.queue, e.bell = b) →
        exec (.readyTimeReturn b) s = .next (State.transmit { s with bells := s.bells.set b { r with hammer := .idle } })) ∧
      (∀ p, r.pending = some p → (∀ e ∈ s.sched.queue, e.bell ≠ b) → p.heatWarn = none → p.heatRest = none → p.heatRelease = none →
        exec (.readyTimeReturn b) s = .next (State.transmit { s with bells := s.bells.set b { r with
          hammer := .idle, pending := none, settings := r.settings.over p
          lead16 := (r.settings.over p).clampLead (p.lead16.getD r.lead16) } })))) ∧
  ∀ (b : BellNo) (reading : Nat) (s : State),
    let r := s.bell b
    ((∀ d, r.drive = some d → d.kind ≠ .testPulse ∨ s.timer.ms < d.start) → exec (.testPulseEnd b reading) s = .next s.transmit) ∧
    (∀ d, r.drive = some d → d.kind = .testPulse → d.start ≤ s.timer.ms →
      ∃ t : State, exec (.testPulseEnd b reading) s = .next t.transmit ∧
        (t.bell b).hammer = .idle ∧ (t.bell b).drive = none ∧ t.drive.inUse = s.drive.inUse - d.cls ∧
        (4 * d.cls ≤ reading → reading ≤ 20 * d.cls → (t.bell b).verified = false ∧ (t.bell b).lastVerified = d.start ∧ (t.bell b).stale = false) ∧
        (reading < 4 * d.cls → r.service.code ≠ 3 → (t.bell b).service = .faulted .openCoil ∧ ∀ e ∈ t.sched.queue, e.bell ≠ b) ∧
        (20 * d.cls < reading → r.service.code ≠ 3 → (t.bell b).service = .faulted .short ∧ ∀ e ∈ t.sched.queue, e.bell ≠ b) ∧
        (∀ k, r.service = .faulted k → (t.bell b).service = .faulted k) ∧
        (∀ c, c ≠ b → t.bell c = s.bell c) ∧ t.timer.ms = s.timer.ms ∧ t.clock = s.clock ∧ t.ctl = s.ctl ∧ t.warn = s.warn ∧
        t.supply = s.supply ∧ t.sweep = s.sweep ∧ t.slots = s.slots ∧ t.nv = s.nv ∧ t.pending = s.pending)

/-! ### Strikes -/

/-- SENSOR_SAMPLE: one sample of every bell at the next quarter of the ms; the filter output rises when m of the latest n samples are high and falls when
fewer are, and an edge in the bell's window is its capture, m - 1 quarters back, or marks a rebound (R59, R60, R62). -/
def Obligations.SensorSamplesCaptureStrikes : Prop :=
  ∀ (levels : BitVec 48) (s : State),
    (4 ≤ s.timer.quarters → exec (.sensorSample levels) s = .next s.transmit) ∧
    (s.timer.quarters < 4 → ∃ bells : Vector Bell 48,
      exec (.sensorSample levels) s = .next (State.transmit { s with
        timer := { s.timer with tick := max s.timer.tick (5 * s.timer.quarters), quarters := s.timer.quarters + 1 }, bells := bells }) ∧
      ∀ b : BellNo,
        let r := s.bell b
        let q := 4 * s.timer.ms + s.timer.quarters
        let m := match s.globals.filter with | .none => 1 | .twoOf2 => 2 | .twoOf3 => 2 | .threeOf5 => 3
        let n := match s.globals.filter with | .none => 1 | .twoOf2 => 2 | .twoOf3 => 3 | .threeOf5 => 5
        let hist := (levels.getLsbD b.val :: r.sensorHist).take 5
        let count := (hist.take n).countP id
        let rises := r.sensorOut = false ∧ m ≤ count
        let out : Bool := if rises then true else if r.sensorOut = true ∧ count < m then false else r.sensorOut
        bells[b] = { r with
          sensorHist := hist
          sensorOut := out
          window := match r.window with
            | none => none
            | some w =>
              if rises ∧ w.openQ ≤ q ∧ q < w.closeQ then
                (if w.capture = none then some { w with capture := some { edge := (q : Int) - (m - 1 : Nat), rise := q } }
                 else some { w with rebound := some (w.rebound.getD q) })
              else some w })

/-- WINDOW_CLOSE: a window without a capture is a miss and the third faults the bell NO_STRIKE; one with a capture ends the miss run and, without a
rebound and with learning enabled, teaches the lead by R65 (R63 to R65, R67). -/
def Obligations.WindowsCloseInAMissOrALesson : Prop :=
  ∀ (b : BellNo) (s : State),
    let r := s.bell b
    ((∀ w, r.window = some w → 4 * s.timer.ms < w.closeQ) → exec (.windowClose b) s = .next s.transmit) ∧
    (∀ w, r.window = some w → w.closeQ ≤ 4 * s.timer.ms →
      (w.capture = none → ∃ t : State, exec (.windowClose b) s = .next t.transmit ∧
        (t.bell b).window = none ∧ (t.bell b).missRun = min (r.missRun + 1) 3 ∧ (∀ c, c ≠ b → t.bell c = s.bell c) ∧
        (r.missRun ≠ 2 ∨ r.service.code = 3 → (t.bell b).service = r.service ∧ (t.bell b).lead16 = r.lead16) ∧
        (r.missRun = 2 → r.service.code ≠ 3 → (t.bell b).service = .faulted .noStrike ∧ ∀ e ∈ t.sched.queue, e.bell ≠ b) ∧
        t.timer = s.timer ∧ t.clock = s.clock ∧ t.ctl = s.ctl ∧ t.globals = s.globals ∧ t.drive = s.drive ∧ t.slots = s.slots ∧ t.nv = s.nv ∧
        t.pending = s.pending) ∧
      (∀ c, w.capture = some c → s.Settled →
        let x := r.settings
        let m16 : Int := 4 * (c.edge - 4 * w.start) - x.slope * (5 - (w.dynamic : Int))
        let diff : Int := m16 - r.lead16
        let divisor : Int := if s.ctl.mode = .commission then 2 else 8
        let step : Int := if diff.tdiv divisor = 0 ∧ diff ≠ 0 then diff.sign else diff.tdiv divisor
        let learned : Int := max (16 * (x.leadMin : Int)) (min (r.lead16 + step) (16 * x.leadMax))
        let after : State := { s with bells := s.bells.set b { r with
          window := none, missRun := 0
          lead16 := if w.rebound = none ∧ x.learning = true then learned.toNat else r.lead16 } }
        let strike : StrikeReport :=
          { bell := b, original := w.original, playId := w.playId, noteTime := w.noteTime, start := w.start, width := w.width,
            m4 := some (c.edge - 4 * w.start), error := some (c.edge - 4 * w.noteTime), rebound := w.rebound.isSome }
        x.leadMin < x.leadMax →
        exec (.windowClose b) s = .next (State.transmit (if s.globals.strikeReports then after.report (.strike strike) else after))))

/-! ### Guards -/

/-- R72 and the release of R75: at a cooling step every heat count above 0 falls by a 2^k-th of itself and one, and a RESTING bell below heat_release
returns to service. -/
def Obligations.CoolingStepsReleaseBells : Prop :=
  ∀ s : State,
    (s.timer.due.cooling = false → exec .coolingStep s = .next s.transmit) ∧
    (s.timer.due.cooling = true → ∃ t : State, exec .coolingStep s = .next t.transmit ∧
      t.timer = { s.timer with due := { s.timer.due with cooling := false } } ∧
      (∀ b : BellNo,
        let r := s.bell b
        let h := r.heat - (r.heat / 2 ^ r.settings.cooling + 1)
        (t.bell b).heat = (if r.heat = 0 then 0 else h) ∧
        (r.heat = 0 ∨ r.service = .withdrawn ∨ r.service.code = 3 ∨ r.service = .resting ∧ r.settings.heatRelease ≤ h ∨
            r.service = .inService ∧ h < r.settings.heatRest →
          t.bell b = { r with heat := if r.heat = 0 then 0 else h }) ∧
        (r.heat ≠ 0 → r.service = .resting → h < r.settings.heatRelease → t.bell b = { r with heat := h, service := .inService })) ∧
      t.clock = s.clock ∧ t.ctl = s.ctl ∧ t.globals = s.globals ∧ t.drive = s.drive ∧ t.warn = s.warn ∧ t.supply = s.supply ∧ t.sweep = s.sweep ∧
      t.slots = s.slots ∧ t.tunes = s.tunes ∧ t.nv = s.nv ∧ t.pending = s.pending)

/-- DRIVER_TEMPERATURE_READING: the warn state turns at 70 and 65 degrees and DRIVER_HOT at 85 and 75; a raised cause stops the part in HALT, and the last
cause cleared returns it (R78 to R80, R158). -/
def Obligations.DriverTemperatureWarnsAndHalts : Prop :=
  ∀ (celsius : Int) (s : State),
    let c := max (-40) (min celsius 150)
    let warn : Bool := if s.warn = false ∧ 70 ≤ c then true else if s.warn = true ∧ c < 65 then false else s.warn
    let hot : Bool := if s.ctl.causes.driverHot = false ∧ 85 ≤ c then true
      else if s.ctl.causes.driverHot = true ∧ c < 75 then false else s.ctl.causes.driverHot
    let timer := { s.timer with due := { s.timer.due with temperature := false } }
    (s.timer.due.temperature = false → exec (.driverTemperatureReading celsius) s = .next s.transmit) ∧
    (s.timer.due.temperature = true →
      (hot = s.ctl.causes.driverHot →
        exec (.driverTemperatureReading celsius) s = .next (State.transmit { s with timer := timer, warn := warn })) ∧
      (∃ t : State, exec (.driverTemperatureReading celsius) s = .next t.transmit ∧ t.timer = timer ∧ t.warn = warn ∧
        t.supply = s.supply ∧ t.ctl.causes = { s.ctl.causes with driverHot := hot } ∧
        (s.ctl.causes.driverHot = false → hot = true → s.ctl.mode ≠ .halt → s.ctl.mode ≠ .loading →
          HaltedFrom s t { s.ctl.causes with driverHot := true }) ∧
        (s.ctl.mode = .halt → s.ctl.causes.driverHot = true → hot = false → s.ctl.causes.supplyLow = false →
          ∀ m, s.ctl.remembered = some m → m.returnable = true →
            t.ctl.mode = (if s.ctl.keyOut then .console else m) ∧ t.ctl.remembered = (if s.ctl.keyOut then some m else none))))

/-- SUPPLY_SAMPLE: V_meas is the sample, the third low one in a row raises SUPPLY_LOW and stops the part in HALT, and the 200th good one in a row clears it
(R81 to R83, R158). -/
def Obligations.SupplySagsHaltThePart : Prop :=
  ∀ (volts : Nat) (s : State),
    let v := min volts 1000
    let timer := { s.timer with due := { s.timer.due with supply := false } }
    let low := if 4 * v < 3 * s.globals.vNom then s.supply.lowRun + 1 else 0
    let good := if 9 * s.globals.vNom ≤ 10 * v then s.supply.recoveryRun + 1 else 0
    (s.timer.due.supply = false → exec (.supplySample volts) s = .next s.transmit) ∧
    (s.timer.due.supply = true → s.ctl.causes.supplyLow = false →
      (low < 3 → exec (.supplySample volts) s =
        .next (State.transmit { s with timer := timer, supply := { s.supply with vMeas := some v, lowRun := low } })) ∧
      (3 ≤ low → ∃ t : State, exec (.supplySample volts) s = .next t.transmit ∧ t.timer = timer ∧ t.warn = s.warn ∧
        t.supply = { vMeas := some v, lowRun := 0, recoveryRun := 0 } ∧ t.ctl.causes = { s.ctl.causes with supplyLow := true } ∧
        (s.ctl.mode ≠ .halt → s.ctl.mode ≠ .loading → HaltedFrom s t { s.ctl.causes with supplyLow := true }))) ∧
    (s.timer.due.supply = true → s.ctl.causes.supplyLow = true →
      (good < 200 → exec (.supplySample volts) s =
        .next (State.transmit { s with timer := timer, supply := { s.supply with vMeas := some v, recoveryRun := good } })) ∧
      (200 ≤ good → ∃ t : State, exec (.supplySample volts) s = .next t.transmit ∧ t.timer = timer ∧
        t.supply = { s.supply with vMeas := some v, recoveryRun := 0 } ∧ t.ctl.causes = { s.ctl.causes with supplyLow := false } ∧
        (s.ctl.mode = .halt → s.ctl.causes.driverHot = false → ∀ m, s.ctl.remembered = some m → m.returnable = true →
          t.ctl.mode = (if s.ctl.keyOut then .console else m) ∧ t.ctl.remembered = (if s.ctl.keyOut then some m else none))))

/-- INTERVAL_TIMER_EXPIRY: in a sweeping mode every bell is judged stale or cleared, the visited bell's verified mark is cleared or a test pulse is started on
it, and the pointer goes on; in every mode the timer runs on (R86 to R89, R92, R95). -/
def Obligations.SweepVisitsTheBells : Prop :=
  ∀ s : State,
    ((∀ t, s.sweep.next = some t → s.timer.ms < t) → exec .intervalTimerExpiry s = .next s.transmit) ∧
    (∀ due, s.sweep.next = some due → due ≤ s.timer.ms → ∃ t : State, exec .intervalTimerExpiry s = .next t.transmit ∧
      t.sweep.next = some (due + s.globals.sweepPeriod * 1250) ∧
      t.timer = s.timer ∧ t.clock = s.clock ∧ t.ctl = s.ctl ∧ t.globals = s.globals ∧ t.warn = s.warn ∧ t.supply = s.supply ∧ t.slots = s.slots ∧
      t.nv = s.nv ∧ t.pending = s.pending ∧
      (s.ctl.mode = .console ∨ s.ctl.mode = .halt ∨ s.ctl.mode = .loading →
        t.sweep.pointer = s.sweep.pointer ∧ t.bells = s.bells ∧ t.drive = s.drive) ∧
      (s.ctl.mode = .silent ∨ s.ctl.mode = .active ∨ s.ctl.mode = .commission →
        let b := s.sweep.pointer
        let reach (r : Bell) : Prop := r.service = .inService ∨ r.service = .resting
        let judged (r : Bell) : Bell :=
          { r with stale :=
              if r.service = .inService ∨ r.service = .resting then
                r.stale || decide (2 * s.globals.sweepPeriod * 60000 + r.lastVerified < s.timer.ms)
              else false }
        let r := s.bell b
        let pulses := reach r ∧ r.verified = false ∧ r.hammer = .idle ∧ s.drive.inUse + r.settings.cls ≤ s.globals.driveBudget ∧
          ∀ e ∈ s.sched.queue, e.bell = b → (s.timer.ms : Int) + 100 < e.fire
        (t.sweep.pointer.val = if b.val = 47 then 0 else b.val + 1) ∧
        (∀ c, c ≠ b → t.bell c = judged (s.bell c)) ∧
        (¬ pulses → t.bell b = { judged r with verified := false } ∧ t.drive = s.drive) ∧
        (pulses → (t.bell b).hammer = .drive ∧
          (t.bell b).drive = some { kind := .testPulse, start := s.timer.ms, width := 4, cls := r.settings.cls, sampled := false } ∧
          (t.bell b).heat = min (r.heat + 4 * r.settings.cls) 65535 ∧ (t.bell b).stale = (judged r).stale ∧
          (t.bell b).readyTime = r.readyTime ∧ (t.bell b).window = r.window ∧ t.drive.inUse = s.drive.inUse + r.settings.cls)))
end

