-- ==== Sys2Proof/Laws/State.lean ====
section
/-! SUPPORT. The plain updates of the state: one lemma per field per update, true by rfl, and reading one bell or player back after it. -/

namespace Sys2Proof.Machine

open Sys2Proof

variable (s : State)

@[simp] theorem State.atTick_timer (t : Nat) : (s.atTick t).timer = { s.timer with tick := max s.timer.tick t } := rfl
@[simp] theorem State.atTick_clock (t : Nat) : (s.atTick t).clock = s.clock := rfl
@[simp] theorem State.atTick_ctl (t : Nat) : (s.atTick t).ctl = s.ctl := rfl
@[simp] theorem State.atTick_globals (t : Nat) : (s.atTick t).globals = s.globals := rfl
@[simp] theorem State.atTick_bells (t : Nat) : (s.atTick t).bells = s.bells := rfl
@[simp] theorem State.atTick_drive (t : Nat) : (s.atTick t).drive = s.drive := rfl
@[simp] theorem State.atTick_warn (t : Nat) : (s.atTick t).warn = s.warn := rfl
@[simp] theorem State.atTick_supply (t : Nat) : (s.atTick t).supply = s.supply := rfl
@[simp] theorem State.atTick_sweep (t : Nat) : (s.atTick t).sweep = s.sweep := rfl
@[simp] theorem State.atTick_sched (t : Nat) : (s.atTick t).sched = s.sched := rfl
@[simp] theorem State.atTick_engine (t : Nat) : (s.atTick t).engine = s.engine := rfl
@[simp] theorem State.atTick_slots (t : Nat) : (s.atTick t).slots = s.slots := rfl
@[simp] theorem State.atTick_tunes (t : Nat) : (s.atTick t).tunes = s.tunes := rfl
@[simp] theorem State.atTick_nv (t : Nat) : (s.atTick t).nv = s.nv := rfl
@[simp] theorem State.atTick_link (t : Nat) : (s.atTick t).link = s.link := rfl
@[simp] theorem State.atTick_pending (t : Nat) : (s.atTick t).pending = s.pending := rfl

@[simp] theorem State.modBell_timer (b : BellNo) (f : Bell → Bell) : (s.modBell b f).timer = s.timer := rfl
@[simp] theorem State.modBell_clock (b : BellNo) (f : Bell → Bell) : (s.modBell b f).clock = s.clock := rfl
@[simp] theorem State.modBell_ctl (b : BellNo) (f : Bell → Bell) : (s.modBell b f).ctl = s.ctl := rfl
@[simp] theorem State.modBell_globals (b : BellNo) (f : Bell → Bell) : (s.modBell b f).globals = s.globals := rfl
@[simp] theorem State.modBell_bells (b : BellNo) (f : Bell → Bell) : (s.modBell b f).bells = s.bells.set b (f (s.bell b)) := rfl
@[simp] theorem State.modBell_drive (b : BellNo) (f : Bell → Bell) : (s.modBell b f).drive = s.drive := rfl
@[simp] theorem State.modBell_warn (b : BellNo) (f : Bell → Bell) : (s.modBell b f).warn = s.warn := rfl
@[simp] theorem State.modBell_supply (b : BellNo) (f : Bell → Bell) : (s.modBell b f).supply = s.supply := rfl
@[simp] theorem State.modBell_sweep (b : BellNo) (f : Bell → Bell) : (s.modBell b f).sweep = s.sweep := rfl
@[simp] theorem State.modBell_sched (b : BellNo) (f : Bell → Bell) : (s.modBell b f).sched = s.sched := rfl
@[simp] theorem State.modBell_engine (b : BellNo) (f : Bell → Bell) : (s.modBell b f).engine = s.engine := rfl
@[simp] theorem State.modBell_slots (b : BellNo) (f : Bell → Bell) : (s.modBell b f).slots = s.slots := rfl
@[simp] theorem State.modBell_tunes (b : BellNo) (f : Bell → Bell) : (s.modBell b f).tunes = s.tunes := rfl
@[simp] theorem State.modBell_nv (b : BellNo) (f : Bell → Bell) : (s.modBell b f).nv = s.nv := rfl
@[simp] theorem State.modBell_link (b : BellNo) (f : Bell → Bell) : (s.modBell b f).link = s.link := rfl
@[simp] theorem State.modBell_pending (b : BellNo) (f : Bell → Bell) : (s.modBell b f).pending = s.pending := rfl

@[simp] theorem State.setQueue_timer (q : List Entry) : (s.setQueue q).timer = s.timer := rfl
@[simp] theorem State.setQueue_clock (q : List Entry) : (s.setQueue q).clock = s.clock := rfl
@[simp] theorem State.setQueue_ctl (q : List Entry) : (s.setQueue q).ctl = s.ctl := rfl
@[simp] theorem State.setQueue_globals (q : List Entry) : (s.setQueue q).globals = s.globals := rfl
@[simp] theorem State.setQueue_bells (q : List Entry) : (s.setQueue q).bells = s.bells := rfl
@[simp] theorem State.setQueue_drive (q : List Entry) : (s.setQueue q).drive = s.drive := rfl
@[simp] theorem State.setQueue_warn (q : List Entry) : (s.setQueue q).warn = s.warn := rfl
@[simp] theorem State.setQueue_supply (q : List Entry) : (s.setQueue q).supply = s.supply := rfl
@[simp] theorem State.setQueue_sweep (q : List Entry) : (s.setQueue q).sweep = s.sweep := rfl
@[simp] theorem State.setQueue_sched (q : List Entry) : (s.setQueue q).sched = { s.sched with queue := q } := rfl
@[simp] theorem State.setQueue_engine (q : List Entry) : (s.setQueue q).engine = s.engine := rfl
@[simp] theorem State.setQueue_slots (q : List Entry) : (s.setQueue q).slots = s.slots := rfl
@[simp] theorem State.setQueue_tunes (q : List Entry) : (s.setQueue q).tunes = s.tunes := rfl
@[simp] theorem State.setQueue_nv (q : List Entry) : (s.setQueue q).nv = s.nv := rfl
@[simp] theorem State.setQueue_link (q : List Entry) : (s.setQueue q).link = s.link := rfl
@[simp] theorem State.setQueue_pending (q : List Entry) : (s.setQueue q).pending = s.pending := rfl

@[simp] theorem State.reply_timer (r : Reply) : (s.reply r).timer = s.timer := rfl
@[simp] theorem State.reply_clock (r : Reply) : (s.reply r).clock = s.clock := rfl
@[simp] theorem State.reply_ctl (r : Reply) : (s.reply r).ctl = s.ctl := rfl
@[simp] theorem State.reply_globals (r : Reply) : (s.reply r).globals = s.globals := rfl
@[simp] theorem State.reply_bells (r : Reply) : (s.reply r).bells = s.bells := rfl
@[simp] theorem State.reply_drive (r : Reply) : (s.reply r).drive = s.drive := rfl
@[simp] theorem State.reply_warn (r : Reply) : (s.reply r).warn = s.warn := rfl
@[simp] theorem State.reply_supply (r : Reply) : (s.reply r).supply = s.supply := rfl
@[simp] theorem State.reply_sweep (r : Reply) : (s.reply r).sweep = s.sweep := rfl
@[simp] theorem State.reply_sched (r : Reply) : (s.reply r).sched = s.sched := rfl
@[simp] theorem State.reply_engine (r : Reply) : (s.reply r).engine = s.engine := rfl
@[simp] theorem State.reply_slots (r : Reply) : (s.reply r).slots = s.slots := rfl
@[simp] theorem State.reply_tunes (r : Reply) : (s.reply r).tunes = s.tunes := rfl
@[simp] theorem State.reply_nv (r : Reply) : (s.reply r).nv = s.nv := rfl
@[simp] theorem State.reply_link (r : Reply) : (s.reply r).link = { s.link with replies := s.link.replies ++ [r] } := rfl
@[simp] theorem State.reply_pending (r : Reply) : (s.reply r).pending = s.pending := rfl

@[simp] theorem State.setPlayer_timer (p : PlayerNo) (x : Player) : (s.setPlayer p x).timer = s.timer := rfl
@[simp] theorem State.setPlayer_clock (p : PlayerNo) (x : Player) : (s.setPlayer p x).clock = s.clock := rfl
@[simp] theorem State.setPlayer_ctl (p : PlayerNo) (x : Player) : (s.setPlayer p x).ctl = s.ctl := rfl
@[simp] theorem State.setPlayer_globals (p : PlayerNo) (x : Player) : (s.setPlayer p x).globals = s.globals := rfl
@[simp] theorem State.setPlayer_bells (p : PlayerNo) (x : Player) : (s.setPlayer p x).bells = s.bells := rfl
@[simp] theorem State.setPlayer_drive (p : PlayerNo) (x : Player) : (s.setPlayer p x).drive = s.drive := rfl
@[simp] theorem State.setPlayer_warn (p : PlayerNo) (x : Player) : (s.setPlayer p x).warn = s.warn := rfl
@[simp] theorem State.setPlayer_supply (p : PlayerNo) (x : Player) : (s.setPlayer p x).supply = s.supply := rfl
@[simp] theorem State.setPlayer_sweep (p : PlayerNo) (x : Player) : (s.setPlayer p x).sweep = s.sweep := rfl
@[simp] theorem State.setPlayer_sched (p : PlayerNo) (x : Player) : (s.setPlayer p x).sched = s.sched := rfl
@[simp] theorem State.setPlayer_engine (p : PlayerNo) (x : Player) : (s.setPlayer p x).engine = s.engine.setPlayer p x := rfl
@[simp] theorem State.setPlayer_slots (p : PlayerNo) (x : Player) : (s.setPlayer p x).slots = s.slots := rfl
@[simp] theorem State.setPlayer_tunes (p : PlayerNo) (x : Player) : (s.setPlayer p x).tunes = s.tunes := rfl
@[simp] theorem State.setPlayer_nv (p : PlayerNo) (x : Player) : (s.setPlayer p x).nv = s.nv := rfl
@[simp] theorem State.setPlayer_link (p : PlayerNo) (x : Player) : (s.setPlayer p x).link = s.link := rfl
@[simp] theorem State.setPlayer_pending (p : PlayerNo) (x : Player) : (s.setPlayer p x).pending = s.pending := rfl

@[simp] theorem State.setCtl_timer (c : ModeController) : (s.setCtl c).timer = s.timer := rfl
@[simp] theorem State.setCtl_clock (c : ModeController) : (s.setCtl c).clock = s.clock := rfl
@[simp] theorem State.setCtl_ctl (c : ModeController) : (s.setCtl c).ctl = c := rfl
@[simp] theorem State.setCtl_globals (c : ModeController) : (s.setCtl c).globals = s.globals := rfl
@[simp] theorem State.setCtl_bells (c : ModeController) : (s.setCtl c).bells = s.bells := rfl
@[simp] theorem State.setCtl_drive (c : ModeController) : (s.setCtl c).drive = s.drive := rfl
@[simp] theorem State.setCtl_warn (c : ModeController) : (s.setCtl c).warn = s.warn := rfl
@[simp] theorem State.setCtl_supply (c : ModeController) : (s.setCtl c).supply = s.supply := rfl
@[simp] theorem State.setCtl_sweep (c : ModeController) : (s.setCtl c).sweep = s.sweep := rfl
@[simp] theorem State.setCtl_sched (c : ModeController) : (s.setCtl c).sched = s.sched := rfl
@[simp] theorem State.setCtl_engine (c : ModeController) : (s.setCtl c).engine = s.engine := rfl
@[simp] theorem State.setCtl_slots (c : ModeController) : (s.setCtl c).slots = s.slots := rfl
@[simp] theorem State.setCtl_tunes (c : ModeController) : (s.setCtl c).tunes = s.tunes := rfl
@[simp] theorem State.setCtl_nv (c : ModeController) : (s.setCtl c).nv = s.nv := rfl
@[simp] theorem State.setCtl_link (c : ModeController) : (s.setCtl c).link = s.link := rfl
@[simp] theorem State.setCtl_pending (c : ModeController) : (s.setCtl c).pending = s.pending := rfl

@[simp] theorem State.setWaiting_timer (w : List Play) : (s.setWaiting w).timer = s.timer := rfl
@[simp] theorem State.setWaiting_clock (w : List Play) : (s.setWaiting w).clock = s.clock := rfl
@[simp] theorem State.setWaiting_ctl (w : List Play) : (s.setWaiting w).ctl = s.ctl := rfl
@[simp] theorem State.setWaiting_globals (w : List Play) : (s.setWaiting w).globals = s.globals := rfl
@[simp] theorem State.setWaiting_bells (w : List Play) : (s.setWaiting w).bells = s.bells := rfl
@[simp] theorem State.setWaiting_drive (w : List Play) : (s.setWaiting w).drive = s.drive := rfl
@[simp] theorem State.setWaiting_warn (w : List Play) : (s.setWaiting w).warn = s.warn := rfl
@[simp] theorem State.setWaiting_supply (w : List Play) : (s.setWaiting w).supply = s.supply := rfl
@[simp] theorem State.setWaiting_sweep (w : List Play) : (s.setWaiting w).sweep = s.sweep := rfl
@[simp] theorem State.setWaiting_sched (w : List Play) : (s.setWaiting w).sched = s.sched := rfl
@[simp] theorem State.setWaiting_engine (w : List Play) : (s.setWaiting w).engine = { s.engine with waiting := w } := rfl
@[simp] theorem State.setWaiting_slots (w : List Play) : (s.setWaiting w).slots = s.slots := rfl
@[simp] theorem State.setWaiting_tunes (w : List Play) : (s.setWaiting w).tunes = s.tunes := rfl
@[simp] theorem State.setWaiting_nv (w : List Play) : (s.setWaiting w).nv = s.nv := rfl
@[simp] theorem State.setWaiting_link (w : List Play) : (s.setWaiting w).link = s.link := rfl
@[simp] theorem State.setWaiting_pending (w : List Play) : (s.setWaiting w).pending = s.pending := rfl

@[simp] theorem State.setRuns_timer (a b : Nat) : (s.setRuns a b).timer = s.timer := rfl
@[simp] theorem State.setRuns_clock (a b : Nat) : (s.setRuns a b).clock = s.clock := rfl
@[simp] theorem State.setRuns_ctl (a b : Nat) : (s.setRuns a b).ctl = s.ctl := rfl
@[simp] theorem State.setRuns_globals (a b : Nat) : (s.setRuns a b).globals = s.globals := rfl
@[simp] theorem State.setRuns_bells (a b : Nat) : (s.setRuns a b).bells = s.bells := rfl
@[simp] theorem State.setRuns_drive (a b : Nat) : (s.setRuns a b).drive = s.drive := rfl
@[simp] theorem State.setRuns_warn (a b : Nat) : (s.setRuns a b).warn = s.warn := rfl
@[simp] theorem State.setRuns_supply (a b : Nat) : (s.setRuns a b).supply = { s.supply with lowRun := a, recoveryRun := b } := rfl
@[simp] theorem State.setRuns_sweep (a b : Nat) : (s.setRuns a b).sweep = s.sweep := rfl
@[simp] theorem State.setRuns_sched (a b : Nat) : (s.setRuns a b).sched = s.sched := rfl
@[simp] theorem State.setRuns_engine (a b : Nat) : (s.setRuns a b).engine = s.engine := rfl
@[simp] theorem State.setRuns_slots (a b : Nat) : (s.setRuns a b).slots = s.slots := rfl
@[simp] theorem State.setRuns_tunes (a b : Nat) : (s.setRuns a b).tunes = s.tunes := rfl
@[simp] theorem State.setRuns_nv (a b : Nat) : (s.setRuns a b).nv = s.nv := rfl
@[simp] theorem State.setRuns_link (a b : Nat) : (s.setRuns a b).link = s.link := rfl
@[simp] theorem State.setRuns_pending (a b : Nat) : (s.setRuns a b).pending = s.pending := rfl

@[simp] theorem State.resetRuns_timer : (s.resetRuns).timer = s.timer := rfl
@[simp] theorem State.resetRuns_clock : (s.resetRuns).clock = s.clock := rfl
@[simp] theorem State.resetRuns_ctl : (s.resetRuns).ctl = s.ctl := rfl
@[simp] theorem State.resetRuns_globals : (s.resetRuns).globals = s.globals := rfl
@[simp] theorem State.resetRuns_bells : (s.resetRuns).bells = s.bells := rfl
@[simp] theorem State.resetRuns_drive : (s.resetRuns).drive = s.drive := rfl
@[simp] theorem State.resetRuns_warn : (s.resetRuns).warn = s.warn := rfl
@[simp] theorem State.resetRuns_supply : (s.resetRuns).supply = { s.supply with lowRun := 0, recoveryRun := 0 } := rfl
@[simp] theorem State.resetRuns_sweep : (s.resetRuns).sweep = s.sweep := rfl
@[simp] theorem State.resetRuns_sched : (s.resetRuns).sched = s.sched := rfl
@[simp] theorem State.resetRuns_engine : (s.resetRuns).engine = s.engine := rfl
@[simp] theorem State.resetRuns_slots : (s.resetRuns).slots = s.slots := rfl
@[simp] theorem State.resetRuns_tunes : (s.resetRuns).tunes = s.tunes := rfl
@[simp] theorem State.resetRuns_nv : (s.resetRuns).nv = s.nv := rfl
@[simp] theorem State.resetRuns_link : (s.resetRuns).link = s.link := rfl
@[simp] theorem State.resetRuns_pending : (s.resetRuns).pending = s.pending := rfl

@[simp] theorem State.restartSweep_timer : (s.restartSweep).timer = s.timer := rfl
@[simp] theorem State.restartSweep_clock : (s.restartSweep).clock = s.clock := rfl
@[simp] theorem State.restartSweep_ctl : (s.restartSweep).ctl = s.ctl := rfl
@[simp] theorem State.restartSweep_globals : (s.restartSweep).globals = s.globals := rfl
@[simp] theorem State.restartSweep_bells : (s.restartSweep).bells = s.bells := rfl
@[simp] theorem State.restartSweep_drive : (s.restartSweep).drive = s.drive := rfl
@[simp] theorem State.restartSweep_warn : (s.restartSweep).warn = s.warn := rfl
@[simp] theorem State.restartSweep_supply : (s.restartSweep).supply = s.supply := rfl
@[simp] theorem State.restartSweep_sweep : (s.restartSweep).sweep = { s.sweep with next := some (s.nextWholeMs + visitInterval s.globals.sweepPeriod) } := rfl
@[simp] theorem State.restartSweep_sched : (s.restartSweep).sched = s.sched := rfl
@[simp] theorem State.restartSweep_engine : (s.restartSweep).engine = s.engine := rfl
@[simp] theorem State.restartSweep_slots : (s.restartSweep).slots = s.slots := rfl
@[simp] theorem State.restartSweep_tunes : (s.restartSweep).tunes = s.tunes := rfl
@[simp] theorem State.restartSweep_nv : (s.restartSweep).nv = s.nv := rfl
@[simp] theorem State.restartSweep_link : (s.restartSweep).link = s.link := rfl
@[simp] theorem State.restartSweep_pending : (s.restartSweep).pending = s.pending := rfl

@[simp] theorem State.setStaging_timer (x : Staging) : (s.setStaging x).timer = s.timer := rfl
@[simp] theorem State.setStaging_clock (x : Staging) : (s.setStaging x).clock = s.clock := rfl
@[simp] theorem State.setStaging_ctl (x : Staging) : (s.setStaging x).ctl = s.ctl := rfl
@[simp] theorem State.setStaging_globals (x : Staging) : (s.setStaging x).globals = s.globals := rfl
@[simp] theorem State.setStaging_bells (x : Staging) : (s.setStaging x).bells = s.bells := rfl
@[simp] theorem State.setStaging_drive (x : Staging) : (s.setStaging x).drive = s.drive := rfl
@[simp] theorem State.setStaging_warn (x : Staging) : (s.setStaging x).warn = s.warn := rfl
@[simp] theorem State.setStaging_supply (x : Staging) : (s.setStaging x).supply = s.supply := rfl
@[simp] theorem State.setStaging_sweep (x : Staging) : (s.setStaging x).sweep = s.sweep := rfl
@[simp] theorem State.setStaging_sched (x : Staging) : (s.setStaging x).sched = s.sched := rfl
@[simp] theorem State.setStaging_engine (x : Staging) : (s.setStaging x).engine = s.engine := rfl
@[simp] theorem State.setStaging_slots (x : Staging) : (s.setStaging x).slots = s.slots := rfl
@[simp] theorem State.setStaging_tunes (x : Staging) : (s.setStaging x).tunes = { s.tunes with staging := x } := rfl
@[simp] theorem State.setStaging_nv (x : Staging) : (s.setStaging x).nv = s.nv := rfl
@[simp] theorem State.setStaging_link (x : Staging) : (s.setStaging x).link = s.link := rfl
@[simp] theorem State.setStaging_pending (x : Staging) : (s.setStaging x).pending = s.pending := rfl

@[simp] theorem State.startWrite_timer (w : Write) : (s.startWrite w).timer = s.timer := rfl
@[simp] theorem State.startWrite_clock (w : Write) : (s.startWrite w).clock = s.clock := rfl
@[simp] theorem State.startWrite_ctl (w : Write) : (s.startWrite w).ctl = s.ctl := rfl
@[simp] theorem State.startWrite_globals (w : Write) : (s.startWrite w).globals = s.globals := rfl
@[simp] theorem State.startWrite_bells (w : Write) : (s.startWrite w).bells = s.bells := rfl
@[simp] theorem State.startWrite_drive (w : Write) : (s.startWrite w).drive = s.drive := rfl
@[simp] theorem State.startWrite_warn (w : Write) : (s.startWrite w).warn = s.warn := rfl
@[simp] theorem State.startWrite_supply (w : Write) : (s.startWrite w).supply = s.supply := rfl
@[simp] theorem State.startWrite_sweep (w : Write) : (s.startWrite w).sweep = s.sweep := rfl
@[simp] theorem State.startWrite_sched (w : Write) : (s.startWrite w).sched = s.sched := rfl
@[simp] theorem State.startWrite_engine (w : Write) : (s.startWrite w).engine = s.engine := rfl
@[simp] theorem State.startWrite_slots (w : Write) : (s.startWrite w).slots = s.slots := rfl
@[simp] theorem State.startWrite_tunes (w : Write) : (s.startWrite w).tunes = s.tunes := rfl
@[simp] theorem State.startWrite_nv (w : Write) : (s.startWrite w).nv = { s.nv with write := some w } := rfl
@[simp] theorem State.startWrite_link (w : Write) : (s.startWrite w).link = s.link := rfl
@[simp] theorem State.startWrite_pending (w : Write) : (s.startWrite w).pending = s.pending := rfl

@[simp] theorem State.endWrite_timer : (s.endWrite).timer = s.timer := rfl
@[simp] theorem State.endWrite_clock : (s.endWrite).clock = s.clock := rfl
@[simp] theorem State.endWrite_ctl : (s.endWrite).ctl = s.ctl := rfl
@[simp] theorem State.endWrite_globals : (s.endWrite).globals = s.globals := rfl
@[simp] theorem State.endWrite_bells : (s.endWrite).bells = s.bells := rfl
@[simp] theorem State.endWrite_drive : (s.endWrite).drive = s.drive := rfl
@[simp] theorem State.endWrite_warn : (s.endWrite).warn = s.warn := rfl
@[simp] theorem State.endWrite_supply : (s.endWrite).supply = s.supply := rfl
@[simp] theorem State.endWrite_sweep : (s.endWrite).sweep = s.sweep := rfl
@[simp] theorem State.endWrite_sched : (s.endWrite).sched = s.sched := rfl
@[simp] theorem State.endWrite_engine : (s.endWrite).engine = s.engine := rfl
@[simp] theorem State.endWrite_slots : (s.endWrite).slots = s.slots := rfl
@[simp] theorem State.endWrite_tunes : (s.endWrite).tunes = s.tunes := rfl
@[simp] theorem State.endWrite_nv : (s.endWrite).nv = { s.nv with write := none } := rfl
@[simp] theorem State.endWrite_link : (s.endWrite).link = s.link := rfl
@[simp] theorem State.endWrite_pending : (s.endWrite).pending = s.pending := rfl

@[simp] theorem State.modTunes_timer (f : TuneStore → TuneStore) : (s.modTunes f).timer = s.timer := rfl
@[simp] theorem State.modTunes_clock (f : TuneStore → TuneStore) : (s.modTunes f).clock = s.clock := rfl
@[simp] theorem State.modTunes_ctl (f : TuneStore → TuneStore) : (s.modTunes f).ctl = s.ctl := rfl
@[simp] theorem State.modTunes_globals (f : TuneStore → TuneStore) : (s.modTunes f).globals = s.globals := rfl
@[simp] theorem State.modTunes_bells (f : TuneStore → TuneStore) : (s.modTunes f).bells = s.bells := rfl
@[simp] theorem State.modTunes_drive (f : TuneStore → TuneStore) : (s.modTunes f).drive = s.drive := rfl
@[simp] theorem State.modTunes_warn (f : TuneStore → TuneStore) : (s.modTunes f).warn = s.warn := rfl
@[simp] theorem State.modTunes_supply (f : TuneStore → TuneStore) : (s.modTunes f).supply = s.supply := rfl
@[simp] theorem State.modTunes_sweep (f : TuneStore → TuneStore) : (s.modTunes f).sweep = s.sweep := rfl
@[simp] theorem State.modTunes_sched (f : TuneStore → TuneStore) : (s.modTunes f).sched = s.sched := rfl
@[simp] theorem State.modTunes_engine (f : TuneStore → TuneStore) : (s.modTunes f).engine = s.engine := rfl
@[simp] theorem State.modTunes_slots (f : TuneStore → TuneStore) : (s.modTunes f).slots = s.slots := rfl
@[simp] theorem State.modTunes_tunes (f : TuneStore → TuneStore) : (s.modTunes f).tunes = f s.tunes := rfl
@[simp] theorem State.modTunes_nv (f : TuneStore → TuneStore) : (s.modTunes f).nv = s.nv := rfl
@[simp] theorem State.modTunes_link (f : TuneStore → TuneStore) : (s.modTunes f).link = s.link := rfl
@[simp] theorem State.modTunes_pending (f : TuneStore → TuneStore) : (s.modTunes f).pending = s.pending := rfl

@[simp] theorem State.mark_timer (n : Fin 64) (d : Nat) : (s.mark n d).timer = s.timer := rfl
@[simp] theorem State.mark_clock (n : Fin 64) (d : Nat) : (s.mark n d).clock = s.clock := rfl
@[simp] theorem State.mark_ctl (n : Fin 64) (d : Nat) : (s.mark n d).ctl = s.ctl := rfl
@[simp] theorem State.mark_globals (n : Fin 64) (d : Nat) : (s.mark n d).globals = s.globals := rfl
@[simp] theorem State.mark_bells (n : Fin 64) (d : Nat) : (s.mark n d).bells = s.bells := rfl
@[simp] theorem State.mark_drive (n : Fin 64) (d : Nat) : (s.mark n d).drive = s.drive := rfl
@[simp] theorem State.mark_warn (n : Fin 64) (d : Nat) : (s.mark n d).warn = s.warn := rfl
@[simp] theorem State.mark_supply (n : Fin 64) (d : Nat) : (s.mark n d).supply = s.supply := rfl
@[simp] theorem State.mark_sweep (n : Fin 64) (d : Nat) : (s.mark n d).sweep = s.sweep := rfl
@[simp] theorem State.mark_sched (n : Fin 64) (d : Nat) : (s.mark n d).sched = s.sched := rfl
@[simp] theorem State.mark_engine (n : Fin 64) (d : Nat) : (s.mark n d).engine = s.engine := rfl
@[simp] theorem State.mark_slots (n : Fin 64) (d : Nat) : (s.mark n d).slots = s.slots.set n { s.slots[n] with marker := some d } := rfl
@[simp] theorem State.mark_tunes (n : Fin 64) (d : Nat) : (s.mark n d).tunes = s.tunes := rfl
@[simp] theorem State.mark_nv (n : Fin 64) (d : Nat) : (s.mark n d).nv = s.nv := rfl
@[simp] theorem State.mark_link (n : Fin 64) (d : Nat) : (s.mark n d).link = s.link := rfl
@[simp] theorem State.mark_pending (n : Fin 64) (d : Nat) : (s.mark n d).pending = s.pending := rfl

@[simp] theorem State.stepTo_timer (w : Nat) : (s.stepTo w).timer = s.timer := rfl
@[simp] theorem State.stepTo_clock (w : Nat) : (s.stepTo w).clock = { s.clock with wall := w, slew := 0, second := wholeSecond w } := rfl
@[simp] theorem State.stepTo_ctl (w : Nat) : (s.stepTo w).ctl = s.ctl := rfl
@[simp] theorem State.stepTo_globals (w : Nat) : (s.stepTo w).globals = s.globals := rfl
@[simp] theorem State.stepTo_bells (w : Nat) : (s.stepTo w).bells = s.bells := rfl
@[simp] theorem State.stepTo_drive (w : Nat) : (s.stepTo w).drive = s.drive := rfl
@[simp] theorem State.stepTo_warn (w : Nat) : (s.stepTo w).warn = s.warn := rfl
@[simp] theorem State.stepTo_supply (w : Nat) : (s.stepTo w).supply = s.supply := rfl
@[simp] theorem State.stepTo_sweep (w : Nat) : (s.stepTo w).sweep = s.sweep := rfl
@[simp] theorem State.stepTo_sched (w : Nat) : (s.stepTo w).sched = s.sched := rfl
@[simp] theorem State.stepTo_engine (w : Nat) : (s.stepTo w).engine = s.engine := rfl
@[simp] theorem State.stepTo_slots (w : Nat) : (s.stepTo w).slots = s.slots := rfl
@[simp] theorem State.stepTo_tunes (w : Nat) : (s.stepTo w).tunes = s.tunes := rfl
@[simp] theorem State.stepTo_nv (w : Nat) : (s.stepTo w).nv = s.nv := rfl
@[simp] theorem State.stepTo_link (w : Nat) : (s.stepTo w).link = s.link := rfl
@[simp] theorem State.stepTo_pending (w : Nat) : (s.stepTo w).pending = s.pending := rfl

@[simp] theorem State.setReceiver_timer (r : Receiver) : (s.setReceiver r).timer = s.timer := rfl
@[simp] theorem State.setReceiver_clock (r : Receiver) : (s.setReceiver r).clock = s.clock := rfl
@[simp] theorem State.setReceiver_ctl (r : Receiver) : (s.setReceiver r).ctl = s.ctl := rfl
@[simp] theorem State.setReceiver_globals (r : Receiver) : (s.setReceiver r).globals = s.globals := rfl
@[simp] theorem State.setReceiver_bells (r : Receiver) : (s.setReceiver r).bells = s.bells := rfl
@[simp] theorem State.setReceiver_drive (r : Receiver) : (s.setReceiver r).drive = s.drive := rfl
@[simp] theorem State.setReceiver_warn (r : Receiver) : (s.setReceiver r).warn = s.warn := rfl
@[simp] theorem State.setReceiver_supply (r : Receiver) : (s.setReceiver r).supply = s.supply := rfl
@[simp] theorem State.setReceiver_sweep (r : Receiver) : (s.setReceiver r).sweep = s.sweep := rfl
@[simp] theorem State.setReceiver_sched (r : Receiver) : (s.setReceiver r).sched = s.sched := rfl
@[simp] theorem State.setReceiver_engine (r : Receiver) : (s.setReceiver r).engine = s.engine := rfl
@[simp] theorem State.setReceiver_slots (r : Receiver) : (s.setReceiver r).slots = s.slots := rfl
@[simp] theorem State.setReceiver_tunes (r : Receiver) : (s.setReceiver r).tunes = s.tunes := rfl
@[simp] theorem State.setReceiver_nv (r : Receiver) : (s.setReceiver r).nv = s.nv := rfl
@[simp] theorem State.setReceiver_link (r : Receiver) : (s.setReceiver r).link = { s.link with receiver := r } := rfl
@[simp] theorem State.setReceiver_pending (r : Receiver) : (s.setReceiver r).pending = s.pending := rfl

@[simp] theorem State.discardFrame_timer : (s.discardFrame).timer = s.timer := rfl
@[simp] theorem State.discardFrame_clock : (s.discardFrame).clock = s.clock := rfl
@[simp] theorem State.discardFrame_ctl : (s.discardFrame).ctl = s.ctl := rfl
@[simp] theorem State.discardFrame_globals : (s.discardFrame).globals = s.globals := rfl
@[simp] theorem State.discardFrame_bells : (s.discardFrame).bells = s.bells := rfl
@[simp] theorem State.discardFrame_drive : (s.discardFrame).drive = s.drive := rfl
@[simp] theorem State.discardFrame_warn : (s.discardFrame).warn = s.warn := rfl
@[simp] theorem State.discardFrame_supply : (s.discardFrame).supply = s.supply := rfl
@[simp] theorem State.discardFrame_sweep : (s.discardFrame).sweep = s.sweep := rfl
@[simp] theorem State.discardFrame_sched : (s.discardFrame).sched = s.sched := rfl
@[simp] theorem State.discardFrame_engine : (s.discardFrame).engine = s.engine := rfl
@[simp] theorem State.discardFrame_slots : (s.discardFrame).slots = s.slots := rfl
@[simp] theorem State.discardFrame_tunes : (s.discardFrame).tunes = s.tunes := rfl
@[simp] theorem State.discardFrame_nv : (s.discardFrame).nv = s.nv := rfl
@[simp] theorem State.discardFrame_link : (s.discardFrame).link = { s.link with receiver := .hunt, linkError := true } := rfl
@[simp] theorem State.discardFrame_pending : (s.discardFrame).pending = s.pending := rfl

theorem State.modBell_bell (b c : BellNo) (f : Bell → Bell) : (s.modBell b f).bell c = if b = c then f (s.bell b) else s.bell c := by
  simp [State.bell, State.modBell, Vector.getElem_set, Fin.ext_iff]

@[simp] theorem State.modBell_bell_self (b : BellNo) (f : Bell → Bell) : (s.modBell b f).bell b = f (s.bell b) := by
  simp [State.modBell_bell]

theorem State.modBell_bell_ne {b c : BellNo} (h : b ≠ c) (f : Bell → Bell) : (s.modBell b f).bell c = s.bell c := by
  simp [State.modBell_bell, h]

@[simp] theorem State.setPlayer_player_self (p : PlayerNo) (x : Player) : (s.setPlayer p x).player p = x := by
  cases p <;> rfl

theorem State.setPlayer_player_ne {p q : PlayerNo} (h : p ≠ q) (x : Player) : (s.setPlayer p x).player q = s.player q := by
  cases p <;> cases q <;> first | rfl | exact absurd rfl h

/-- A fold keeps whatever each of its steps keeps. -/
theorem foldl_keeps {α β γ : Type} (p : β → γ) {f : β → α → β} (h : ∀ s a, p (f s a) = p s) (l : List α) (s : β) :
    p (l.foldl f s) = p s := by
  induction l generalizing s with
  | nil => rfl
  | cons a l ih => rw [List.foldl_cons, ih, h]

end Sys2Proof.Machine
end

