-- ==== Sys2Proof/Laws/Frames.lean ====
section
/-! SUPPORT. Frames: for each shared operation, one lemma with every part of the state it leaves as it is; simp takes each clause as a rule. -/

namespace Sys2Proof.Machine

open Sys2Proof

variable (s : State)

@[simp] theorem State.report_frame (r : Report) :
    (s.report r).timer = s.timer ∧ (s.report r).clock = s.clock ∧ (s.report r).ctl = s.ctl ∧ (s.report r).globals = s.globals ∧
    (s.report r).bells = s.bells ∧ (s.report r).drive = s.drive ∧ (s.report r).warn = s.warn ∧ (s.report r).supply = s.supply ∧
    (s.report r).sweep = s.sweep ∧ (s.report r).sched = s.sched ∧ (s.report r).engine = s.engine ∧ (s.report r).slots = s.slots ∧
    (s.report r).tunes = s.tunes ∧ (s.report r).nv = s.nv ∧ (s.report r).pending = s.pending := by
  refine ⟨?_, ?_, ?_, ?_, ?_, ?_, ?_, ?_, ?_, ?_, ?_, ?_, ?_, ?_, ?_⟩
  all_goals
    unfold State.report; (repeat' split) <;> simp

@[simp] theorem State.noteReport_frame (r : NoteReport) :
    (s.noteReport r).timer = s.timer ∧ (s.noteReport r).clock = s.clock ∧ (s.noteReport r).ctl = s.ctl ∧
    (s.noteReport r).globals = s.globals ∧ (s.noteReport r).bells = s.bells ∧ (s.noteReport r).drive = s.drive ∧
    (s.noteReport r).warn = s.warn ∧ (s.noteReport r).supply = s.supply ∧ (s.noteReport r).sweep = s.sweep ∧
    (s.noteReport r).sched = s.sched ∧ (s.noteReport r).engine = s.engine ∧ (s.noteReport r).slots = s.slots ∧
    (s.noteReport r).tunes = s.tunes ∧ (s.noteReport r).nv = s.nv ∧ (s.noteReport r).pending = s.pending := by
  refine ⟨?_, ?_, ?_, ?_, ?_, ?_, ?_, ?_, ?_, ?_, ?_, ?_, ?_, ?_, ?_⟩
  all_goals
    unfold State.noteReport; (repeat' split) <;> simp

@[simp] theorem State.transmit_frame :
    (s.transmit).timer = s.timer ∧ (s.transmit).clock = s.clock ∧ (s.transmit).ctl = s.ctl ∧ (s.transmit).globals = s.globals ∧
    (s.transmit).bells = s.bells ∧ (s.transmit).drive = s.drive ∧ (s.transmit).warn = s.warn ∧ (s.transmit).supply = s.supply ∧
    (s.transmit).sweep = s.sweep ∧ (s.transmit).sched = s.sched ∧ (s.transmit).engine = s.engine ∧ (s.transmit).slots = s.slots ∧
    (s.transmit).tunes = s.tunes ∧ (s.transmit).nv = s.nv ∧ (s.transmit).pending = s.pending := by
  refine ⟨?_, ?_, ?_, ?_, ?_, ?_, ?_, ?_, ?_, ?_, ?_, ?_, ?_, ?_, ?_⟩
  all_goals
    unfold State.transmit; (repeat' split) <;> simp

@[simp] theorem State.strikeReport_frame (b : BellNo) (w : Window) :
    (s.strikeReport b w).timer = s.timer ∧ (s.strikeReport b w).clock = s.clock ∧ (s.strikeReport b w).ctl = s.ctl ∧
    (s.strikeReport b w).globals = s.globals ∧ (s.strikeReport b w).bells = s.bells ∧ (s.strikeReport b w).drive = s.drive ∧
    (s.strikeReport b w).warn = s.warn ∧ (s.strikeReport b w).supply = s.supply ∧ (s.strikeReport b w).sweep = s.sweep ∧
    (s.strikeReport b w).sched = s.sched ∧ (s.strikeReport b w).engine = s.engine ∧ (s.strikeReport b w).slots = s.slots ∧
    (s.strikeReport b w).tunes = s.tunes ∧ (s.strikeReport b w).nv = s.nv ∧ (s.strikeReport b w).pending = s.pending := by
  refine ⟨?_, ?_, ?_, ?_, ?_, ?_, ?_, ?_, ?_, ?_, ?_, ?_, ?_, ?_, ?_⟩
  all_goals
    unfold State.strikeReport; (repeat' split) <;> simp

@[simp] theorem State.modPlay_frame (i : Nat) (f : Play → Play) :
    (s.modPlay i f).timer = s.timer ∧ (s.modPlay i f).clock = s.clock ∧ (s.modPlay i f).ctl = s.ctl ∧
    (s.modPlay i f).globals = s.globals ∧ (s.modPlay i f).bells = s.bells ∧ (s.modPlay i f).drive = s.drive ∧
    (s.modPlay i f).warn = s.warn ∧ (s.modPlay i f).supply = s.supply ∧ (s.modPlay i f).sweep = s.sweep ∧
    (s.modPlay i f).sched = s.sched ∧ (s.modPlay i f).slots = s.slots ∧ (s.modPlay i f).tunes = s.tunes ∧ (s.modPlay i f).nv = s.nv ∧
    (s.modPlay i f).link = s.link ∧ (s.modPlay i f).pending = s.pending := by
  refine ⟨?_, ?_, ?_, ?_, ?_, ?_, ?_, ?_, ?_, ?_, ?_, ?_, ?_, ?_, ?_⟩
  all_goals
    unfold State.modPlay; (repeat' split) <;> simp

@[simp] theorem State.driveNotice_frame (i : Nat) :
    (s.driveNotice i).timer = s.timer ∧ (s.driveNotice i).clock = s.clock ∧ (s.driveNotice i).ctl = s.ctl ∧
    (s.driveNotice i).globals = s.globals ∧ (s.driveNotice i).bells = s.bells ∧ (s.driveNotice i).drive = s.drive ∧
    (s.driveNotice i).warn = s.warn ∧ (s.driveNotice i).supply = s.supply ∧ (s.driveNotice i).sweep = s.sweep ∧
    (s.driveNotice i).sched = s.sched ∧ (s.driveNotice i).slots = s.slots ∧ (s.driveNotice i).tunes = s.tunes ∧
    (s.driveNotice i).nv = s.nv ∧ (s.driveNotice i).link = s.link ∧ (s.driveNotice i).pending = s.pending := by
  refine ⟨?_, ?_, ?_, ?_, ?_, ?_, ?_, ?_, ?_, ?_, ?_, ?_, ?_, ?_, ?_⟩
  all_goals
    unfold State.driveNotice; simp

@[simp] theorem State.countRemoved_frame (e : Entry) :
    (s.countRemoved e).timer = s.timer ∧ (s.countRemoved e).clock = s.clock ∧ (s.countRemoved e).ctl = s.ctl ∧
    (s.countRemoved e).globals = s.globals ∧ (s.countRemoved e).bells = s.bells ∧ (s.countRemoved e).drive = s.drive ∧
    (s.countRemoved e).warn = s.warn ∧ (s.countRemoved e).supply = s.supply ∧ (s.countRemoved e).sweep = s.sweep ∧
    (s.countRemoved e).sched = s.sched ∧ (s.countRemoved e).slots = s.slots ∧ (s.countRemoved e).tunes = s.tunes ∧
    (s.countRemoved e).nv = s.nv ∧ (s.countRemoved e).link = s.link ∧ (s.countRemoved e).pending = s.pending := by
  refine ⟨?_, ?_, ?_, ?_, ?_, ?_, ?_, ?_, ?_, ?_, ?_, ?_, ?_, ?_, ?_⟩
  all_goals
    unfold State.countRemoved; simp

@[simp] theorem State.countDiscarded_frame (h : Held) :
    (s.countDiscarded h).timer = s.timer ∧ (s.countDiscarded h).clock = s.clock ∧ (s.countDiscarded h).ctl = s.ctl ∧
    (s.countDiscarded h).globals = s.globals ∧ (s.countDiscarded h).bells = s.bells ∧ (s.countDiscarded h).drive = s.drive ∧
    (s.countDiscarded h).warn = s.warn ∧ (s.countDiscarded h).supply = s.supply ∧ (s.countDiscarded h).sweep = s.sweep ∧
    (s.countDiscarded h).sched = s.sched ∧ (s.countDiscarded h).slots = s.slots ∧ (s.countDiscarded h).tunes = s.tunes ∧
    (s.countDiscarded h).nv = s.nv ∧ (s.countDiscarded h).link = s.link ∧ (s.countDiscarded h).pending = s.pending := by
  refine ⟨?_, ?_, ?_, ?_, ?_, ?_, ?_, ?_, ?_, ?_, ?_, ?_, ?_, ?_, ?_⟩
  all_goals
    unfold State.countDiscarded; simp

@[simp] theorem State.grantOne_frame :
    (s.grantOne).timer = s.timer ∧ (s.grantOne).clock = s.clock ∧ (s.grantOne).ctl = s.ctl ∧ (s.grantOne).globals = s.globals ∧
    (s.grantOne).bells = s.bells ∧ (s.grantOne).drive = s.drive ∧ (s.grantOne).warn = s.warn ∧ (s.grantOne).supply = s.supply ∧
    (s.grantOne).sweep = s.sweep ∧ (s.grantOne).engine = s.engine ∧ (s.grantOne).slots = s.slots ∧ (s.grantOne).tunes = s.tunes ∧
    (s.grantOne).nv = s.nv ∧ (s.grantOne).link = s.link ∧ (s.grantOne).pending = s.pending := by
  refine ⟨?_, ?_, ?_, ?_, ?_, ?_, ?_, ?_, ?_, ?_, ?_, ?_, ?_, ?_, ?_⟩
  all_goals
    unfold State.grantOne; (repeat' split) <;> simp

@[simp] theorem State.grantSlots_frame :
    (s.grantSlots).timer = s.timer ∧ (s.grantSlots).clock = s.clock ∧ (s.grantSlots).ctl = s.ctl ∧
    (s.grantSlots).globals = s.globals ∧ (s.grantSlots).bells = s.bells ∧ (s.grantSlots).drive = s.drive ∧
    (s.grantSlots).warn = s.warn ∧ (s.grantSlots).supply = s.supply ∧ (s.grantSlots).sweep = s.sweep ∧
    (s.grantSlots).engine = s.engine ∧ (s.grantSlots).slots = s.slots ∧ (s.grantSlots).tunes = s.tunes ∧ (s.grantSlots).nv = s.nv ∧
    (s.grantSlots).link = s.link ∧ (s.grantSlots).pending = s.pending := by
  refine ⟨?_, ?_, ?_, ?_, ?_, ?_, ?_, ?_, ?_, ?_, ?_, ?_, ?_, ?_, ?_⟩
  all_goals
    unfold State.grantSlots; simp

@[simp] theorem State.takeOut_frame (p : Entry → Bool) :
    (s.takeOut p).timer = s.timer ∧ (s.takeOut p).clock = s.clock ∧ (s.takeOut p).ctl = s.ctl ∧ (s.takeOut p).globals = s.globals ∧
    (s.takeOut p).bells = s.bells ∧ (s.takeOut p).drive = s.drive ∧ (s.takeOut p).warn = s.warn ∧ (s.takeOut p).supply = s.supply ∧
    (s.takeOut p).sweep = s.sweep ∧ (s.takeOut p).slots = s.slots ∧ (s.takeOut p).tunes = s.tunes ∧ (s.takeOut p).nv = s.nv ∧
    (s.takeOut p).link = s.link ∧ (s.takeOut p).pending = s.pending := by
  refine ⟨?_, ?_, ?_, ?_, ?_, ?_, ?_, ?_, ?_, ?_, ?_, ?_, ?_, ?_⟩
  · exact (foldl_keeps (fun s : State => s.timer) (fun s a => by simp) _ _).trans (by simp)
  · exact (foldl_keeps (fun s : State => s.clock) (fun s a => by simp) _ _).trans (by simp)
  · exact (foldl_keeps (fun s : State => s.ctl) (fun s a => by simp) _ _).trans (by simp)
  · exact (foldl_keeps (fun s : State => s.globals) (fun s a => by simp) _ _).trans (by simp)
  · exact (foldl_keeps (fun s : State => s.bells) (fun s a => by simp) _ _).trans (by simp)
  · exact (foldl_keeps (fun s : State => s.drive) (fun s a => by simp) _ _).trans (by simp)
  · exact (foldl_keeps (fun s : State => s.warn) (fun s a => by simp) _ _).trans (by simp)
  · exact (foldl_keeps (fun s : State => s.supply) (fun s a => by simp) _ _).trans (by simp)
  · exact (foldl_keeps (fun s : State => s.sweep) (fun s a => by simp) _ _).trans (by simp)
  · exact (foldl_keeps (fun s : State => s.slots) (fun s a => by simp) _ _).trans (by simp)
  · exact (foldl_keeps (fun s : State => s.tunes) (fun s a => by simp) _ _).trans (by simp)
  · exact (foldl_keeps (fun s : State => s.nv) (fun s a => by simp) _ _).trans (by simp)
  · exact (foldl_keeps (fun s : State => s.link) (fun s a => by simp) _ _).trans (by simp)
  · exact (foldl_keeps (fun s : State => s.pending) (fun s a => by simp) _ _).trans (by simp)

@[simp] theorem State.discardHeld_frame (p : Held → Bool) :
    (s.discardHeld p).timer = s.timer ∧ (s.discardHeld p).clock = s.clock ∧ (s.discardHeld p).ctl = s.ctl ∧
    (s.discardHeld p).globals = s.globals ∧ (s.discardHeld p).bells = s.bells ∧ (s.discardHeld p).drive = s.drive ∧
    (s.discardHeld p).warn = s.warn ∧ (s.discardHeld p).supply = s.supply ∧ (s.discardHeld p).sweep = s.sweep ∧
    (s.discardHeld p).slots = s.slots ∧ (s.discardHeld p).tunes = s.tunes ∧ (s.discardHeld p).nv = s.nv ∧
    (s.discardHeld p).link = s.link ∧ (s.discardHeld p).pending = s.pending := by
  refine ⟨?_, ?_, ?_, ?_, ?_, ?_, ?_, ?_, ?_, ?_, ?_, ?_, ?_, ?_⟩
  · exact foldl_keeps (fun s : State => s.timer) (fun s a => by simp) _ _
  · exact foldl_keeps (fun s : State => s.clock) (fun s a => by simp) _ _
  · exact foldl_keeps (fun s : State => s.ctl) (fun s a => by simp) _ _
  · exact foldl_keeps (fun s : State => s.globals) (fun s a => by simp) _ _
  · exact foldl_keeps (fun s : State => s.bells) (fun s a => by simp) _ _
  · exact foldl_keeps (fun s : State => s.drive) (fun s a => by simp) _ _
  · exact foldl_keeps (fun s : State => s.warn) (fun s a => by simp) _ _
  · exact foldl_keeps (fun s : State => s.supply) (fun s a => by simp) _ _
  · exact foldl_keeps (fun s : State => s.sweep) (fun s a => by simp) _ _
  · exact foldl_keeps (fun s : State => s.slots) (fun s a => by simp) _ _
  · exact foldl_keeps (fun s : State => s.tunes) (fun s a => by simp) _ _
  · exact foldl_keeps (fun s : State => s.nv) (fun s a => by simp) _ _
  · exact foldl_keeps (fun s : State => s.link) (fun s a => by simp) _ _
  · exact foldl_keeps (fun s : State => s.pending) (fun s a => by simp) _ _

@[simp] theorem State.changeService_frame (b : BellNo) (st : Service) (c : BellCause) (n : Nat) :
    (s.changeService b st c n).timer = s.timer ∧ (s.changeService b st c n).clock = s.clock ∧ (s.changeService b st c n).ctl = s.ctl ∧
    (s.changeService b st c n).globals = s.globals ∧ (s.changeService b st c n).drive = s.drive ∧
    (s.changeService b st c n).warn = s.warn ∧ (s.changeService b st c n).supply = s.supply ∧
    (s.changeService b st c n).sweep = s.sweep ∧ (s.changeService b st c n).sched = s.sched ∧
    (s.changeService b st c n).engine = s.engine ∧ (s.changeService b st c n).slots = s.slots ∧
    (s.changeService b st c n).tunes = s.tunes ∧ (s.changeService b st c n).nv = s.nv ∧
    (s.changeService b st c n).pending = s.pending := by
  refine ⟨?_, ?_, ?_, ?_, ?_, ?_, ?_, ?_, ?_, ?_, ?_, ?_, ?_, ?_⟩
  all_goals
    unfold State.changeService; simp

@[simp] theorem State.applySettings_frame (b : BellNo) (p : Patch) :
    (s.applySettings b p).timer = s.timer ∧ (s.applySettings b p).clock = s.clock ∧ (s.applySettings b p).ctl = s.ctl ∧
    (s.applySettings b p).globals = s.globals ∧ (s.applySettings b p).drive = s.drive ∧ (s.applySettings b p).warn = s.warn ∧
    (s.applySettings b p).supply = s.supply ∧ (s.applySettings b p).sweep = s.sweep ∧ (s.applySettings b p).sched = s.sched ∧
    (s.applySettings b p).engine = s.engine ∧ (s.applySettings b p).slots = s.slots ∧ (s.applySettings b p).tunes = s.tunes ∧
    (s.applySettings b p).nv = s.nv ∧ (s.applySettings b p).pending = s.pending := by
  refine ⟨?_, ?_, ?_, ?_, ?_, ?_, ?_, ?_, ?_, ?_, ?_, ?_, ?_, ?_⟩
  all_goals
    unfold State.applySettings; dsimp only; (repeat' split) <;> simp

@[simp] theorem State.quietPoint_frame (b : BellNo) :
    (s.quietPoint b).timer = s.timer ∧ (s.quietPoint b).clock = s.clock ∧ (s.quietPoint b).ctl = s.ctl ∧
    (s.quietPoint b).globals = s.globals ∧ (s.quietPoint b).drive = s.drive ∧ (s.quietPoint b).warn = s.warn ∧
    (s.quietPoint b).supply = s.supply ∧ (s.quietPoint b).sweep = s.sweep ∧ (s.quietPoint b).sched = s.sched ∧
    (s.quietPoint b).engine = s.engine ∧ (s.quietPoint b).slots = s.slots ∧ (s.quietPoint b).tunes = s.tunes ∧
    (s.quietPoint b).nv = s.nv ∧ (s.quietPoint b).pending = s.pending := by
  refine ⟨?_, ?_, ?_, ?_, ?_, ?_, ?_, ?_, ?_, ?_, ?_, ?_, ?_, ?_⟩
  all_goals
    unfold State.quietPoint; (repeat' split) <;> simp

@[simp] theorem State.removeEntries_frame (p : Entry → Bool) :
    (s.removeEntries p).timer = s.timer ∧ (s.removeEntries p).clock = s.clock ∧ (s.removeEntries p).ctl = s.ctl ∧
    (s.removeEntries p).globals = s.globals ∧ (s.removeEntries p).drive = s.drive ∧ (s.removeEntries p).warn = s.warn ∧
    (s.removeEntries p).supply = s.supply ∧ (s.removeEntries p).sweep = s.sweep ∧ (s.removeEntries p).slots = s.slots ∧
    (s.removeEntries p).tunes = s.tunes ∧ (s.removeEntries p).nv = s.nv ∧ (s.removeEntries p).pending = s.pending := by
  refine ⟨?_, ?_, ?_, ?_, ?_, ?_, ?_, ?_, ?_, ?_, ?_, ?_⟩
  · exact (foldl_keeps (fun s : State => s.timer) (fun s a => by simp) _ _).trans (by simp)
  · exact (foldl_keeps (fun s : State => s.clock) (fun s a => by simp) _ _).trans (by simp)
  · exact (foldl_keeps (fun s : State => s.ctl) (fun s a => by simp) _ _).trans (by simp)
  · exact (foldl_keeps (fun s : State => s.globals) (fun s a => by simp) _ _).trans (by simp)
  · exact (foldl_keeps (fun s : State => s.drive) (fun s a => by simp) _ _).trans (by simp)
  · exact (foldl_keeps (fun s : State => s.warn) (fun s a => by simp) _ _).trans (by simp)
  · exact (foldl_keeps (fun s : State => s.supply) (fun s a => by simp) _ _).trans (by simp)
  · exact (foldl_keeps (fun s : State => s.sweep) (fun s a => by simp) _ _).trans (by simp)
  · exact (foldl_keeps (fun s : State => s.slots) (fun s a => by simp) _ _).trans (by simp)
  · exact (foldl_keeps (fun s : State => s.tunes) (fun s a => by simp) _ _).trans (by simp)
  · exact (foldl_keeps (fun s : State => s.nv) (fun s a => by simp) _ _).trans (by simp)
  · exact (foldl_keeps (fun s : State => s.pending) (fun s a => by simp) _ _).trans (by simp)

@[simp] theorem State.leaveService_frame (b : BellNo) (st : Service) (c : BellCause) :
    (s.leaveService b st c).timer = s.timer ∧ (s.leaveService b st c).clock = s.clock ∧ (s.leaveService b st c).ctl = s.ctl ∧
    (s.leaveService b st c).globals = s.globals ∧ (s.leaveService b st c).drive = s.drive ∧ (s.leaveService b st c).warn = s.warn ∧
    (s.leaveService b st c).supply = s.supply ∧ (s.leaveService b st c).sweep = s.sweep ∧ (s.leaveService b st c).slots = s.slots ∧
    (s.leaveService b st c).tunes = s.tunes ∧ (s.leaveService b st c).nv = s.nv ∧ (s.leaveService b st c).pending = s.pending := by
  refine ⟨?_, ?_, ?_, ?_, ?_, ?_, ?_, ?_, ?_, ?_, ?_, ?_⟩
  all_goals
    simp [State.leaveService]

@[simp] theorem State.heatTest_frame (b : BellNo) :
    (s.heatTest b).timer = s.timer ∧ (s.heatTest b).clock = s.clock ∧ (s.heatTest b).ctl = s.ctl ∧
    (s.heatTest b).globals = s.globals ∧ (s.heatTest b).drive = s.drive ∧ (s.heatTest b).warn = s.warn ∧
    (s.heatTest b).supply = s.supply ∧ (s.heatTest b).sweep = s.sweep ∧ (s.heatTest b).slots = s.slots ∧
    (s.heatTest b).tunes = s.tunes ∧ (s.heatTest b).nv = s.nv ∧ (s.heatTest b).pending = s.pending := by
  refine ⟨?_, ?_, ?_, ?_, ?_, ?_, ?_, ?_, ?_, ?_, ?_, ?_⟩
  all_goals
    unfold State.heatTest; (repeat' split) <;> simp

@[simp] theorem State.finding_frame (b : BellNo) (k : FaultKind) (c : BellCause) :
    (s.finding b k c).timer = s.timer ∧ (s.finding b k c).clock = s.clock ∧ (s.finding b k c).ctl = s.ctl ∧
    (s.finding b k c).globals = s.globals ∧ (s.finding b k c).drive = s.drive ∧ (s.finding b k c).warn = s.warn ∧
    (s.finding b k c).supply = s.supply ∧ (s.finding b k c).sweep = s.sweep ∧ (s.finding b k c).slots = s.slots ∧
    (s.finding b k c).tunes = s.tunes ∧ (s.finding b k c).nv = s.nv ∧ (s.finding b k c).pending = s.pending := by
  refine ⟨?_, ?_, ?_, ?_, ?_, ?_, ?_, ?_, ?_, ?_, ?_, ?_⟩
  all_goals
    unfold State.finding; (repeat' split) <;> simp

@[simp] theorem State.applyBudget_frame :
    (s.applyBudget).timer = s.timer ∧ (s.applyBudget).clock = s.clock ∧ (s.applyBudget).ctl = s.ctl ∧
    (s.applyBudget).bells = s.bells ∧ (s.applyBudget).warn = s.warn ∧ (s.applyBudget).supply = s.supply ∧
    (s.applyBudget).sweep = s.sweep ∧ (s.applyBudget).sched = s.sched ∧ (s.applyBudget).engine = s.engine ∧
    (s.applyBudget).slots = s.slots ∧ (s.applyBudget).tunes = s.tunes ∧ (s.applyBudget).nv = s.nv ∧ (s.applyBudget).link = s.link ∧
    (s.applyBudget).pending = s.pending := by
  refine ⟨?_, ?_, ?_, ?_, ?_, ?_, ?_, ?_, ?_, ?_, ?_, ?_, ?_, ?_⟩
  all_goals
    unfold State.applyBudget; (repeat' split) <;> simp

@[simp] theorem State.freeClass_frame (c : Nat) :
    (s.freeClass c).timer = s.timer ∧ (s.freeClass c).clock = s.clock ∧ (s.freeClass c).ctl = s.ctl ∧
    (s.freeClass c).bells = s.bells ∧ (s.freeClass c).warn = s.warn ∧ (s.freeClass c).supply = s.supply ∧
    (s.freeClass c).sweep = s.sweep ∧ (s.freeClass c).sched = s.sched ∧ (s.freeClass c).engine = s.engine ∧
    (s.freeClass c).slots = s.slots ∧ (s.freeClass c).tunes = s.tunes ∧ (s.freeClass c).nv = s.nv ∧ (s.freeClass c).link = s.link ∧
    (s.freeClass c).pending = s.pending := by
  refine ⟨?_, ?_, ?_, ?_, ?_, ?_, ?_, ?_, ?_, ?_, ?_, ?_, ?_, ?_⟩
  all_goals
    unfold State.freeClass; simp

@[simp] theorem State.accumulate_frame (b : BellNo) (n : Nat) :
    (s.accumulate b n).timer = s.timer ∧ (s.accumulate b n).clock = s.clock ∧ (s.accumulate b n).ctl = s.ctl ∧
    (s.accumulate b n).globals = s.globals ∧ (s.accumulate b n).drive = s.drive ∧ (s.accumulate b n).warn = s.warn ∧
    (s.accumulate b n).supply = s.supply ∧ (s.accumulate b n).sweep = s.sweep ∧ (s.accumulate b n).slots = s.slots ∧
    (s.accumulate b n).tunes = s.tunes ∧ (s.accumulate b n).nv = s.nv ∧ (s.accumulate b n).pending = s.pending := by
  refine ⟨?_, ?_, ?_, ?_, ?_, ?_, ?_, ?_, ?_, ?_, ?_, ?_⟩
  all_goals
    unfold State.accumulate; simp

@[simp] theorem State.missClose_frame (b : BellNo) (w : Window) :
    (s.missClose b w).timer = s.timer ∧ (s.missClose b w).clock = s.clock ∧ (s.missClose b w).ctl = s.ctl ∧
    (s.missClose b w).globals = s.globals ∧ (s.missClose b w).drive = s.drive ∧ (s.missClose b w).warn = s.warn ∧
    (s.missClose b w).supply = s.supply ∧ (s.missClose b w).sweep = s.sweep ∧ (s.missClose b w).slots = s.slots ∧
    (s.missClose b w).tunes = s.tunes ∧ (s.missClose b w).nv = s.nv ∧ (s.missClose b w).pending = s.pending := by
  refine ⟨?_, ?_, ?_, ?_, ?_, ?_, ?_, ?_, ?_, ?_, ?_, ?_⟩
  all_goals
    unfold State.missClose; dsimp only; (repeat' split) <;> simp

@[simp] theorem State.captureClose_frame (b : BellNo) (w : Window) (c : Int) :
    (s.captureClose b w c).timer = s.timer ∧ (s.captureClose b w c).clock = s.clock ∧ (s.captureClose b w c).ctl = s.ctl ∧
    (s.captureClose b w c).globals = s.globals ∧ (s.captureClose b w c).drive = s.drive ∧ (s.captureClose b w c).warn = s.warn ∧
    (s.captureClose b w c).supply = s.supply ∧ (s.captureClose b w c).sweep = s.sweep ∧ (s.captureClose b w c).sched = s.sched ∧
    (s.captureClose b w c).engine = s.engine ∧ (s.captureClose b w c).slots = s.slots ∧ (s.captureClose b w c).tunes = s.tunes ∧
    (s.captureClose b w c).nv = s.nv ∧ (s.captureClose b w c).pending = s.pending := by
  refine ⟨?_, ?_, ?_, ?_, ?_, ?_, ?_, ?_, ?_, ?_, ?_, ?_, ?_, ?_⟩
  all_goals
    unfold State.captureClose; dsimp only; simp

@[simp] theorem State.closeWindow_frame (b : BellNo) :
    (s.closeWindow b).timer = s.timer ∧ (s.closeWindow b).clock = s.clock ∧ (s.closeWindow b).ctl = s.ctl ∧
    (s.closeWindow b).globals = s.globals ∧ (s.closeWindow b).drive = s.drive ∧ (s.closeWindow b).warn = s.warn ∧
    (s.closeWindow b).supply = s.supply ∧ (s.closeWindow b).sweep = s.sweep ∧ (s.closeWindow b).slots = s.slots ∧
    (s.closeWindow b).tunes = s.tunes ∧ (s.closeWindow b).nv = s.nv ∧ (s.closeWindow b).pending = s.pending := by
  refine ⟨?_, ?_, ?_, ?_, ?_, ?_, ?_, ?_, ?_, ?_, ?_, ?_⟩
  all_goals
    unfold State.closeWindow; (repeat' split) <;> simp

@[simp] theorem State.releaseCoil_frame (b : BellNo) (d : Drive) :
    (s.releaseCoil b d).timer = s.timer ∧ (s.releaseCoil b d).clock = s.clock ∧ (s.releaseCoil b d).ctl = s.ctl ∧
    (s.releaseCoil b d).warn = s.warn ∧ (s.releaseCoil b d).supply = s.supply ∧ (s.releaseCoil b d).sweep = s.sweep ∧
    (s.releaseCoil b d).sched = s.sched ∧ (s.releaseCoil b d).slots = s.slots ∧ (s.releaseCoil b d).tunes = s.tunes ∧
    (s.releaseCoil b d).nv = s.nv ∧ (s.releaseCoil b d).link = s.link ∧ (s.releaseCoil b d).pending = s.pending := by
  refine ⟨?_, ?_, ?_, ?_, ?_, ?_, ?_, ?_, ?_, ?_, ?_, ?_⟩
  all_goals
    unfold State.releaseCoil; (repeat' split) <;> simp

@[simp] theorem State.cutDrive_frame (b : BellNo) :
    (s.cutDrive b).timer = s.timer ∧ (s.cutDrive b).clock = s.clock ∧ (s.cutDrive b).ctl = s.ctl ∧ (s.cutDrive b).warn = s.warn ∧
    (s.cutDrive b).supply = s.supply ∧ (s.cutDrive b).sweep = s.sweep ∧ (s.cutDrive b).sched = s.sched ∧
    (s.cutDrive b).slots = s.slots ∧ (s.cutDrive b).tunes = s.tunes ∧ (s.cutDrive b).nv = s.nv ∧ (s.cutDrive b).pending = s.pending := by
  refine ⟨?_, ?_, ?_, ?_, ?_, ?_, ?_, ?_, ?_, ?_, ?_⟩
  all_goals
    unfold State.cutDrive; (repeat' split) <;> simp

@[simp] theorem State.freshen_frame (b : BellNo) :
    (s.freshen b).timer = s.timer ∧ (s.freshen b).clock = s.clock ∧ (s.freshen b).ctl = s.ctl ∧ (s.freshen b).globals = s.globals ∧
    (s.freshen b).drive = s.drive ∧ (s.freshen b).warn = s.warn ∧ (s.freshen b).supply = s.supply ∧ (s.freshen b).sweep = s.sweep ∧
    (s.freshen b).sched = s.sched ∧ (s.freshen b).engine = s.engine ∧ (s.freshen b).slots = s.slots ∧ (s.freshen b).tunes = s.tunes ∧
    (s.freshen b).nv = s.nv ∧ (s.freshen b).pending = s.pending := by
  refine ⟨?_, ?_, ?_, ?_, ?_, ?_, ?_, ?_, ?_, ?_, ?_, ?_, ?_, ?_⟩
  all_goals
    unfold State.freshen; (repeat' split) <;> simp

@[simp] theorem State.verify_frame (b : BellNo) (t : Nat) :
    (s.verify b t).timer = s.timer ∧ (s.verify b t).clock = s.clock ∧ (s.verify b t).ctl = s.ctl ∧
    (s.verify b t).globals = s.globals ∧ (s.verify b t).drive = s.drive ∧ (s.verify b t).warn = s.warn ∧
    (s.verify b t).supply = s.supply ∧ (s.verify b t).sweep = s.sweep ∧ (s.verify b t).sched = s.sched ∧
    (s.verify b t).engine = s.engine ∧ (s.verify b t).slots = s.slots ∧ (s.verify b t).tunes = s.tunes ∧ (s.verify b t).nv = s.nv ∧
    (s.verify b t).pending = s.pending := by
  refine ⟨?_, ?_, ?_, ?_, ?_, ?_, ?_, ?_, ?_, ?_, ?_, ?_, ?_, ?_⟩
  all_goals
    unfold State.verify; simp

@[simp] theorem State.strikeEnd_frame (b : BellNo) (d : Drive) (r : Nat) :
    (s.strikeEnd b d r).timer = s.timer ∧ (s.strikeEnd b d r).clock = s.clock ∧ (s.strikeEnd b d r).ctl = s.ctl ∧
    (s.strikeEnd b d r).warn = s.warn ∧ (s.strikeEnd b d r).supply = s.supply ∧ (s.strikeEnd b d r).sweep = s.sweep ∧
    (s.strikeEnd b d r).slots = s.slots ∧ (s.strikeEnd b d r).tunes = s.tunes ∧ (s.strikeEnd b d r).nv = s.nv ∧
    (s.strikeEnd b d r).pending = s.pending := by
  refine ⟨?_, ?_, ?_, ?_, ?_, ?_, ?_, ?_, ?_, ?_⟩
  all_goals
    unfold State.strikeEnd; (repeat' split) <;> simp

@[simp] theorem State.pulseEnd_frame (b : BellNo) (d : Drive) (r : Nat) :
    (s.pulseEnd b d r).timer = s.timer ∧ (s.pulseEnd b d r).clock = s.clock ∧ (s.pulseEnd b d r).ctl = s.ctl ∧
    (s.pulseEnd b d r).warn = s.warn ∧ (s.pulseEnd b d r).supply = s.supply ∧ (s.pulseEnd b d r).sweep = s.sweep ∧
    (s.pulseEnd b d r).slots = s.slots ∧ (s.pulseEnd b d r).tunes = s.tunes ∧ (s.pulseEnd b d r).nv = s.nv ∧
    (s.pulseEnd b d r).pending = s.pending := by
  refine ⟨?_, ?_, ?_, ?_, ?_, ?_, ?_, ?_, ?_, ?_⟩
  all_goals
    unfold State.pulseEnd; (repeat' split) <;> simp

@[simp] theorem State.settleDue_frame (b : BellNo) (r : Nat) :
    (s.settleDue b r).timer = s.timer ∧ (s.settleDue b r).clock = s.clock ∧ (s.settleDue b r).ctl = s.ctl ∧
    (s.settleDue b r).warn = s.warn ∧ (s.settleDue b r).supply = s.supply ∧ (s.settleDue b r).sweep = s.sweep ∧
    (s.settleDue b r).slots = s.slots ∧ (s.settleDue b r).tunes = s.tunes ∧ (s.settleDue b r).nv = s.nv ∧
    (s.settleDue b r).pending = s.pending := by
  refine ⟨?_, ?_, ?_, ?_, ?_, ?_, ?_, ?_, ?_, ?_⟩
  all_goals
    unfold State.settleDue; dsimp only; (repeat' split) <;> simp

@[simp] theorem State.dispatchEntry_frame (e : Entry) :
    (s.dispatchEntry e).timer = s.timer ∧ (s.dispatchEntry e).clock = s.clock ∧ (s.dispatchEntry e).ctl = s.ctl ∧
    (s.dispatchEntry e).globals = s.globals ∧ (s.dispatchEntry e).bells = s.bells ∧ (s.dispatchEntry e).drive = s.drive ∧
    (s.dispatchEntry e).warn = s.warn ∧ (s.dispatchEntry e).supply = s.supply ∧ (s.dispatchEntry e).sweep = s.sweep ∧
    (s.dispatchEntry e).slots = s.slots ∧ (s.dispatchEntry e).tunes = s.tunes ∧ (s.dispatchEntry e).nv = s.nv ∧
    (s.dispatchEntry e).link = s.link ∧ (s.dispatchEntry e).pending = s.pending := by
  refine ⟨?_, ?_, ?_, ?_, ?_, ?_, ?_, ?_, ?_, ?_, ?_, ?_, ?_, ?_⟩
  all_goals
    unfold State.dispatchEntry; simp

@[simp] theorem State.energise_frame (e : Entry) :
    (s.energise e).timer = s.timer ∧ (s.energise e).clock = s.clock ∧ (s.energise e).ctl = s.ctl ∧
    (s.energise e).globals = s.globals ∧ (s.energise e).warn = s.warn ∧ (s.energise e).supply = s.supply ∧
    (s.energise e).sweep = s.sweep ∧ (s.energise e).slots = s.slots ∧ (s.energise e).tunes = s.tunes ∧ (s.energise e).nv = s.nv ∧
    (s.energise e).pending = s.pending := by
  refine ⟨?_, ?_, ?_, ?_, ?_, ?_, ?_, ?_, ?_, ?_, ?_⟩
  all_goals
    unfold State.energise; dsimp only; simp

@[simp] theorem State.earlyClose_frame (b : BellNo) (t : Nat) :
    (s.earlyClose b t).timer = s.timer ∧ (s.earlyClose b t).clock = s.clock ∧ (s.earlyClose b t).ctl = s.ctl ∧
    (s.earlyClose b t).globals = s.globals ∧ (s.earlyClose b t).drive = s.drive ∧ (s.earlyClose b t).warn = s.warn ∧
    (s.earlyClose b t).supply = s.supply ∧ (s.earlyClose b t).sweep = s.sweep ∧ (s.earlyClose b t).slots = s.slots ∧
    (s.earlyClose b t).tunes = s.tunes ∧ (s.earlyClose b t).nv = s.nv ∧ (s.earlyClose b t).pending = s.pending := by
  refine ⟨?_, ?_, ?_, ?_, ?_, ?_, ?_, ?_, ?_, ?_, ?_, ?_⟩
  all_goals
    unfold State.earlyClose; simp

@[simp] theorem State.driveStart_frame (e : Entry) :
    (s.driveStart e).timer = s.timer ∧ (s.driveStart e).clock = s.clock ∧ (s.driveStart e).ctl = s.ctl ∧
    (s.driveStart e).globals = s.globals ∧ (s.driveStart e).warn = s.warn ∧ (s.driveStart e).supply = s.supply ∧
    (s.driveStart e).sweep = s.sweep ∧ (s.driveStart e).slots = s.slots ∧ (s.driveStart e).tunes = s.tunes ∧
    (s.driveStart e).nv = s.nv ∧ (s.driveStart e).pending = s.pending := by
  refine ⟨?_, ?_, ?_, ?_, ?_, ?_, ?_, ?_, ?_, ?_, ?_⟩
  all_goals
    unfold State.driveStart; dsimp only; (repeat' split) <;> simp

@[simp] theorem State.pulseStart_frame (b : BellNo) :
    (s.pulseStart b).timer = s.timer ∧ (s.pulseStart b).clock = s.clock ∧ (s.pulseStart b).ctl = s.ctl ∧
    (s.pulseStart b).globals = s.globals ∧ (s.pulseStart b).warn = s.warn ∧ (s.pulseStart b).supply = s.supply ∧
    (s.pulseStart b).sweep = s.sweep ∧ (s.pulseStart b).slots = s.slots ∧ (s.pulseStart b).tunes = s.tunes ∧
    (s.pulseStart b).nv = s.nv ∧ (s.pulseStart b).pending = s.pending := by
  refine ⟨?_, ?_, ?_, ?_, ?_, ?_, ?_, ?_, ?_, ?_, ?_⟩
  all_goals
    unfold State.pulseStart; dsimp only; simp

@[simp] theorem State.deferEntry_frame (e : Entry) :
    (s.deferEntry e).timer = s.timer ∧ (s.deferEntry e).clock = s.clock ∧ (s.deferEntry e).ctl = s.ctl ∧
    (s.deferEntry e).globals = s.globals ∧ (s.deferEntry e).drive = s.drive ∧ (s.deferEntry e).warn = s.warn ∧
    (s.deferEntry e).supply = s.supply ∧ (s.deferEntry e).sweep = s.sweep ∧ (s.deferEntry e).slots = s.slots ∧
    (s.deferEntry e).tunes = s.tunes ∧ (s.deferEntry e).nv = s.nv ∧ (s.deferEntry e).pending = s.pending := by
  refine ⟨?_, ?_, ?_, ?_, ?_, ?_, ?_, ?_, ?_, ?_, ?_, ?_⟩
  all_goals
    unfold State.deferEntry; dsimp only; (repeat' split) <;> simp

@[simp] theorem State.takeEntry_frame (r : Nat) (e : Entry) :
    (s.takeEntry r e).timer = s.timer ∧ (s.takeEntry r e).clock = s.clock ∧ (s.takeEntry r e).ctl = s.ctl ∧
    (s.takeEntry r e).warn = s.warn ∧ (s.takeEntry r e).supply = s.supply ∧ (s.takeEntry r e).sweep = s.sweep ∧
    (s.takeEntry r e).slots = s.slots ∧ (s.takeEntry r e).tunes = s.tunes ∧ (s.takeEntry r e).nv = s.nv ∧
    (s.takeEntry r e).pending = s.pending := by
  refine ⟨?_, ?_, ?_, ?_, ?_, ?_, ?_, ?_, ?_, ?_⟩
  all_goals
    unfold State.takeEntry; dsimp only; (repeat' split) <;> simp

@[simp] theorem State.offerReport_frame (r : NoteReason) (e : Entry) :
    (s.offerReport r e).timer = s.timer ∧ (s.offerReport r e).clock = s.clock ∧ (s.offerReport r e).ctl = s.ctl ∧
    (s.offerReport r e).globals = s.globals ∧ (s.offerReport r e).bells = s.bells ∧ (s.offerReport r e).drive = s.drive ∧
    (s.offerReport r e).warn = s.warn ∧ (s.offerReport r e).supply = s.supply ∧ (s.offerReport r e).sweep = s.sweep ∧
    (s.offerReport r e).sched = s.sched ∧ (s.offerReport r e).engine = s.engine ∧ (s.offerReport r e).slots = s.slots ∧
    (s.offerReport r e).tunes = s.tunes ∧ (s.offerReport r e).nv = s.nv ∧ (s.offerReport r e).pending = s.pending := by
  refine ⟨?_, ?_, ?_, ?_, ?_, ?_, ?_, ?_, ?_, ?_, ?_, ?_, ?_, ?_, ?_⟩
  all_goals
    unfold State.offerReport; (repeat' split) <;> simp

@[simp] theorem State.insert_frame (e : Entry) (o : List Entry) (r : List Entry) :
    (s.insert e o r).timer = s.timer ∧ (s.insert e o r).clock = s.clock ∧ (s.insert e o r).ctl = s.ctl ∧
    (s.insert e o r).globals = s.globals ∧ (s.insert e o r).bells = s.bells ∧ (s.insert e o r).drive = s.drive ∧
    (s.insert e o r).warn = s.warn ∧ (s.insert e o r).supply = s.supply ∧ (s.insert e o r).sweep = s.sweep ∧
    (s.insert e o r).slots = s.slots ∧ (s.insert e o r).tunes = s.tunes ∧ (s.insert e o r).nv = s.nv ∧
    (s.insert e o r).pending = s.pending := by
  refine ⟨?_, ?_, ?_, ?_, ?_, ?_, ?_, ?_, ?_, ?_, ?_, ?_, ?_⟩
  · unfold State.insert; dsimp only
    simp only [State.grantSlots_frame]
    exact foldl_keeps (fun s : State => s.timer) (fun s a => by simp) _ _
  · unfold State.insert; dsimp only
    simp only [State.grantSlots_frame]
    exact foldl_keeps (fun s : State => s.clock) (fun s a => by simp) _ _
  · unfold State.insert; dsimp only
    simp only [State.grantSlots_frame]
    exact foldl_keeps (fun s : State => s.ctl) (fun s a => by simp) _ _
  · unfold State.insert; dsimp only
    simp only [State.grantSlots_frame]
    exact foldl_keeps (fun s : State => s.globals) (fun s a => by simp) _ _
  · unfold State.insert; dsimp only
    simp only [State.grantSlots_frame]
    exact foldl_keeps (fun s : State => s.bells) (fun s a => by simp) _ _
  · unfold State.insert; dsimp only
    simp only [State.grantSlots_frame]
    exact foldl_keeps (fun s : State => s.drive) (fun s a => by simp) _ _
  · unfold State.insert; dsimp only
    simp only [State.grantSlots_frame]
    exact foldl_keeps (fun s : State => s.warn) (fun s a => by simp) _ _
  · unfold State.insert; dsimp only
    simp only [State.grantSlots_frame]
    exact foldl_keeps (fun s : State => s.supply) (fun s a => by simp) _ _
  · unfold State.insert; dsimp only
    simp only [State.grantSlots_frame]
    exact foldl_keeps (fun s : State => s.sweep) (fun s a => by simp) _ _
  · unfold State.insert; dsimp only
    simp only [State.grantSlots_frame]
    exact foldl_keeps (fun s : State => s.slots) (fun s a => by simp) _ _
  · unfold State.insert; dsimp only
    simp only [State.grantSlots_frame]
    exact foldl_keeps (fun s : State => s.tunes) (fun s a => by simp) _ _
  · unfold State.insert; dsimp only
    simp only [State.grantSlots_frame]
    exact foldl_keeps (fun s : State => s.nv) (fun s a => by simp) _ _
  · unfold State.insert; dsimp only
    simp only [State.grantSlots_frame]
    exact foldl_keeps (fun s : State => s.pending) (fun s a => by simp) _ _

@[simp] theorem State.offerPlace_frame (e : Entry) :
    ((s.offerPlace e).2).timer = s.timer ∧ ((s.offerPlace e).2).clock = s.clock ∧ ((s.offerPlace e).2).ctl = s.ctl ∧
    ((s.offerPlace e).2).globals = s.globals ∧ ((s.offerPlace e).2).bells = s.bells ∧ ((s.offerPlace e).2).drive = s.drive ∧
    ((s.offerPlace e).2).warn = s.warn ∧ ((s.offerPlace e).2).supply = s.supply ∧ ((s.offerPlace e).2).sweep = s.sweep ∧
    ((s.offerPlace e).2).slots = s.slots ∧ ((s.offerPlace e).2).tunes = s.tunes ∧ ((s.offerPlace e).2).nv = s.nv ∧
    ((s.offerPlace e).2).pending = s.pending := by
  refine ⟨?_, ?_, ?_, ?_, ?_, ?_, ?_, ?_, ?_, ?_, ?_, ?_, ?_⟩
  all_goals
    unfold State.offerPlace; dsimp only; (repeat' split) <;> simp

@[simp] theorem State.offer_frame (o : Offer) :
    ((s.offer o).2).timer = s.timer ∧ ((s.offer o).2).clock = s.clock ∧ ((s.offer o).2).ctl = s.ctl ∧
    ((s.offer o).2).globals = s.globals ∧ ((s.offer o).2).bells = s.bells ∧ ((s.offer o).2).drive = s.drive ∧
    ((s.offer o).2).warn = s.warn ∧ ((s.offer o).2).supply = s.supply ∧ ((s.offer o).2).sweep = s.sweep ∧
    ((s.offer o).2).slots = s.slots ∧ ((s.offer o).2).tunes = s.tunes ∧ ((s.offer o).2).nv = s.nv ∧
    ((s.offer o).2).pending = s.pending := by
  refine ⟨?_, ?_, ?_, ?_, ?_, ?_, ?_, ?_, ?_, ?_, ?_, ?_, ?_⟩
  all_goals
    unfold State.offer; dsimp only; (repeat' split) <;> simp

@[simp] theorem State.playerOffer_frame (p : PlayerNo) (b : BellNo) (t : Int) (d pr i : Nat) :
    ((s.playerOffer p b t d pr i).2).timer = s.timer ∧ ((s.playerOffer p b t d pr i).2).clock = s.clock ∧
    ((s.playerOffer p b t d pr i).2).ctl = s.ctl ∧ ((s.playerOffer p b t d pr i).2).globals = s.globals ∧
    ((s.playerOffer p b t d pr i).2).bells = s.bells ∧ ((s.playerOffer p b t d pr i).2).drive = s.drive ∧
    ((s.playerOffer p b t d pr i).2).warn = s.warn ∧ ((s.playerOffer p b t d pr i).2).supply = s.supply ∧
    ((s.playerOffer p b t d pr i).2).sweep = s.sweep ∧ ((s.playerOffer p b t d pr i).2).slots = s.slots ∧
    ((s.playerOffer p b t d pr i).2).tunes = s.tunes ∧ ((s.playerOffer p b t d pr i).2).nv = s.nv ∧
    ((s.playerOffer p b t d pr i).2).pending = s.pending := by
  refine ⟨?_, ?_, ?_, ?_, ?_, ?_, ?_, ?_, ?_, ?_, ?_, ?_, ?_⟩
  all_goals
    unfold State.playerOffer; (repeat' split) <;> simp

@[simp] theorem State.discardPlay_frame (i : Nat) :
    (s.discardPlay i).timer = s.timer ∧ (s.discardPlay i).clock = s.clock ∧ (s.discardPlay i).ctl = s.ctl ∧
    (s.discardPlay i).globals = s.globals ∧ (s.discardPlay i).drive = s.drive ∧ (s.discardPlay i).warn = s.warn ∧
    (s.discardPlay i).supply = s.supply ∧ (s.discardPlay i).sweep = s.sweep ∧ (s.discardPlay i).slots = s.slots ∧
    (s.discardPlay i).tunes = s.tunes ∧ (s.discardPlay i).nv = s.nv ∧ (s.discardPlay i).pending = s.pending := by
  refine ⟨?_, ?_, ?_, ?_, ?_, ?_, ?_, ?_, ?_, ?_, ?_, ?_⟩
  all_goals
    unfold State.discardPlay; dsimp only; simp

@[simp] theorem State.releaseVersion_frame (k : PlayKind) :
    (s.releaseVersion k).timer = s.timer ∧ (s.releaseVersion k).clock = s.clock ∧ (s.releaseVersion k).ctl = s.ctl ∧
    (s.releaseVersion k).globals = s.globals ∧ (s.releaseVersion k).bells = s.bells ∧ (s.releaseVersion k).drive = s.drive ∧
    (s.releaseVersion k).warn = s.warn ∧ (s.releaseVersion k).supply = s.supply ∧ (s.releaseVersion k).sweep = s.sweep ∧
    (s.releaseVersion k).sched = s.sched ∧ (s.releaseVersion k).engine = s.engine ∧ (s.releaseVersion k).slots = s.slots ∧
    (s.releaseVersion k).nv = s.nv ∧ (s.releaseVersion k).link = s.link ∧ (s.releaseVersion k).pending = s.pending := by
  refine ⟨?_, ?_, ?_, ?_, ?_, ?_, ?_, ?_, ?_, ?_, ?_, ?_, ?_, ?_, ?_⟩
  all_goals
    unfold State.releaseVersion; (repeat' split) <;> simp

@[simp] theorem State.finish_frame (p : Play) (o : PlayOutcome) :
    (s.finish p o).timer = s.timer ∧ (s.finish p o).clock = s.clock ∧ (s.finish p o).ctl = s.ctl ∧
    (s.finish p o).globals = s.globals ∧ (s.finish p o).bells = s.bells ∧ (s.finish p o).drive = s.drive ∧
    (s.finish p o).warn = s.warn ∧ (s.finish p o).supply = s.supply ∧ (s.finish p o).sweep = s.sweep ∧
    (s.finish p o).sched = s.sched ∧ (s.finish p o).engine = s.engine ∧ (s.finish p o).slots = s.slots ∧ (s.finish p o).nv = s.nv ∧
    (s.finish p o).pending = s.pending := by
  refine ⟨?_, ?_, ?_, ?_, ?_, ?_, ?_, ?_, ?_, ?_, ?_, ?_, ?_, ?_⟩
  all_goals
    unfold State.finish; simp

@[simp] theorem State.endPlay_frame (p : PlayerNo) (o : PlayOutcome) :
    (s.endPlay p o).timer = s.timer ∧ (s.endPlay p o).clock = s.clock ∧ (s.endPlay p o).ctl = s.ctl ∧
    (s.endPlay p o).globals = s.globals ∧ (s.endPlay p o).bells = s.bells ∧ (s.endPlay p o).drive = s.drive ∧
    (s.endPlay p o).warn = s.warn ∧ (s.endPlay p o).supply = s.supply ∧ (s.endPlay p o).sweep = s.sweep ∧
    (s.endPlay p o).sched = s.sched ∧ (s.endPlay p o).slots = s.slots ∧ (s.endPlay p o).nv = s.nv ∧
    (s.endPlay p o).pending = s.pending := by
  refine ⟨?_, ?_, ?_, ?_, ?_, ?_, ?_, ?_, ?_, ?_, ?_, ?_, ?_⟩
  all_goals
    unfold State.endPlay; (repeat' split) <;> simp

@[simp] theorem State.startPlay_frame (p : PlayerNo) (q : Play) :
    (s.startPlay p q).timer = s.timer ∧ (s.startPlay p q).clock = s.clock ∧ (s.startPlay p q).ctl = s.ctl ∧
    (s.startPlay p q).globals = s.globals ∧ (s.startPlay p q).bells = s.bells ∧ (s.startPlay p q).drive = s.drive ∧
    (s.startPlay p q).warn = s.warn ∧ (s.startPlay p q).supply = s.supply ∧ (s.startPlay p q).sweep = s.sweep ∧
    (s.startPlay p q).sched = s.sched ∧ (s.startPlay p q).slots = s.slots ∧ (s.startPlay p q).nv = s.nv ∧
    (s.startPlay p q).pending = s.pending := by
  refine ⟨?_, ?_, ?_, ?_, ?_, ?_, ?_, ?_, ?_, ?_, ?_, ?_, ?_⟩
  all_goals
    unfold State.startPlay; dsimp only; (repeat' split) <;> simp

@[simp] theorem State.drainIfDone_frame (p : PlayerNo) :
    (s.drainIfDone p).timer = s.timer ∧ (s.drainIfDone p).clock = s.clock ∧ (s.drainIfDone p).ctl = s.ctl ∧
    (s.drainIfDone p).globals = s.globals ∧ (s.drainIfDone p).bells = s.bells ∧ (s.drainIfDone p).drive = s.drive ∧
    (s.drainIfDone p).warn = s.warn ∧ (s.drainIfDone p).supply = s.supply ∧ (s.drainIfDone p).sweep = s.sweep ∧
    (s.drainIfDone p).sched = s.sched ∧ (s.drainIfDone p).slots = s.slots ∧ (s.drainIfDone p).tunes = s.tunes ∧
    (s.drainIfDone p).nv = s.nv ∧ (s.drainIfDone p).link = s.link ∧ (s.drainIfDone p).pending = s.pending := by
  refine ⟨?_, ?_, ?_, ?_, ?_, ?_, ?_, ?_, ?_, ?_, ?_, ?_, ?_, ?_, ?_⟩
  all_goals
    unfold State.drainIfDone; (repeat' split) <;> simp

@[simp] theorem State.takeOutcome_frame (p : PlayerNo) (i : Nat) (o : OfferOutcome) :
    (s.takeOutcome p i o).timer = s.timer ∧ (s.takeOutcome p i o).clock = s.clock ∧ (s.takeOutcome p i o).ctl = s.ctl ∧
    (s.takeOutcome p i o).globals = s.globals ∧ (s.takeOutcome p i o).bells = s.bells ∧ (s.takeOutcome p i o).drive = s.drive ∧
    (s.takeOutcome p i o).warn = s.warn ∧ (s.takeOutcome p i o).supply = s.supply ∧ (s.takeOutcome p i o).sweep = s.sweep ∧
    (s.takeOutcome p i o).sched = s.sched ∧ (s.takeOutcome p i o).slots = s.slots ∧ (s.takeOutcome p i o).tunes = s.tunes ∧
    (s.takeOutcome p i o).nv = s.nv ∧ (s.takeOutcome p i o).link = s.link ∧ (s.takeOutcome p i o).pending = s.pending := by
  refine ⟨?_, ?_, ?_, ?_, ?_, ?_, ?_, ?_, ?_, ?_, ?_, ?_, ?_, ?_, ?_⟩
  all_goals
    unfold State.takeOutcome; simp

@[simp] theorem State.feedOne_frame (p : PlayerNo) :
    ((s.feedOne p).2).timer = s.timer ∧ ((s.feedOne p).2).clock = s.clock ∧ ((s.feedOne p).2).ctl = s.ctl ∧
    ((s.feedOne p).2).globals = s.globals ∧ ((s.feedOne p).2).bells = s.bells ∧ ((s.feedOne p).2).drive = s.drive ∧
    ((s.feedOne p).2).warn = s.warn ∧ ((s.feedOne p).2).supply = s.supply ∧ ((s.feedOne p).2).sweep = s.sweep ∧
    ((s.feedOne p).2).slots = s.slots ∧ ((s.feedOne p).2).tunes = s.tunes ∧ ((s.feedOne p).2).nv = s.nv ∧
    ((s.feedOne p).2).pending = s.pending := by
  refine ⟨?_, ?_, ?_, ?_, ?_, ?_, ?_, ?_, ?_, ?_, ?_, ?_, ?_⟩
  all_goals
    unfold State.feedOne; dsimp only; (repeat' split) <;> simp

@[simp] theorem State.settleFrom_frame (n : Nat) (a : List PlayerNo) :
    ((State.settleFrom n a s)).timer = s.timer ∧ ((State.settleFrom n a s)).clock = s.clock ∧ ((State.settleFrom n a s)).ctl = s.ctl ∧
    ((State.settleFrom n a s)).globals = s.globals ∧ ((State.settleFrom n a s)).bells = s.bells ∧
    ((State.settleFrom n a s)).drive = s.drive ∧ ((State.settleFrom n a s)).warn = s.warn ∧
    ((State.settleFrom n a s)).supply = s.supply ∧ ((State.settleFrom n a s)).sweep = s.sweep ∧
    ((State.settleFrom n a s)).slots = s.slots ∧ ((State.settleFrom n a s)).nv = s.nv ∧
    ((State.settleFrom n a s)).pending = s.pending := by
  refine ⟨?_, ?_, ?_, ?_, ?_, ?_, ?_, ?_, ?_, ?_, ?_, ?_⟩
  all_goals
    induction n generalizing a s with
    | zero => rfl
    | succ n ih => unfold State.settleFrom; dsimp only; (repeat' split) <;> simp [ih]

@[simp] theorem State.settleWith_frame (a : List PlayerNo) :
    (s.settleWith a).timer = s.timer ∧ (s.settleWith a).clock = s.clock ∧ (s.settleWith a).ctl = s.ctl ∧
    (s.settleWith a).globals = s.globals ∧ (s.settleWith a).bells = s.bells ∧ (s.settleWith a).drive = s.drive ∧
    (s.settleWith a).warn = s.warn ∧ (s.settleWith a).supply = s.supply ∧ (s.settleWith a).sweep = s.sweep ∧
    (s.settleWith a).slots = s.slots ∧ (s.settleWith a).nv = s.nv ∧ (s.settleWith a).pending = s.pending := by
  refine ⟨?_, ?_, ?_, ?_, ?_, ?_, ?_, ?_, ?_, ?_, ?_, ?_⟩
  all_goals
    unfold State.settleWith; simp

@[simp] theorem State.settle_frame :
    (s.settle).timer = s.timer ∧ (s.settle).clock = s.clock ∧ (s.settle).ctl = s.ctl ∧ (s.settle).globals = s.globals ∧
    (s.settle).bells = s.bells ∧ (s.settle).drive = s.drive ∧ (s.settle).warn = s.warn ∧ (s.settle).supply = s.supply ∧
    (s.settle).sweep = s.sweep ∧ (s.settle).slots = s.slots ∧ (s.settle).nv = s.nv ∧ (s.settle).pending = s.pending := by
  refine ⟨?_, ?_, ?_, ?_, ?_, ?_, ?_, ?_, ?_, ?_, ?_, ?_⟩
  all_goals
    unfold State.settle; simp

@[simp] theorem State.enqueue_frame (q : Play) :
    ((s.enqueue q).2).timer = s.timer ∧ ((s.enqueue q).2).clock = s.clock ∧ ((s.enqueue q).2).ctl = s.ctl ∧
    ((s.enqueue q).2).globals = s.globals ∧ ((s.enqueue q).2).bells = s.bells ∧ ((s.enqueue q).2).drive = s.drive ∧
    ((s.enqueue q).2).warn = s.warn ∧ ((s.enqueue q).2).supply = s.supply ∧ ((s.enqueue q).2).sweep = s.sweep ∧
    ((s.enqueue q).2).sched = s.sched ∧ ((s.enqueue q).2).slots = s.slots ∧ ((s.enqueue q).2).nv = s.nv ∧
    ((s.enqueue q).2).pending = s.pending := by
  refine ⟨?_, ?_, ?_, ?_, ?_, ?_, ?_, ?_, ?_, ?_, ?_, ?_, ?_⟩
  all_goals
    unfold State.enqueue; (repeat' split) <;> simp

@[simp] theorem State.preempt_frame (p : PlayerNo) (v q : Play) :
    ((s.preempt p v q).2).timer = s.timer ∧ ((s.preempt p v q).2).clock = s.clock ∧ ((s.preempt p v q).2).ctl = s.ctl ∧
    ((s.preempt p v q).2).globals = s.globals ∧ ((s.preempt p v q).2).drive = s.drive ∧ ((s.preempt p v q).2).warn = s.warn ∧
    ((s.preempt p v q).2).supply = s.supply ∧ ((s.preempt p v q).2).sweep = s.sweep ∧ ((s.preempt p v q).2).slots = s.slots ∧
    ((s.preempt p v q).2).tunes = s.tunes ∧ ((s.preempt p v q).2).nv = s.nv ∧ ((s.preempt p v q).2).pending = s.pending := by
  refine ⟨?_, ?_, ?_, ?_, ?_, ?_, ?_, ?_, ?_, ?_, ?_, ?_⟩
  all_goals
    unfold State.preempt; dsimp only; simp

@[simp] theorem State.launch_frame (l : Launch) :
    ((s.launch l).2.2.2).timer = s.timer ∧ ((s.launch l).2.2.2).clock = s.clock ∧ ((s.launch l).2.2.2).ctl = s.ctl ∧
    ((s.launch l).2.2.2).globals = s.globals ∧ ((s.launch l).2.2.2).drive = s.drive ∧ ((s.launch l).2.2.2).warn = s.warn ∧
    ((s.launch l).2.2.2).supply = s.supply ∧ ((s.launch l).2.2.2).sweep = s.sweep ∧ ((s.launch l).2.2.2).slots = s.slots ∧
    ((s.launch l).2.2.2).nv = s.nv ∧ ((s.launch l).2.2.2).pending = s.pending := by
  refine ⟨?_, ?_, ?_, ?_, ?_, ?_, ?_, ?_, ?_, ?_, ?_⟩
  all_goals
    unfold State.launch; dsimp only; (repeat' split) <;> simp

@[simp] theorem State.stopRunning_frame (p : PlayerNo) (h : Play → Bool) :
    ((s.stopRunning p h).2).timer = s.timer ∧ ((s.stopRunning p h).2).clock = s.clock ∧ ((s.stopRunning p h).2).ctl = s.ctl ∧
    ((s.stopRunning p h).2).globals = s.globals ∧ ((s.stopRunning p h).2).drive = s.drive ∧ ((s.stopRunning p h).2).warn = s.warn ∧
    ((s.stopRunning p h).2).supply = s.supply ∧ ((s.stopRunning p h).2).sweep = s.sweep ∧ ((s.stopRunning p h).2).slots = s.slots ∧
    ((s.stopRunning p h).2).nv = s.nv ∧ ((s.stopRunning p h).2).pending = s.pending := by
  refine ⟨?_, ?_, ?_, ?_, ?_, ?_, ?_, ?_, ?_, ?_, ?_⟩
  all_goals
    unfold State.stopRunning; dsimp only; (repeat' split) <;> simp

@[simp] theorem State.stopIncoming_frame (p : PlayerNo) (h : Play → Bool) :
    ((s.stopIncoming p h).2).timer = s.timer ∧ ((s.stopIncoming p h).2).clock = s.clock ∧ ((s.stopIncoming p h).2).ctl = s.ctl ∧
    ((s.stopIncoming p h).2).globals = s.globals ∧ ((s.stopIncoming p h).2).bells = s.bells ∧
    ((s.stopIncoming p h).2).drive = s.drive ∧ ((s.stopIncoming p h).2).warn = s.warn ∧ ((s.stopIncoming p h).2).supply = s.supply ∧
    ((s.stopIncoming p h).2).sweep = s.sweep ∧ ((s.stopIncoming p h).2).sched = s.sched ∧ ((s.stopIncoming p h).2).slots = s.slots ∧
    ((s.stopIncoming p h).2).nv = s.nv ∧ ((s.stopIncoming p h).2).pending = s.pending := by
  refine ⟨?_, ?_, ?_, ?_, ?_, ?_, ?_, ?_, ?_, ?_, ?_, ?_, ?_⟩
  all_goals
    unfold State.stopIncoming; (repeat' split) <;> simp

@[simp] theorem State.stopWaiting_frame (h : Play → Bool) :
    ((s.stopWaiting h).2).timer = s.timer ∧ ((s.stopWaiting h).2).clock = s.clock ∧ ((s.stopWaiting h).2).ctl = s.ctl ∧
    ((s.stopWaiting h).2).globals = s.globals ∧ ((s.stopWaiting h).2).bells = s.bells ∧ ((s.stopWaiting h).2).drive = s.drive ∧
    ((s.stopWaiting h).2).warn = s.warn ∧ ((s.stopWaiting h).2).supply = s.supply ∧ ((s.stopWaiting h).2).sweep = s.sweep ∧
    ((s.stopWaiting h).2).sched = s.sched ∧ ((s.stopWaiting h).2).slots = s.slots ∧ ((s.stopWaiting h).2).nv = s.nv ∧
    ((s.stopWaiting h).2).pending = s.pending := by
  refine ⟨?_, ?_, ?_, ?_, ?_, ?_, ?_, ?_, ?_, ?_, ?_, ?_, ?_⟩
  · exact foldl_keeps (fun s : State => s.timer) (fun s a => by simp) _ _
  · exact foldl_keeps (fun s : State => s.clock) (fun s a => by simp) _ _
  · exact foldl_keeps (fun s : State => s.ctl) (fun s a => by simp) _ _
  · exact foldl_keeps (fun s : State => s.globals) (fun s a => by simp) _ _
  · exact foldl_keeps (fun s : State => s.bells) (fun s a => by simp) _ _
  · exact foldl_keeps (fun s : State => s.drive) (fun s a => by simp) _ _
  · exact foldl_keeps (fun s : State => s.warn) (fun s a => by simp) _ _
  · exact foldl_keeps (fun s : State => s.supply) (fun s a => by simp) _ _
  · exact foldl_keeps (fun s : State => s.sweep) (fun s a => by simp) _ _
  · exact foldl_keeps (fun s : State => s.sched) (fun s a => by simp) _ _
  · exact foldl_keeps (fun s : State => s.slots) (fun s a => by simp) _ _
  · exact foldl_keeps (fun s : State => s.nv) (fun s a => by simp) _ _
  · exact foldl_keeps (fun s : State => s.pending) (fun s a => by simp) _ _

@[simp] theorem State.stopPlays_frame (h : Play → Bool) :
    ((s.stopPlays h).2).timer = s.timer ∧ ((s.stopPlays h).2).clock = s.clock ∧ ((s.stopPlays h).2).ctl = s.ctl ∧
    ((s.stopPlays h).2).globals = s.globals ∧ ((s.stopPlays h).2).drive = s.drive ∧ ((s.stopPlays h).2).warn = s.warn ∧
    ((s.stopPlays h).2).supply = s.supply ∧ ((s.stopPlays h).2).sweep = s.sweep ∧ ((s.stopPlays h).2).slots = s.slots ∧
    ((s.stopPlays h).2).nv = s.nv ∧ ((s.stopPlays h).2).pending = s.pending := by
  refine ⟨?_, ?_, ?_, ?_, ?_, ?_, ?_, ?_, ?_, ?_, ?_⟩
  all_goals
    unfold State.stopPlays; dsimp only; simp

@[simp] theorem State.flushPlayer_frame (p : PlayerNo) (o : PlayOutcome) :
    (s.flushPlayer p o).timer = s.timer ∧ (s.flushPlayer p o).clock = s.clock ∧ (s.flushPlayer p o).ctl = s.ctl ∧
    (s.flushPlayer p o).globals = s.globals ∧ (s.flushPlayer p o).bells = s.bells ∧ (s.flushPlayer p o).drive = s.drive ∧
    (s.flushPlayer p o).warn = s.warn ∧ (s.flushPlayer p o).supply = s.supply ∧ (s.flushPlayer p o).sweep = s.sweep ∧
    (s.flushPlayer p o).sched = s.sched ∧ (s.flushPlayer p o).slots = s.slots ∧ (s.flushPlayer p o).nv = s.nv ∧
    (s.flushPlayer p o).pending = s.pending := by
  refine ⟨?_, ?_, ?_, ?_, ?_, ?_, ?_, ?_, ?_, ?_, ?_, ?_, ?_⟩
  all_goals
    unfold State.flushPlayer; dsimp only; (repeat' split) <;> simp

@[simp] theorem State.flushPlays_frame (o : PlayOutcome) :
    (s.flushPlays o).timer = s.timer ∧ (s.flushPlays o).clock = s.clock ∧ (s.flushPlays o).ctl = s.ctl ∧
    (s.flushPlays o).globals = s.globals ∧ (s.flushPlays o).bells = s.bells ∧ (s.flushPlays o).drive = s.drive ∧
    (s.flushPlays o).warn = s.warn ∧ (s.flushPlays o).supply = s.supply ∧ (s.flushPlays o).sweep = s.sweep ∧
    (s.flushPlays o).sched = s.sched ∧ (s.flushPlays o).slots = s.slots ∧ (s.flushPlays o).nv = s.nv ∧
    (s.flushPlays o).pending = s.pending := by
  refine ⟨?_, ?_, ?_, ?_, ?_, ?_, ?_, ?_, ?_, ?_, ?_, ?_, ?_⟩
  · unfold State.flushPlays; dsimp only
    exact (foldl_keeps (fun s : State => s.timer) (fun s a => by simp) _ _).trans (by simp)
  · unfold State.flushPlays; dsimp only
    exact (foldl_keeps (fun s : State => s.clock) (fun s a => by simp) _ _).trans (by simp)
  · unfold State.flushPlays; dsimp only
    exact (foldl_keeps (fun s : State => s.ctl) (fun s a => by simp) _ _).trans (by simp)
  · unfold State.flushPlays; dsimp only
    exact (foldl_keeps (fun s : State => s.globals) (fun s a => by simp) _ _).trans (by simp)
  · unfold State.flushPlays; dsimp only
    exact (foldl_keeps (fun s : State => s.bells) (fun s a => by simp) _ _).trans (by simp)
  · unfold State.flushPlays; dsimp only
    exact (foldl_keeps (fun s : State => s.drive) (fun s a => by simp) _ _).trans (by simp)
  · unfold State.flushPlays; dsimp only
    exact (foldl_keeps (fun s : State => s.warn) (fun s a => by simp) _ _).trans (by simp)
  · unfold State.flushPlays; dsimp only
    exact (foldl_keeps (fun s : State => s.supply) (fun s a => by simp) _ _).trans (by simp)
  · unfold State.flushPlays; dsimp only
    exact (foldl_keeps (fun s : State => s.sweep) (fun s a => by simp) _ _).trans (by simp)
  · unfold State.flushPlays; dsimp only
    exact (foldl_keeps (fun s : State => s.sched) (fun s a => by simp) _ _).trans (by simp)
  · unfold State.flushPlays; dsimp only
    exact (foldl_keeps (fun s : State => s.slots) (fun s a => by simp) _ _).trans (by simp)
  · unfold State.flushPlays; dsimp only
    exact (foldl_keeps (fun s : State => s.nv) (fun s a => by simp) _ _).trans (by simp)
  · unfold State.flushPlays; dsimp only
    exact (foldl_keeps (fun s : State => s.pending) (fun s a => by simp) _ _).trans (by simp)

@[simp] theorem State.cutStrikes_frame :
    (s.cutStrikes).timer = s.timer ∧ (s.cutStrikes).clock = s.clock ∧ (s.cutStrikes).ctl = s.ctl ∧ (s.cutStrikes).warn = s.warn ∧
    (s.cutStrikes).supply = s.supply ∧ (s.cutStrikes).sweep = s.sweep ∧ (s.cutStrikes).sched = s.sched ∧
    (s.cutStrikes).slots = s.slots ∧ (s.cutStrikes).tunes = s.tunes ∧ (s.cutStrikes).nv = s.nv ∧ (s.cutStrikes).pending = s.pending := by
  refine ⟨?_, ?_, ?_, ?_, ?_, ?_, ?_, ?_, ?_, ?_, ?_⟩
  · exact foldl_keeps (fun s : State => s.timer) (fun s a => by dsimp only; (repeat' split) <;> simp) _ _
  · exact foldl_keeps (fun s : State => s.clock) (fun s a => by dsimp only; (repeat' split) <;> simp) _ _
  · exact foldl_keeps (fun s : State => s.ctl) (fun s a => by dsimp only; (repeat' split) <;> simp) _ _
  · exact foldl_keeps (fun s : State => s.warn) (fun s a => by dsimp only; (repeat' split) <;> simp) _ _
  · exact foldl_keeps (fun s : State => s.supply) (fun s a => by dsimp only; (repeat' split) <;> simp) _ _
  · exact foldl_keeps (fun s : State => s.sweep) (fun s a => by dsimp only; (repeat' split) <;> simp) _ _
  · exact foldl_keeps (fun s : State => s.sched) (fun s a => by dsimp only; (repeat' split) <;> simp) _ _
  · exact foldl_keeps (fun s : State => s.slots) (fun s a => by dsimp only; (repeat' split) <;> simp) _ _
  · exact foldl_keeps (fun s : State => s.tunes) (fun s a => by dsimp only; (repeat' split) <;> simp) _ _
  · exact foldl_keeps (fun s : State => s.nv) (fun s a => by dsimp only; (repeat' split) <;> simp) _ _
  · exact foldl_keeps (fun s : State => s.pending) (fun s a => by dsimp only; (repeat' split) <;> simp) _ _

@[simp] theorem State.cutAll_frame :
    (s.cutAll).timer = s.timer ∧ (s.cutAll).clock = s.clock ∧ (s.cutAll).ctl = s.ctl ∧ (s.cutAll).warn = s.warn ∧
    (s.cutAll).supply = s.supply ∧ (s.cutAll).sweep = s.sweep ∧ (s.cutAll).sched = s.sched ∧ (s.cutAll).slots = s.slots ∧
    (s.cutAll).tunes = s.tunes ∧ (s.cutAll).nv = s.nv ∧ (s.cutAll).pending = s.pending := by
  refine ⟨?_, ?_, ?_, ?_, ?_, ?_, ?_, ?_, ?_, ?_, ?_⟩
  · exact foldl_keeps (fun s : State => s.timer) (fun s a => by simp) _ _
  · exact foldl_keeps (fun s : State => s.clock) (fun s a => by simp) _ _
  · exact foldl_keeps (fun s : State => s.ctl) (fun s a => by simp) _ _
  · exact foldl_keeps (fun s : State => s.warn) (fun s a => by simp) _ _
  · exact foldl_keeps (fun s : State => s.supply) (fun s a => by simp) _ _
  · exact foldl_keeps (fun s : State => s.sweep) (fun s a => by simp) _ _
  · exact foldl_keeps (fun s : State => s.sched) (fun s a => by simp) _ _
  · exact foldl_keeps (fun s : State => s.slots) (fun s a => by simp) _ _
  · exact foldl_keeps (fun s : State => s.tunes) (fun s a => by simp) _ _
  · exact foldl_keeps (fun s : State => s.nv) (fun s a => by simp) _ _
  · exact foldl_keeps (fun s : State => s.pending) (fun s a => by simp) _ _

@[simp] theorem State.modeCuts_frame (m : Mode) :
    (s.modeCuts m).timer = s.timer ∧ (s.modeCuts m).clock = s.clock ∧ (s.modeCuts m).ctl = s.ctl ∧ (s.modeCuts m).warn = s.warn ∧
    (s.modeCuts m).supply = s.supply ∧ (s.modeCuts m).sweep = s.sweep ∧ (s.modeCuts m).sched = s.sched ∧
    (s.modeCuts m).slots = s.slots ∧ (s.modeCuts m).tunes = s.tunes ∧ (s.modeCuts m).nv = s.nv ∧ (s.modeCuts m).pending = s.pending := by
  refine ⟨?_, ?_, ?_, ?_, ?_, ?_, ?_, ?_, ?_, ?_, ?_⟩
  all_goals
    cases m <;> simp [State.modeCuts]

@[simp] theorem State.flushQueue_frame :
    (s.flushQueue).timer = s.timer ∧ (s.flushQueue).clock = s.clock ∧ (s.flushQueue).ctl = s.ctl ∧
    (s.flushQueue).globals = s.globals ∧ (s.flushQueue).bells = s.bells ∧ (s.flushQueue).drive = s.drive ∧
    (s.flushQueue).warn = s.warn ∧ (s.flushQueue).supply = s.supply ∧ (s.flushQueue).sweep = s.sweep ∧
    (s.flushQueue).slots = s.slots ∧ (s.flushQueue).tunes = s.tunes ∧ (s.flushQueue).nv = s.nv ∧ (s.flushQueue).link = s.link ∧
    (s.flushQueue).pending = s.pending := by
  refine ⟨?_, ?_, ?_, ?_, ?_, ?_, ?_, ?_, ?_, ?_, ?_, ?_, ?_, ?_⟩
  all_goals
    unfold State.flushQueue; simp

@[simp] theorem State.quietPoints_frame :
    (s.quietPoints).timer = s.timer ∧ (s.quietPoints).clock = s.clock ∧ (s.quietPoints).ctl = s.ctl ∧
    (s.quietPoints).globals = s.globals ∧ (s.quietPoints).drive = s.drive ∧ (s.quietPoints).warn = s.warn ∧
    (s.quietPoints).supply = s.supply ∧ (s.quietPoints).sweep = s.sweep ∧ (s.quietPoints).sched = s.sched ∧
    (s.quietPoints).engine = s.engine ∧ (s.quietPoints).slots = s.slots ∧ (s.quietPoints).tunes = s.tunes ∧
    (s.quietPoints).nv = s.nv ∧ (s.quietPoints).pending = s.pending := by
  refine ⟨?_, ?_, ?_, ?_, ?_, ?_, ?_, ?_, ?_, ?_, ?_, ?_, ?_, ?_⟩
  · exact foldl_keeps (fun s : State => s.timer) (fun s a => by simp) _ _
  · exact foldl_keeps (fun s : State => s.clock) (fun s a => by simp) _ _
  · exact foldl_keeps (fun s : State => s.ctl) (fun s a => by simp) _ _
  · exact foldl_keeps (fun s : State => s.globals) (fun s a => by simp) _ _
  · exact foldl_keeps (fun s : State => s.drive) (fun s a => by simp) _ _
  · exact foldl_keeps (fun s : State => s.warn) (fun s a => by simp) _ _
  · exact foldl_keeps (fun s : State => s.supply) (fun s a => by simp) _ _
  · exact foldl_keeps (fun s : State => s.sweep) (fun s a => by simp) _ _
  · exact foldl_keeps (fun s : State => s.sched) (fun s a => by simp) _ _
  · exact foldl_keeps (fun s : State => s.engine) (fun s a => by simp) _ _
  · exact foldl_keeps (fun s : State => s.slots) (fun s a => by simp) _ _
  · exact foldl_keeps (fun s : State => s.tunes) (fun s a => by simp) _ _
  · exact foldl_keeps (fun s : State => s.nv) (fun s a => by simp) _ _
  · exact foldl_keeps (fun s : State => s.pending) (fun s a => by simp) _ _

@[simp] theorem State.enterMode_frame (m : Mode) (r : Option Mode) (c : ModeCause) :
    (s.enterMode m r c).timer = s.timer ∧ (s.enterMode m r c).clock = s.clock ∧ (s.enterMode m r c).warn = s.warn ∧
    (s.enterMode m r c).supply = s.supply ∧ (s.enterMode m r c).sweep = s.sweep ∧ (s.enterMode m r c).slots = s.slots ∧
    (s.enterMode m r c).nv = s.nv ∧ (s.enterMode m r c).pending = s.pending := by
  refine ⟨?_, ?_, ?_, ?_, ?_, ?_, ?_, ?_⟩
  all_goals
    unfold State.enterMode; dsimp only; (repeat' split) <;> simp

@[simp] theorem State.keyEvent_frame (a : Bool) :
    (s.keyEvent a).timer = s.timer ∧ (s.keyEvent a).clock = s.clock ∧ (s.keyEvent a).warn = s.warn ∧
    (s.keyEvent a).supply = s.supply ∧ (s.keyEvent a).sweep = s.sweep ∧ (s.keyEvent a).slots = s.slots ∧ (s.keyEvent a).nv = s.nv ∧
    (s.keyEvent a).pending = s.pending := by
  refine ⟨?_, ?_, ?_, ?_, ?_, ?_, ?_, ?_⟩
  all_goals
    unfold State.keyEvent; (repeat' split) <;> simp

@[simp] theorem State.causeRaised_frame :
    (s.causeRaised).timer = s.timer ∧ (s.causeRaised).clock = s.clock ∧ (s.causeRaised).warn = s.warn ∧
    (s.causeRaised).supply = s.supply ∧ (s.causeRaised).sweep = s.sweep ∧ (s.causeRaised).slots = s.slots ∧
    (s.causeRaised).nv = s.nv ∧ (s.causeRaised).pending = s.pending := by
  refine ⟨?_, ?_, ?_, ?_, ?_, ?_, ?_, ?_⟩
  all_goals
    unfold State.causeRaised; (repeat' split) <;> simp

@[simp] theorem State.causeCleared_frame :
    (s.causeCleared).timer = s.timer ∧ (s.causeCleared).clock = s.clock ∧ (s.causeCleared).warn = s.warn ∧
    (s.causeCleared).supply = s.supply ∧ (s.causeCleared).sweep = s.sweep ∧ (s.causeCleared).slots = s.slots ∧
    (s.causeCleared).nv = s.nv ∧ (s.causeCleared).pending = s.pending := by
  refine ⟨?_, ?_, ?_, ?_, ?_, ?_, ?_, ?_⟩
  all_goals
    unfold State.causeCleared; (repeat' split) <;> simp

@[simp] theorem State.setCauses_frame (c : Causes) (r : Bool) :
    (s.setCauses c r).timer = s.timer ∧ (s.setCauses c r).clock = s.clock ∧ (s.setCauses c r).warn = s.warn ∧
    (s.setCauses c r).supply = s.supply ∧ (s.setCauses c r).sweep = s.sweep ∧ (s.setCauses c r).slots = s.slots ∧
    (s.setCauses c r).nv = s.nv ∧ (s.setCauses c r).pending = s.pending := by
  refine ⟨?_, ?_, ?_, ?_, ?_, ?_, ?_, ?_⟩
  all_goals
    unfold State.setCauses; dsimp only; (repeat' split) <;> simp

@[simp] theorem State.clockBecameValid_frame :
    (s.clockBecameValid).timer = s.timer ∧ (s.clockBecameValid).clock = s.clock ∧ (s.clockBecameValid).warn = s.warn ∧
    (s.clockBecameValid).supply = s.supply ∧ (s.clockBecameValid).sweep = s.sweep ∧ (s.clockBecameValid).slots = s.slots ∧
    (s.clockBecameValid).nv = s.nv ∧ (s.clockBecameValid).pending = s.pending := by
  refine ⟨?_, ?_, ?_, ?_, ?_, ?_, ?_, ?_⟩
  all_goals
    unfold State.clockBecameValid; dsimp only; (repeat' split) <;> simp

@[simp] theorem State.keySample_frame (h : Bool) :
    (s.keySample h).timer = s.timer ∧ (s.keySample h).clock = s.clock ∧ (s.keySample h).warn = s.warn ∧
    (s.keySample h).supply = s.supply ∧ (s.keySample h).sweep = s.sweep ∧ (s.keySample h).slots = s.slots ∧
    (s.keySample h).nv = s.nv ∧ (s.keySample h).pending = s.pending := by
  refine ⟨?_, ?_, ?_, ?_, ?_, ?_, ?_, ?_⟩
  all_goals
    unfold State.keySample; dsimp only; (repeat' split) <;> simp

@[simp] theorem State.comesDue_frame (n : Fin 64) (d : Nat) (l : Bool) :
    (s.comesDue n d l).timer = s.timer ∧ (s.comesDue n d l).clock = s.clock ∧ (s.comesDue n d l).ctl = s.ctl ∧
    (s.comesDue n d l).globals = s.globals ∧ (s.comesDue n d l).drive = s.drive ∧ (s.comesDue n d l).warn = s.warn ∧
    (s.comesDue n d l).supply = s.supply ∧ (s.comesDue n d l).sweep = s.sweep ∧ (s.comesDue n d l).nv = s.nv ∧
    (s.comesDue n d l).pending = s.pending := by
  refine ⟨?_, ?_, ?_, ?_, ?_, ?_, ?_, ?_, ?_, ?_⟩
  all_goals
    unfold State.comesDue; dsimp only; (repeat' split) <;> simp [State.scannerReport]

@[simp] theorem State.crossSlot_frame (w : Nat) (n : Fin 64) :
    (State.crossSlot w s n).timer = s.timer ∧ (State.crossSlot w s n).clock = s.clock ∧ (State.crossSlot w s n).ctl = s.ctl ∧
    (State.crossSlot w s n).globals = s.globals ∧ (State.crossSlot w s n).drive = s.drive ∧ (State.crossSlot w s n).warn = s.warn ∧
    (State.crossSlot w s n).supply = s.supply ∧ (State.crossSlot w s n).sweep = s.sweep ∧ (State.crossSlot w s n).nv = s.nv ∧
    (State.crossSlot w s n).pending = s.pending := by
  refine ⟨?_, ?_, ?_, ?_, ?_, ?_, ?_, ?_, ?_, ?_⟩
  all_goals
    unfold State.crossSlot; dsimp only; (repeat' split) <;> simp

@[simp] theorem State.crossing_frame (w : Nat) :
    (s.crossing w).timer = s.timer ∧ (s.crossing w).clock = s.clock ∧ (s.crossing w).ctl = s.ctl ∧
    (s.crossing w).globals = s.globals ∧ (s.crossing w).drive = s.drive ∧ (s.crossing w).warn = s.warn ∧
    (s.crossing w).supply = s.supply ∧ (s.crossing w).sweep = s.sweep ∧ (s.crossing w).nv = s.nv ∧
    (s.crossing w).pending = s.pending := by
  refine ⟨?_, ?_, ?_, ?_, ?_, ?_, ?_, ?_, ?_, ?_⟩
  · unfold State.crossing; split
    · rfl
    · exact foldl_keeps (fun s : State => s.timer) (fun s a => by simp) _ _
  · unfold State.crossing; split
    · rfl
    · exact foldl_keeps (fun s : State => s.clock) (fun s a => by simp) _ _
  · unfold State.crossing; split
    · rfl
    · exact foldl_keeps (fun s : State => s.ctl) (fun s a => by simp) _ _
  · unfold State.crossing; split
    · rfl
    · exact foldl_keeps (fun s : State => s.globals) (fun s a => by simp) _ _
  · unfold State.crossing; split
    · rfl
    · exact foldl_keeps (fun s : State => s.drive) (fun s a => by simp) _ _
  · unfold State.crossing; split
    · rfl
    · exact foldl_keeps (fun s : State => s.warn) (fun s a => by simp) _ _
  · unfold State.crossing; split
    · rfl
    · exact foldl_keeps (fun s : State => s.supply) (fun s a => by simp) _ _
  · unfold State.crossing; split
    · rfl
    · exact foldl_keeps (fun s : State => s.sweep) (fun s a => by simp) _ _
  · unfold State.crossing; split
    · rfl
    · exact foldl_keeps (fun s : State => s.nv) (fun s a => by simp) _ _
  · unfold State.crossing; split
    · rfl
    · exact foldl_keeps (fun s : State => s.pending) (fun s a => by simp) _ _

@[simp] theorem State.stepSlot_frame (a b : Nat) (n : Fin 64) :
    (State.stepSlot a b s n).timer = s.timer ∧ (State.stepSlot a b s n).clock = s.clock ∧ (State.stepSlot a b s n).ctl = s.ctl ∧
    (State.stepSlot a b s n).globals = s.globals ∧ (State.stepSlot a b s n).drive = s.drive ∧ (State.stepSlot a b s n).warn = s.warn ∧
    (State.stepSlot a b s n).supply = s.supply ∧ (State.stepSlot a b s n).sweep = s.sweep ∧ (State.stepSlot a b s n).nv = s.nv ∧
    (State.stepSlot a b s n).pending = s.pending := by
  refine ⟨?_, ?_, ?_, ?_, ?_, ?_, ?_, ?_, ?_, ?_⟩
  all_goals
    unfold State.stepSlot; dsimp only; (repeat' split) <;> simp

@[simp] theorem State.scanStep_frame (a b : Nat) :
    (s.scanStep a b).timer = s.timer ∧ (s.scanStep a b).clock = s.clock ∧ (s.scanStep a b).ctl = s.ctl ∧
    (s.scanStep a b).globals = s.globals ∧ (s.scanStep a b).drive = s.drive ∧ (s.scanStep a b).warn = s.warn ∧
    (s.scanStep a b).supply = s.supply ∧ (s.scanStep a b).sweep = s.sweep ∧ (s.scanStep a b).nv = s.nv ∧
    (s.scanStep a b).pending = s.pending := by
  refine ⟨?_, ?_, ?_, ?_, ?_, ?_, ?_, ?_, ?_, ?_⟩
  · unfold State.scanStep; split
    · rfl
    · exact foldl_keeps (fun s : State => s.timer) (fun s a => by simp) _ _
  · unfold State.scanStep; split
    · rfl
    · exact foldl_keeps (fun s : State => s.clock) (fun s a => by simp) _ _
  · unfold State.scanStep; split
    · rfl
    · exact foldl_keeps (fun s : State => s.ctl) (fun s a => by simp) _ _
  · unfold State.scanStep; split
    · rfl
    · exact foldl_keeps (fun s : State => s.globals) (fun s a => by simp) _ _
  · unfold State.scanStep; split
    · rfl
    · exact foldl_keeps (fun s : State => s.drive) (fun s a => by simp) _ _
  · unfold State.scanStep; split
    · rfl
    · exact foldl_keeps (fun s : State => s.warn) (fun s a => by simp) _ _
  · unfold State.scanStep; split
    · rfl
    · exact foldl_keeps (fun s : State => s.supply) (fun s a => by simp) _ _
  · unfold State.scanStep; split
    · rfl
    · exact foldl_keeps (fun s : State => s.sweep) (fun s a => by simp) _ _
  · unfold State.scanStep; split
    · rfl
    · exact foldl_keeps (fun s : State => s.nv) (fun s a => by simp) _ _
  · unfold State.scanStep; split
    · rfl
    · exact foldl_keeps (fun s : State => s.pending) (fun s a => by simp) _ _

@[simp] theorem State.clockReport_frame (r : ClockReport) :
    (s.clockReport r).timer = s.timer ∧ (s.clockReport r).clock = s.clock ∧ (s.clockReport r).ctl = s.ctl ∧
    (s.clockReport r).globals = s.globals ∧ (s.clockReport r).bells = s.bells ∧ (s.clockReport r).drive = s.drive ∧
    (s.clockReport r).warn = s.warn ∧ (s.clockReport r).supply = s.supply ∧ (s.clockReport r).sweep = s.sweep ∧
    (s.clockReport r).sched = s.sched ∧ (s.clockReport r).engine = s.engine ∧ (s.clockReport r).slots = s.slots ∧
    (s.clockReport r).tunes = s.tunes ∧ (s.clockReport r).nv = s.nv ∧ (s.clockReport r).pending = s.pending := by
  refine ⟨?_, ?_, ?_, ?_, ?_, ?_, ?_, ?_, ?_, ?_, ?_, ?_, ?_, ?_, ?_⟩
  all_goals
    unfold State.clockReport; simp

@[simp] theorem State.rangeHold_frame (h : Nat) :
    (s.rangeHold h).timer = s.timer ∧ (s.rangeHold h).ctl = s.ctl ∧ (s.rangeHold h).globals = s.globals ∧
    (s.rangeHold h).bells = s.bells ∧ (s.rangeHold h).drive = s.drive ∧ (s.rangeHold h).warn = s.warn ∧
    (s.rangeHold h).supply = s.supply ∧ (s.rangeHold h).sweep = s.sweep ∧ (s.rangeHold h).sched = s.sched ∧
    (s.rangeHold h).engine = s.engine ∧ (s.rangeHold h).slots = s.slots ∧ (s.rangeHold h).tunes = s.tunes ∧
    (s.rangeHold h).nv = s.nv ∧ (s.rangeHold h).pending = s.pending := by
  refine ⟨?_, ?_, ?_, ?_, ?_, ?_, ?_, ?_, ?_, ?_, ?_, ?_, ?_, ?_⟩
  all_goals
    unfold State.rangeHold; simp

@[simp] theorem State.advanceWall_frame (n : Nat) :
    (s.advanceWall n).timer = s.timer ∧ (s.advanceWall n).ctl = s.ctl ∧ (s.advanceWall n).globals = s.globals ∧
    (s.advanceWall n).drive = s.drive ∧ (s.advanceWall n).warn = s.warn ∧ (s.advanceWall n).supply = s.supply ∧
    (s.advanceWall n).sweep = s.sweep ∧ (s.advanceWall n).nv = s.nv ∧ (s.advanceWall n).pending = s.pending := by
  refine ⟨?_, ?_, ?_, ?_, ?_, ?_, ?_, ?_, ?_⟩
  all_goals
    unfold State.advanceWall
    generalize Config.rangeEnd = r
    generalize lastWall = l
    dsimp only; (repeat' split) <;> simp

@[simp] theorem State.pulseStep_frame (o : Int) :
    (s.pulseStep o).timer = s.timer ∧ (s.pulseStep o).ctl = s.ctl ∧ (s.pulseStep o).globals = s.globals ∧
    (s.pulseStep o).drive = s.drive ∧ (s.pulseStep o).warn = s.warn ∧ (s.pulseStep o).supply = s.supply ∧
    (s.pulseStep o).sweep = s.sweep ∧ (s.pulseStep o).nv = s.nv ∧ (s.pulseStep o).pending = s.pending := by
  refine ⟨?_, ?_, ?_, ?_, ?_, ?_, ?_, ?_, ?_⟩
  all_goals
    unfold State.pulseStep; dsimp only; (repeat' split) <;> simp

@[simp] theorem State.pulseAccepted_frame (e : Nat) :
    (s.pulseAccepted e).timer = s.timer ∧ (s.pulseAccepted e).ctl = s.ctl ∧ (s.pulseAccepted e).globals = s.globals ∧
    (s.pulseAccepted e).drive = s.drive ∧ (s.pulseAccepted e).warn = s.warn ∧ (s.pulseAccepted e).supply = s.supply ∧
    (s.pulseAccepted e).sweep = s.sweep ∧ (s.pulseAccepted e).nv = s.nv ∧ (s.pulseAccepted e).pending = s.pending := by
  refine ⟨?_, ?_, ?_, ?_, ?_, ?_, ?_, ?_, ?_⟩
  all_goals
    unfold State.pulseAccepted; dsimp only; (repeat' split) <;> simp

@[simp] theorem State.judgeEdge_frame (e : Nat) :
    (s.judgeEdge e).timer = s.timer ∧ (s.judgeEdge e).ctl = s.ctl ∧ (s.judgeEdge e).globals = s.globals ∧
    (s.judgeEdge e).drive = s.drive ∧ (s.judgeEdge e).warn = s.warn ∧ (s.judgeEdge e).supply = s.supply ∧
    (s.judgeEdge e).sweep = s.sweep ∧ (s.judgeEdge e).nv = s.nv ∧ (s.judgeEdge e).pending = s.pending := by
  refine ⟨?_, ?_, ?_, ?_, ?_, ?_, ?_, ?_, ?_⟩
  all_goals
    unfold State.judgeEdge; (repeat' split) <;> simp

@[simp] theorem State.pulseSample_frame (h : Bool) :
    (s.pulseSample h).timer = s.timer ∧ (s.pulseSample h).ctl = s.ctl ∧ (s.pulseSample h).globals = s.globals ∧
    (s.pulseSample h).drive = s.drive ∧ (s.pulseSample h).warn = s.warn ∧ (s.pulseSample h).supply = s.supply ∧
    (s.pulseSample h).sweep = s.sweep ∧ (s.pulseSample h).nv = s.nv ∧ (s.pulseSample h).pending = s.pending := by
  refine ⟨?_, ?_, ?_, ?_, ?_, ?_, ?_, ?_, ?_⟩
  all_goals
    unfold State.pulseSample; dsimp only; (repeat' split) <;> simp

@[simp] theorem State.tuneReport_frame (k : StoreKind) (t : Fin 96) (o : StoreOp) (c b : Nat) (r : Option StoreReason) :
    (s.tuneReport k t o c b r).timer = s.timer ∧ (s.tuneReport k t o c b r).clock = s.clock ∧ (s.tuneReport k t o c b r).ctl = s.ctl ∧
    (s.tuneReport k t o c b r).globals = s.globals ∧ (s.tuneReport k t o c b r).bells = s.bells ∧
    (s.tuneReport k t o c b r).drive = s.drive ∧ (s.tuneReport k t o c b r).warn = s.warn ∧
    (s.tuneReport k t o c b r).supply = s.supply ∧ (s.tuneReport k t o c b r).sweep = s.sweep ∧
    (s.tuneReport k t o c b r).sched = s.sched ∧ (s.tuneReport k t o c b r).engine = s.engine ∧
    (s.tuneReport k t o c b r).slots = s.slots ∧ (s.tuneReport k t o c b r).tunes = s.tunes ∧ (s.tuneReport k t o c b r).nv = s.nv ∧
    (s.tuneReport k t o c b r).pending = s.pending := by
  refine ⟨?_, ?_, ?_, ?_, ?_, ?_, ?_, ?_, ?_, ?_, ?_, ?_, ?_, ?_, ?_⟩
  all_goals
    unfold State.tuneReport; simp

@[simp] theorem State.switchDirectory_frame (u : Upload) :
    (s.switchDirectory u).timer = s.timer ∧ (s.switchDirectory u).clock = s.clock ∧ (s.switchDirectory u).ctl = s.ctl ∧
    (s.switchDirectory u).globals = s.globals ∧ (s.switchDirectory u).bells = s.bells ∧ (s.switchDirectory u).drive = s.drive ∧
    (s.switchDirectory u).warn = s.warn ∧ (s.switchDirectory u).supply = s.supply ∧ (s.switchDirectory u).sweep = s.sweep ∧
    (s.switchDirectory u).sched = s.sched ∧ (s.switchDirectory u).engine = s.engine ∧ (s.switchDirectory u).slots = s.slots ∧
    (s.switchDirectory u).pending = s.pending := by
  refine ⟨?_, ?_, ?_, ?_, ?_, ?_, ?_, ?_, ?_, ?_, ?_, ?_, ?_⟩
  all_goals
    unfold State.switchDirectory; dsimp only; simp

@[simp] theorem State.settingsReport_frame (k : StoreKind) (o : StoreOp) (r : Option StoreReason) :
    (s.settingsReport k o r).timer = s.timer ∧ (s.settingsReport k o r).clock = s.clock ∧ (s.settingsReport k o r).ctl = s.ctl ∧
    (s.settingsReport k o r).globals = s.globals ∧ (s.settingsReport k o r).bells = s.bells ∧
    (s.settingsReport k o r).drive = s.drive ∧ (s.settingsReport k o r).warn = s.warn ∧ (s.settingsReport k o r).supply = s.supply ∧
    (s.settingsReport k o r).sweep = s.sweep ∧ (s.settingsReport k o r).sched = s.sched ∧ (s.settingsReport k o r).engine = s.engine ∧
    (s.settingsReport k o r).slots = s.slots ∧ (s.settingsReport k o r).tunes = s.tunes ∧ (s.settingsReport k o r).nv = s.nv ∧
    (s.settingsReport k o r).pending = s.pending := by
  refine ⟨?_, ?_, ?_, ?_, ?_, ?_, ?_, ?_, ?_, ?_, ?_, ?_, ?_, ?_, ?_⟩
  all_goals
    unfold State.settingsReport; simp

@[simp] theorem State.coolBell_frame (b : BellNo) :
    (State.coolBell b s).timer = s.timer ∧ (State.coolBell b s).clock = s.clock ∧ (State.coolBell b s).ctl = s.ctl ∧
    (State.coolBell b s).globals = s.globals ∧ (State.coolBell b s).drive = s.drive ∧ (State.coolBell b s).warn = s.warn ∧
    (State.coolBell b s).supply = s.supply ∧ (State.coolBell b s).sweep = s.sweep ∧ (State.coolBell b s).slots = s.slots ∧
    (State.coolBell b s).tunes = s.tunes ∧ (State.coolBell b s).nv = s.nv ∧ (State.coolBell b s).pending = s.pending := by
  refine ⟨?_, ?_, ?_, ?_, ?_, ?_, ?_, ?_, ?_, ?_, ?_, ?_⟩
  all_goals
    unfold State.coolBell; (repeat' split) <;> simp

@[simp] theorem State.temperature_frame (c : Int) :
    (s.temperature c).timer = s.timer ∧ (s.temperature c).clock = s.clock ∧ (s.temperature c).supply = s.supply ∧
    (s.temperature c).sweep = s.sweep ∧ (s.temperature c).slots = s.slots ∧ (s.temperature c).nv = s.nv ∧
    (s.temperature c).pending = s.pending := by
  refine ⟨?_, ?_, ?_, ?_, ?_, ?_, ?_⟩
  all_goals
    unfold State.temperature; dsimp only; (repeat' split) <;> simp

@[simp] theorem State.supplySample_frame (v : Nat) :
    (s.supplySample v).timer = s.timer ∧ (s.supplySample v).clock = s.clock ∧ (s.supplySample v).warn = s.warn ∧
    (s.supplySample v).sweep = s.sweep ∧ (s.supplySample v).slots = s.slots ∧ (s.supplySample v).nv = s.nv ∧
    (s.supplySample v).pending = s.pending := by
  refine ⟨?_, ?_, ?_, ?_, ?_, ?_, ?_⟩
  all_goals
    unfold State.supplySample State.judgeLow State.judgeRecovery; dsimp only; (repeat' split) <;> simp

@[simp] theorem State.sweepReport_frame (b : BellNo) (k : SweepKind) :
    (s.sweepReport b k).timer = s.timer ∧ (s.sweepReport b k).clock = s.clock ∧ (s.sweepReport b k).ctl = s.ctl ∧
    (s.sweepReport b k).globals = s.globals ∧ (s.sweepReport b k).bells = s.bells ∧ (s.sweepReport b k).drive = s.drive ∧
    (s.sweepReport b k).warn = s.warn ∧ (s.sweepReport b k).supply = s.supply ∧ (s.sweepReport b k).sweep = s.sweep ∧
    (s.sweepReport b k).sched = s.sched ∧ (s.sweepReport b k).engine = s.engine ∧ (s.sweepReport b k).slots = s.slots ∧
    (s.sweepReport b k).tunes = s.tunes ∧ (s.sweepReport b k).nv = s.nv ∧ (s.sweepReport b k).pending = s.pending := by
  refine ⟨?_, ?_, ?_, ?_, ?_, ?_, ?_, ?_, ?_, ?_, ?_, ?_, ?_, ?_, ?_⟩
  all_goals
    unfold State.sweepReport; simp

@[simp] theorem State.staleTest_frame (b : BellNo) :
    (State.staleTest b s).timer = s.timer ∧ (State.staleTest b s).clock = s.clock ∧ (State.staleTest b s).ctl = s.ctl ∧
    (State.staleTest b s).globals = s.globals ∧ (State.staleTest b s).drive = s.drive ∧ (State.staleTest b s).warn = s.warn ∧
    (State.staleTest b s).supply = s.supply ∧ (State.staleTest b s).sweep = s.sweep ∧ (State.staleTest b s).sched = s.sched ∧
    (State.staleTest b s).engine = s.engine ∧ (State.staleTest b s).slots = s.slots ∧ (State.staleTest b s).tunes = s.tunes ∧
    (State.staleTest b s).nv = s.nv ∧ (State.staleTest b s).pending = s.pending := by
  refine ⟨?_, ?_, ?_, ?_, ?_, ?_, ?_, ?_, ?_, ?_, ?_, ?_, ?_, ?_⟩
  all_goals
    unfold State.staleTest; dsimp only; (repeat' split) <;> simp

@[simp] theorem State.settleVisit_frame (b : BellNo) :
    (s.settleVisit b).timer = s.timer ∧ (s.settleVisit b).clock = s.clock ∧ (s.settleVisit b).ctl = s.ctl ∧
    (s.settleVisit b).globals = s.globals ∧ (s.settleVisit b).warn = s.warn ∧ (s.settleVisit b).supply = s.supply ∧
    (s.settleVisit b).sweep = s.sweep ∧ (s.settleVisit b).slots = s.slots ∧ (s.settleVisit b).tunes = s.tunes ∧
    (s.settleVisit b).nv = s.nv ∧ (s.settleVisit b).pending = s.pending := by
  refine ⟨?_, ?_, ?_, ?_, ?_, ?_, ?_, ?_, ?_, ?_, ?_⟩
  all_goals
    unfold State.settleVisit; (repeat' split) <;> simp

end Sys2Proof.Machine
end

