-- ==== Sys2Proof/Laws/Ops.lean ====
section
/-! SUPPORT. What the shared operations do, said once each: taking a request, reporting, transmitting, the Firing Queue's insertion and removal, single
entries, capture windows, the versions of a tune, and the Play Engine at rest. -/

namespace Sys2Proof.Machine

open Sys2Proof

variable {s : State}

/-! ### Taking a request -/

theorem State.Takes.not_deaf (h : s.Takes) : s.deaf = false := by simp [State.deaf, h.hears]

/-- A request that reaches its owner is answered by it. -/
theorem takeRequest_taken (h : s.Takes) (code : Nat) (tag : Byte) (owner : State → Result × ReplyBody × State) :
    takeRequest code tag true owner s = .next ((owner s).2.2.answered code tag (owner s).1 (owner s).2.1) := by
  have hr := h.room
  have hl := h.loaded
  simp [takeRequest, h.not_deaf, Nat.not_le.mpr hr, hl, done, State.answered]

/-- A request whose length does not fit its kind. -/
theorem takeRequest_badLength (h : s.Takes) (code : Nat) (tag : Byte) (owner : State → Result × ReplyBody × State) :
    takeRequest code tag false owner s = .next (s.answered code tag .badLength .nothing) := by
  have hr := h.room
  have hl := h.loaded
  simp [takeRequest, h.not_deaf, Nat.not_le.mpr hr, hl, done, State.answered]

/-- A request that finds four replies waiting. -/
theorem takeRequest_lost (h : s.link.restart = .none) (hr : 4 ≤ s.link.replies.length) (code : Nat) (tag : Byte) (fits : Bool)
    (owner : State → Result × ReplyBody × State) : takeRequest code tag fits owner s = .next s.lostRequest.transmit := by
  simp [takeRequest, State.deaf, h, Config.replyCap, hr, done, State.lostRequest]

/-- A request after a restart has been asked for. -/
theorem takeRequest_deaf (h : s.link.restart ≠ .none) (code : Nat) (tag : Byte) (fits : Bool)
    (owner : State → Result × ReplyBody × State) : takeRequest code tag fits owner s = .next s.transmit := by
  simp [takeRequest, State.deaf, h, done]

/-- A request other than STATUS in LOADING. -/
theorem takeRequest_loading (h : s.link.restart = .none) (hr : s.link.replies.length < 4) (hm : s.ctl.mode = .loading) {code : Nat}
    (hc : code ≠ 1) (tag : Byte) (fits : Bool) (owner : State → Result × ReplyBody × State) :
    takeRequest code tag fits owner s = .next (s.answered code tag .wrongMode .nothing) := by
  simp [takeRequest, State.deaf, h, Config.replyCap, Nat.not_le.mpr hr, done, State.answered, hm, hc]

/-! ### The Link Port -/

/-- The transmitter with a frame on the line goes on with it. -/
theorem State.transmit_busy (h : s.link.tx.isSome = true) : s.transmit = s := by simp [State.transmit, h]

/-- A report joins the queue while there is room. -/
theorem State.report_room (h : s.link.reports.length < 32) (r : Report) :
    s.report r = { s with link := { s.link with reports := s.link.reports ++ [r] } } := by simp [State.report, Config.reportCap, h]

/-- A report that finds the queue full sets the overflow flag. -/
theorem State.report_full (h : 32 ≤ s.link.reports.length) (r : Report) : s.report r = { s with link := { s.link with overflow := true } } := by
  simp [State.report, Config.reportCap, Nat.not_lt.mpr h]

/-- A report touches the Report Queue and the overflow flag only. -/
theorem State.report_link (r : Report) : (s.report r).link = { s.link with
    reports := (s.report r).link.reports, overflow := (s.report r).link.overflow } := by
  unfold State.report; split <;> rfl

/-! ### The Firing Queue -/

theorem placeEntry_perm (e : Entry) (q : List Entry) : (placeEntry e q).Perm (e :: q) := by
  induction q with
  | nil => exact .refl _
  | cons x q ih =>
    unfold placeEntry; split
    · exact .refl _
    · exact (ih.cons x).trans (.swap e x q)

@[simp] theorem mem_placeEntry {e x : Entry} {q : List Entry} : x ∈ placeEntry e q ↔ x = e ∨ x ∈ q := by
  simpa using (placeEntry_perm e q).mem_iff

theorem placePlay_perm (p : Play) (q : List Play) : (placePlay p q).Perm (p :: q) := by
  induction q with
  | nil => exact .refl _
  | cons x q ih =>
    unfold placePlay; split
    · exact .refl _
    · exact (ih.cons x).trans (.swap p x q)

/-- The order of the Firing Queue holds between any two entries one way or the other. -/
theorem Entry.before_total (a b : Entry) : a.before b = true ∨ b.before a = true := by
  simp only [Entry.before, Bool.or_eq_true, Bool.and_eq_true, decide_eq_true_eq]; omega

theorem Entry.before_trans {a b c : Entry} (h : a.before b = true) (k : b.before c = true) : a.before c = true := by
  simp only [Entry.before, Bool.or_eq_true, Bool.and_eq_true, decide_eq_true_eq] at *; omega

/-- An entry placed in an ordered queue leaves it ordered. -/
theorem placeEntry_ordered {e : Entry} {q : List Entry} (h : q.Pairwise fun a b => a.before b = true) :
    (placeEntry e q).Pairwise fun a b => a.before b = true := by
  induction q with
  | nil => simp [placeEntry]
  | cons x q ih =>
    rw [List.pairwise_cons] at h
    unfold placeEntry; split
    · next hx =>
      refine List.pairwise_cons.mpr ⟨fun y hy => ?_, List.pairwise_cons.mpr h⟩
      rcases List.mem_cons.mp hy with rfl | hy
      · exact hx
      · exact Entry.before_trans hx (h.1 y hy)
    · next hx =>
      refine List.pairwise_cons.mpr ⟨fun y hy => ?_, ih h.2⟩
      rcases mem_placeEntry.mp hy with rfl | hy
      · exact (Entry.before_total x y).resolve_right (by simpa using hx)
      · exact h.1 y hy

@[simp] theorem State.modPlay_sched (i : Nat) (f : Play → Play) : (s.modPlay i f).sched = s.sched := by
  unfold State.modPlay; split <;> rfl

/-- Entries taken out leave the others. -/
@[simp] theorem State.takeOut_queue (p : Entry → Bool) : (s.takeOut p).sched.queue = s.sched.queue.filter fun e => !p e := by
  unfold State.takeOut
  exact (foldl_keeps (fun s : State => s.sched.queue) (fun s a => by simp) _ _).trans (by simp)

@[simp] theorem State.grantOne_queue : s.grantOne.sched.queue = s.sched.queue := by
  unfold State.grantOne; repeat' split
  all_goals rfl

@[simp] theorem State.grantSlots_queue : s.grantSlots.sched.queue = s.sched.queue := by simp [State.grantSlots]

/-- Without a note that waits there is nothing to grant. -/
theorem State.grantSlots_none (h : s.sched.held = []) : s.grantSlots = s := by
  have h1 : s.grantOne = s := by simp [State.grantOne, h, bestHeld]
  simp [State.grantSlots, h1]

@[simp] theorem State.removeEntries_queue (p : Entry → Bool) : (s.removeEntries p).sched.queue = s.sched.queue.filter fun e => !p e := by
  unfold State.removeEntries
  exact (foldl_keeps (fun s : State => s.sched.queue) (fun s a => by simp) _ _).trans (by simp)

@[simp] theorem State.leaveService_queue (b : BellNo) (st : Service) (c : BellCause) :
    (s.leaveService b st c).sched.queue = s.sched.queue.filter fun e => !decide (e.bell = b) := by
  simp [State.leaveService]

/-! ### One entry among others -/

theorem Entry.same_iff {a b : Entry} : a.same b = true ↔ a.bell = b.bell ∧ a.noteTime = b.noteTime := by simp [Entry.same]

@[simp] theorem Entry.same_self (a : Entry) : a.same a = true := by simp [Entry.same]

@[simp] theorem mem_withoutEntry {e y : Entry} {q : List Entry} :
    y ∈ withoutEntry e q ↔ y ∈ q ∧ ¬ (e.bell = y.bell ∧ e.noteTime = y.noteTime) := by
  simp only [withoutEntry, List.mem_filter, Bool.not_eq_true', Bool.eq_false_iff, ne_eq, Entry.same_iff]

theorem mem_placeAll {x : Entry} : ∀ {l q : List Entry}, x ∈ l.foldl (fun q y => placeEntry y q) q ↔ x ∈ l ∨ x ∈ q
  | [], _ => by simp
  | y :: l, q => by
    rw [List.foldl_cons, mem_placeAll, mem_placeEntry, List.mem_cons]
    tauto

/-- An insertion leaves the new entry, the bell's entries as decided, and those of the other bells. -/
theorem mem_insertQueue {e x : Entry} {others q : List Entry} :
    x ∈ insertQueue e others q ↔ x = e ∨ x ∈ others ∨ x ∈ q ∧ x.bell ≠ e.bell := by
  unfold insertQueue
  rw [mem_placeEntry, mem_placeAll]
  simp only [List.mem_filter, decide_eq_true_eq]
  by_cases h : x ∈ others <;> by_cases k : x ∈ q <;> simp [h, k]

theorem placeAll_ordered {l q : List Entry} (h : q.Pairwise fun a b => a.before b = true) :
    (l.foldl (fun q y => placeEntry y q) q).Pairwise fun a b => a.before b = true := by
  induction l generalizing q with
  | nil => exact h
  | cons y l ih => exact ih (placeEntry_ordered h)

/-- An insertion leaves an ordered queue ordered. -/
theorem insertQueue_ordered {e : Entry} {others q : List Entry} (h : q.Pairwise fun a b => a.before b = true) :
    (insertQueue e others q).Pairwise fun a b => a.before b = true :=
  placeEntry_ordered (placeAll_ordered (h.filter _))

/-- An insertion that moves and removes no entry places the new one. -/
theorem insertQueue_unmoved {e : Entry} {others q : List Entry} (h : ∀ y ∈ q, y.bell = e.bell → y ∈ others) (k : ∀ y ∈ others, y ∈ q) :
    insertQueue e others q = placeEntry e q := by
  have stays : (q.filter fun y => decide (y.bell ≠ e.bell ∨ y ∈ others)) = q :=
    List.filter_eq_self.mpr fun y hy => decide_eq_true (by
      by_cases hb : y.bell = e.bell
      · exact .inr (h y hy hb)
      · exact .inl hb)
  have moved : (others.filter fun y => decide (y ∉ q)) = [] := List.filter_eq_nil_iff.mpr fun y hy => by simp [k y hy]
  unfold insertQueue
  rw [stays, moved]; rfl

/-- Entry numbers stay within 48 bits. -/
theorem nextEntryNumber_lt (n : Nat) : nextEntryNumber n < Config.numberSpan := Nat.mod_lt _ (by decide)

/-! ### Capture windows -/

/-- An edge outside the window changes nothing. -/
theorem Window.edge_outside {w : Window} {q : Nat} (h : ¬ (w.openQ ≤ q ∧ q < w.closeQ)) (x : Int) : w.edge q x = w := by simp [Window.edge, h]

/-- An early close after all the window's edges takes them all. -/
theorem Window.before_all {w : Window} {q : Nat} (hc : ∀ c, w.capture = some c → c.rise < q) (hr : ∀ r, w.rebound = some r → r < q) :
    w.before q = w := by
  have h1 : (w.capture.filter fun c => decide (c.rise < q)) = w.capture := by
    cases h : w.capture with
    | none => rfl
    | some c => simp [Option.filter, hc c h]
  have h2 : (w.rebound.filter fun rise => decide (rise < q)) = w.rebound := by
    cases h : w.rebound with
    | none => rfl
    | some r => simp [Option.filter, hr r h]
  simp only [Window.before, h1, h2]

/-- A bell without a window has none to close early. -/
theorem State.earlyClose_none {b : BellNo} (h : (s.bell b).window = none) (t : Nat) : s.earlyClose b t = s := by
  have hb : s.modBell b (fun r => { r with window := r.window.map (·.before (4 * t)) }) = s := by
    have : ({ s.bell b with window := (s.bell b).window.map (·.before (4 * t)) } : Bell) = s.bell b := by rw [h, Option.map_none, ← h]
    simp only [State.modBell, this]
    simp [State.bell]
  simp only [State.earlyClose, hb, State.closeWindow, h]

/-! ### The versions of a tune -/

@[simp] theorem TuneStore.setVersions_staging (x : TuneStore) (t : Fin 96) (c : Option Version) (l : List Version) :
    (x.setVersions t c l).staging = x.staging := rfl

@[simp] theorem TuneStore.setVersions_nextSerial (x : TuneStore) (t : Fin 96) (c : Option Version) (l : List Version) :
    (x.setVersions t c l).nextSerial = x.nextSerial := rfl

@[simp] theorem TuneStore.setVersions_self (x : TuneStore) (t : Fin 96) (c : Option Version) (l : List Version) :
    (x.setVersions t c l).slots[t] = { current := c, retiring := l.head? } := by simp [TuneStore.setVersions]

@[simp] theorem TuneStore.setVersions_other (x : TuneStore) {t i : Fin 96} (h : i ≠ t) (c : Option Version) (l : List Version) :
    (x.setVersions t c l).slots[i] = x.slots[i] := by
  have : (t : Nat) ≠ i := fun k => h (Fin.ext k.symm)
  simp [TuneStore.setVersions, this]

/-- The versions set are the versions kept. -/
@[simp] theorem TuneStore.setVersions_retiringOf (x : TuneStore) (t : Fin 96) (c : Option Version) (l : List Version) :
    (x.setVersions t c l).retiringOf t = l := by
  have h1 : (x.displaced.filter (·.1 ≠ t)).filter (·.1 = t) = [] := by simp [List.filter_filter]
  have h2 : (l.tail.map fun v => (t, v)).filter (·.1 = t) = l.tail.map fun v => (t, v) :=
    List.filter_eq_self.mpr (by simp only [List.mem_map]; rintro _ ⟨v, -, rfl⟩; simp)
  have h3 : (x.setVersions t c l).displaced = x.displaced.filter (·.1 ≠ t) ++ l.tail.map fun v => (t, v) := rfl
  rw [TuneStore.retiringOf, TuneStore.setVersions_self, h3, List.filter_append, h1, h2]
  cases l <;> simp [Function.comp_def]

/-- The versions of one tune set, those of the others stand. -/
@[simp] theorem TuneStore.setVersions_retiringOf_other (x : TuneStore) {t i : Fin 96} (h : i ≠ t) (c : Option Version) (l : List Version) :
    (x.setVersions t c l).retiringOf i = x.retiringOf i := by
  have h1 : (x.displaced.filter (·.1 ≠ t)).filter (·.1 = i) = x.displaced.filter (·.1 = i) := by
    rw [List.filter_filter]; apply List.filter_congr; rintro ⟨j, v⟩ -
    by_cases hj : j = i <;> simp [hj, h]
  have h2 : (l.tail.map fun v => (t, v)).filter (·.1 = i) = [] :=
    List.filter_eq_nil_iff.mpr (by simp only [List.mem_map]; rintro _ ⟨v, -, rfl⟩; simp [Ne.symm h])
  have h3 : (x.setVersions t c l).displaced = x.displaced.filter (·.1 ≠ t) ++ l.tail.map fun v => (t, v) := rfl
  simp only [TuneStore.retiringOf, TuneStore.setVersions_other x h, h3, List.filter_append, h1, h2, List.append_nil]

/-- A version taken out of its CURRENT place is kept while it has users (R105, R108). -/
theorem TuneStore.retire_retiringOf (x : TuneStore) (t : Fin 96) :
    (x.retire t).retiringOf t = (x.slots[t].current.toList.filter fun v => decide (0 < v.users)) ++ x.retiringOf t := by
  simp [TuneStore.retire]

/-! ### Plays -/

/-- With nothing to do in the Play Engine, nothing is done. -/
theorem State.settle_settled (h : s.Settled) : s.settle = s := by
  have h1 := h.ending
  have h2 := h.incoming
  unfold State.settle State.settleWith Config.settleFuel State.settleFrom
  simp only [h1, h2]
  split
  · next hm =>
    rcases h.waiting hm with h3 | h3 <;> simp [h3]
  · rfl

end Sys2Proof.Machine
end

