-- ==== Sys2Proof/Tests/Slice0.lean ====
section
/-! SUPPORT. Tests on figures the spec works out, smoke tests of WellFormed, and one witness theorem for each statement with hypotheses: concrete
states and operands that meet them, clause by clause. The definitions `checked0`, `checked1`, … say nothing: Lean elaborates one only when it has checked
the theorems above it, so that the kernel checks of this file do not all wait at once. -/

namespace Sys2Proof.Tests

open Sys2Proof Sys2Proof.Machine

/-! ### States to test on -/

/-- The state after a command that completes. -/
def after (c : Instr) (s : State) : State :=
  match exec c s with
  | .next t => t
  | _ => s

/-- A commissioned part in SILENT with a valid clock, 10 s after its start. -/
def base : State :=
  { State.reset with
    timer := { RunTimer.start with ms := 10000 }
    clock := { WallClock.powerOn with wall := 5999, valid := true, second := 5000 }
    ctl := { ModeController.start with mode := .silent, commissioned := true }
    sweep := { pointer := 0, next := some 12500 } }

/-- The part in another mode. -/
def inMode (m : Mode) : State := { base with ctl := { base.ctl with mode := m } }

/-- The part in ACTIVE. -/
def act : State := inMode .active

/-- The part in HALT for SUPPLY_LOW, ACTIVE remembered. -/
def halted : State :=
  { base with ctl := { base.ctl with mode := .halt, remembered := some .active, causes := { supplyLow := true, driverHot := false } } }

/-- A part with a command of the non-volatile store in flight. -/
def writing (w : Write) : State := { base with nv := { base.nv with write := some w } }

/-- A bell's record changed. -/
def withBell (s : State) (b : BellNo) (f : Bell → Bell) : State := s.modBell b f

/-- All periodic events of the ms due. -/
def dueAll (s : State) : State :=
  { s with timer := { s.timer with due := { slew := true, pulse := true, key := true, supply := true, temperature := true, cooling := true } } }

/-- A player's note for bell 0, queued. -/
def entry0 : Entry :=
  { number := 1, bell := 0, original := none, noteTime := 10080, fire := 10000, origFire := 10000, late := false, dynamic := 5, priority := 3,
    source := .live, playId := 0 }

/-- The part in ACTIVE with that entry queued. -/
def queued0 : State := { act with sched := { act.sched with queue := [entry0], nextNumber := 2 } }

/-- A drive of bell 1. -/
def drive1 : Drive := { kind := .strike none 9990 5 0, start := 9990, width := 98, cls := 2, sampled := false }

/-- A test pulse on bell 1. -/
def pulse1 : Drive := { kind := .testPulse, start := 10000, width := 4, cls := 2, sampled := false }

/-- The part in ACTIVE with bell 1 in DRIVE. -/
def driving (d : Drive) : State :=
  { withBell act 1 (fun r => { r with hammer := .drive, drive := some d }) with drive := { inUse := 2, pendingBudget := none } }

/-- A window of bell 1 that has closed at 10 000 ms. -/
def window1 : Window :=
  { original := none, playId := 0, noteTime := 9830, dynamic := 5, start := 9750, width := 98, openQ := 39080, closeQ := 40000,
    capture := none, rebound := none }

/-- An edge in it. -/
def capture1 : Capture := { edge := 39320, rise := 39321 }

/-- A toll on bell 3, running on Player 0. -/
def toll3 : Play :=
  { id := 7, origin := .playNow, kind := .toll 3 5 5000 4, anchorOffset := 0, priority := 2, lateLimit := 60, due := 6000, s0 := 10500,
    start := some 11000, nextIndex := 0, offered := 0, dropped := 0, queued := 0, drives := 0, state := .feeding, fixed := none, launchSeq := 1 }

/-- The part in ACTIVE with that play. -/
def tolling (q : Play) : State :=
  { act with engine := { act.engine with player0 := { play := some q, incoming := none }, lastId := 7, nextLaunch := 2 } }

/-- Both players held, by that play and another, with one drive each. -/
def bothPlaying : State :=
  { act with engine := { act.engine with
      player0 := { play := some { toll3 with drives := 1 }, incoming := none }
      player1 := { play := some { toll3 with id := 8, priority := 5, launchSeq := 2, drives := 1 }, incoming := none }
      lastId := 8, nextLaunch := 3 } }

/-- An upload of one declared event to tune 1, one event staged. -/
def upload (declared : Nat) (events : List Event) : Upload :=
  { tune := 0, name := [], stepLength := 100, anchorStep := 0, declared := declared, blocks := [0], events := events,
    lastStep := events.getLast?.map (·.step), stepBells := events.map (·.bell), crc := 0 }

/-- An event at step 0 on bell 2. -/
def event0 : Event := { step := 0, bell := 2, dynamic := 5, nudge := 0 }

/-- The part with an upload open. -/
def uploading (u : Upload) : State := { base with tunes := { base.tunes with staging := .opened u } }

/-- A version of tune 1 with one user. -/
def version1 : Version :=
  { name := [], stepLength := 100, anchorStep := 3, events := [event0], crc := 0, blocks := [0], users := 1, serial := 1 }

/-- The part with that version CURRENT. -/
def holding1 : State :=
  { base with tunes := { base.tunes with slots := base.tunes.slots.set 0 { current := some version1, retiring := none }, nextSerial := 2 } }

/-! ### The spec's figures -/

/-- R168: the CRC of "123456789". -/
theorem test_crc : crc16 [0x31#8, 0x32#8, 0x33#8, 0x34#8, 0x35#8, 0x36#8, 0x37#8, 0x38#8, 0x39#8] = 0x29B1#16 := by decide +kernel
def checked0 : BellNo := ⟨0, by decide +kernel⟩
/-- R48: the table of scaled widths. -/
theorem test_scaled_width : [480, 432, 300, 520].map (fun v => scaledWidth 100 480 (vEff (some v) 480)) = [100, 111, 150, 92] := by decide +kernel
/-- R47: the base widths of the default limits. -/
theorem test_base_width : [1, 4, 5, 8].map (baseWidth Settings.default) = [30, 81, 98, 150] := by decide +kernel
/-- R23: the default lead of 80 ms at dynamic 5, and a quicker hammer at 8. -/
theorem test_lead : [5, 8, 1].map (leadMs Settings.default 1280) = [80, 77, 84] := by decide +kernel
/-- R72: 255 / 16 + 1 leaves a count of 255, and a count of 1 falls to 0. -/
theorem test_cooling : cooled 255 4 = 239 ∧ cooled 1 12 = 0 := by decide +kernel
/-- R65: a difference of 7 moves by one sixteenth, 16 by two, -3 by minus one. -/
theorem test_learning : [7, 16, -3, 0].map (fun d => learningStep d 8) = [1, 2, -1, 0] := by decide +kernel
/-- R131: hour 0 and hour 13. -/
theorem test_strokes : strokeCount .hour12 0 = 12 ∧ strokeCount .hour24 0 = 24 ∧ strokeCount .hour12 13 = 1 := by decide +kernel
def checked1 : BellNo := ⟨1, by decide +kernel⟩
/-- R113: 2000-01-01 is a Saturday and 2000 a leap year. -/
theorem test_calendar : weekdayOfDays 0 = 6 ∧ dateOfDays 59 = { year := 2000, month := 2, day := 29 } ∧
    dateOfDays 36524 = { year := 2099, month := 12, day := 31 } := by decide +kernel
/-- R128: the launch offset of a toll is 2 s, of a tune with anchor offset 1 ms 3 s. -/
theorem test_launch_offset : launchOffset 0 = 2 ∧ launchOffset 1 = 3 := by decide +kernel
/-- R177: an event record and back, with its four bytes. -/
theorem test_event_record : encodeEvent { step := 258, bell := 47, dynamic := 8, nudge := -50 } = [1#8, 2#8, 191#8, 206#8] ∧
    decodeEvent 1#8 2#8 191#8 206#8 = { step := 258, bell := 47, dynamic := 8, nudge := -50 } := by decide +kernel
/-- R171: the frame of STATUS with tag 7 begins with its marker, length, kind and tag. -/
theorem test_frame : (frameBytes 0x01#8 0x07#8 []).take 4 = [0xA5#8, 0x00#8, 0x01#8, 0x07#8] := by decide +kernel
/-- R171: SET MODE SILENT and BELL SET as their payloads spell them. -/
theorem test_decode_requests : decodeRequest 0x02 5#8 [1#8] = some (.setMode 5#8 1) ∧
    decodeRequest 0x07 5#8 [9#8, 0#8, 1#8, 44#8] = some (.bellSet 5#8 9 [(0, 300)]) ∧ decodeRequest 0x02 5#8 [] = none := by decide +kernel

/-! ### One step each -/

theorem test_status_clears_flags :
    (after (.status 1#8) { base with link := { base.link with overflow := true } }).link.overflow = false := by decide +kernel
def checked2 : BellNo := ⟨2, by decide +kernel⟩
theorem test_set_mode : (after (.setMode 1#8 0) base).ctl.mode = .active := by decide +kernel
theorem test_unknown_kind : ((after (.unknownKind 0x7F#8 3#8) State.reset).link.tx.map (·.frame)) =
    some (.reply { code := 0x7F#8, tag := 3#8, result := .unknownKind, body := .nothing }) := by decide +kernel
theorem test_loading_refuses : ((after (.save 3#8) State.reset).link.tx.map (·.frame)) =
    some (.reply { code := 0x0C#8, tag := 3#8, result := .wrongMode, body := .nothing }) := by decide +kernel
theorem test_end_of_loading : (after .endOfLoading State.reset).ctl.mode = .commission := by decide +kernel
theorem test_volley_starts_drive :
    ((after (.volley (Vector.replicate 48 0)) queued0).bell 0).drive.map (·.width) = some 98 := by decide +kernel
theorem test_drive_end_low :
    ((after (.driveEnd 1 7) (driving drive1)).bell 1).service = .faulted .openCoil := by decide +kernel
def checked3 : BellNo := ⟨3, by decide +kernel⟩
theorem test_first_sample_high :
    ((after (.firstCurrentSample 1 41) (driving drive1)).bell 1).service = .faulted .short := by decide +kernel
theorem test_pulse_verifies_nothing :
    (((after (.testPulseEnd 1 8) (driving pulse1)).bell 1).verified, ((after (.testPulseEnd 1 8) (driving pulse1)).bell 1).lastVerified) =
      (false, 10000) := by decide +kernel
theorem test_third_miss_faults :
    ((after (.windowClose 1) (withBell act 1 fun r => { r with missRun := 2, window := some window1 })).bell 1).service =
      .faulted .noStrike := by decide +kernel
theorem test_third_low_sample_halts :
    (after (.supplySample 359) (dueAll { act with supply := { act.supply with lowRun := 2 } })).ctl.mode = .halt := by decide +kernel
theorem test_hot_driver_halts : (after (.driverTemperatureReading 85) (dueAll act)).ctl.remembered = some .active := by decide +kernel
theorem test_slew : (after .slewInstant (dueAll { base with clock := { base.clock with slew := -1, wall := 5500 } })).clock.wall = 5500 := by decide +kernel
def checked4 : BellNo := ⟨4, by decide +kernel⟩
theorem test_tune_open_reserves :
    (match (after (.tuneOpen 1#8 1 100 0 33 []) base).tunes.staging with | .opened u => u.blocks | _ => []) = [0, 1] := by decide +kernel
theorem test_stop_unknown : ((after (.stop 1#8 0 9) act).link.tx.map (·.frame)) =
    some (.reply { code := 0x1D#8, tag := 1#8, result := .notFound, body := .nothing }) := by decide +kernel
theorem test_live_note_soonest : (after (.liveNote 1#8 5 5 0 0) act).sched.queue.map (fun e => (e.fire, e.noteTime)) = [(10000, 10080)] := by decide +kernel

/-- R62: an early close at q value 39 990 takes the capture that rose at 39 321 and not the rebound that rose at 39 990; one at 39 321 takes neither. -/
theorem test_early_close_takes_earlier_edges :
    let w : Window := { window1 with capture := some capture1, rebound := some 39990 }
    w.before 39990 = { window1 with capture := some capture1 } ∧ w.before 39321 = window1 := by decide +kernel
/-- R46, R62: a volley at 10 000 ms closes bell 0's open window as a miss when its one edge rose at q value 40 000. -/
theorem test_volley_closes_window_early :
    ((after (.volley (Vector.replicate 48 0)) (withBell queued0 0 fun r =>
      { r with window := some { window1 with closeQ := 40080, capture := some { edge := 39999, rise := 40000 } } })).bell 0).missRun = 1 := by
  decide +kernel
/-- R96, R108: of two versions in use, the one deleted last has the RETIRING place, and the other returns to it when that one is freed. -/
theorem test_second_deletion :
    let x : TuneStore := { base.tunes with slots := base.tunes.slots.set 0 { current := some { version1 with serial := 2 }, retiring := some version1 } }
    (x.retire 0).slots[0].retiring = some { version1 with serial := 2 } ∧ (x.retire 0).displaced = [(0, version1)] ∧
      ((x.retire 0).release 0 2).slots[0].retiring = some version1 ∧ ((x.retire 0).release 0 2).displaced = [] := by decide +kernel
/-- R18: entry numbers are kept in 48 bits. -/
theorem test_entry_numbers : nextEntryNumber 1 = 2 ∧ nextEntryNumber (2 ^ 48 - 1) = 0 := by decide +kernel
def checked21 : BellNo := ⟨21, by decide +kernel⟩
/-- R13, R164: a request that names no field is BAD_FIELD, not BAD_LENGTH. -/
theorem test_empty_settings_set : decodeRequest 0x0A 5#8 [] = some (.settingsSet 5#8 []) ∧
    ((after (.settingsSet 5#8 []) base).link.tx.map (·.frame)) =
      some (.reply { code := 0x0A#8, tag := 5#8, result := .badField, body := .nothing }) := by decide +kernel
/-- R171: the fields of TUNE CLOSE's other cases are 255s, a settings record is twelve numbers, a bell and a yes or no, a TUNE INFO without versions carries their
fields as 255s (R110), and a PLAYS reply shows two free players, no waiting play, the next id and the priority (R154). -/
theorem test_reply_bytes : (ReplyBody.tuneCloseCheck 1).bytes = [255#8, 255#8, 255#8, 255#8, 0#8, 1#8] ∧
    (ReplyBody.tuneEventsOk 2).bytes = [0#8, 2#8, 255#8] ∧ Settings.default.bytes.length = 26 ∧
    (ReplyBody.tuneInfo none none false none).bytes = blanks 21 ++ u8 0 ++ blanks 4 ∧
    (ReplyBody.plays [] [] [] 1 4).bytes = [1#8, 1#8, 0#8, 1#8, 4#8] := by decide +kernel

/-! ### WellFormed refuses -/

theorem test_wf_unknown_kind : Instr.wellFormed (.unknownKind 0x01#8 0#8) = false := by decide +kernel
theorem test_wf_byte : Instr.wellFormed (.setMode 0#8 256) = false := by decide +kernel
theorem test_wf_word : Instr.wellFormed (.setTime 0#8 65536 1 1 0) = false := by decide +kernel
def checked5 : BellNo := ⟨5, by decide +kernel⟩
theorem test_wf_quad : Instr.wellFormed (.setTime 0#8 2000 1 1 4294967296) = false := by decide +kernel
theorem test_wf_six : Instr.wellFormed (.liveNote 0#8 0 1 1 281474976710656) = false := by decide +kernel
theorem test_wf_pairs : Instr.wellFormed (.bellSet 0#8 0 [(0, 65536)]) = false := by decide +kernel
theorem test_wf_pair_count : Instr.wellFormed (.settingsSet 0#8 (List.replicate 83 (0, 0))) = false := by decide +kernel
theorem test_wf_bell_service : Instr.wellFormed (.bellService 0#8 256 0) = false := by decide +kernel
theorem test_wf_bell_get : Instr.wellFormed (.bellGet 0#8 256) = false := by decide +kernel
def checked6 : BellNo := ⟨6, by decide +kernel⟩
theorem test_wf_name : Instr.wellFormed (.tuneOpen 0#8 1 100 0 1 (List.replicate 241 0#8)) = false := by decide +kernel
theorem test_wf_event : Instr.wellFormed (.tuneEvents 0#8 1 0 [{ step := 0, bell := 64, dynamic := 1, nudge := 0 }]) = false := by decide +kernel
theorem test_wf_event_count :
    Instr.wellFormed (.tuneEvents 0#8 1 0 (List.replicate 62 { step := 0, bell := 0, dynamic := 1, nudge := 0 })) = false := by decide +kernel
theorem test_wf_tune_close : Instr.wellFormed (.tuneClose 0#8 1 65536 0) = false := by decide +kernel
theorem test_wf_tunes : (Instr.wellFormed (.tuneDelete 0#8 256) || Instr.wellFormed (.tuneInfo 0#8 256) ||
    Instr.wellFormed (.tuneList 0#8 256)) = false := by decide +kernel
theorem test_wf_slots : (Instr.wellFormed (.programGet 0#8 256) || Instr.wellFormed (.programClear 0#8 256)) = false := by decide +kernel
def checked7 : BellNo := ⟨7, by decide +kernel⟩
theorem test_wf_stop : Instr.wellFormed (.stop 0#8 0 256) = false := by decide +kernel

/-- The payload of a PROGRAM SET for a toll at every hour. -/
def slotWire : SlotWire :=
  { enabled := 1, second := 8, minute := 0, hours := 16777215, datePresent := 0, year := 0, month := 0, day := 0, weekdays := 127, kind := 1,
    tune := 1, tollBell := 3, tollDynamic := 5, tollInterval := 2000, countMode := 1, n := 0, priority := 3, lateLimit := 60 }

/-- The payload of a PLAY NOW of that toll. -/
def playWire : PlayNowWire :=
  { kind := 1, tune := 1, tollBell := 3, tollDynamic := 5, tollInterval := 2000, countMode := 0, n := 4, priority := 3, delay := 0 }

theorem test_wf_slot_wire : Instr.wellFormed (.programSet 0#8 0 { slotWire with hours := 16777216 }) = false := by decide +kernel
theorem test_wf_play_wire : Instr.wellFormed (.playNow 0#8 { playWire with delay := 65536 }) = false := by decide +kernel
theorem test_wf_temperature : Instr.wellFormed (.driverTemperatureReading 151) = false := by decide +kernel
theorem test_wf_supply : Instr.wellFormed (.supplySample 1001) = false := by decide +kernel
theorem test_no_word_spells_a_command : decodeTableWord 0 0 = none := by decide +kernel

/-! ### Witnesses: states that meet the statements' hypotheses -/

def checked8 : BellNo := ⟨8, by decide +kernel⟩
/-- A part whose link is as after a start, outside LOADING, takes requests. -/
theorem takes_of {s : State} (h : s.link = LinkPort.start false) (k : s.ctl.mode ≠ .loading) : s.Takes :=
  ⟨by rw [h]; rfl, by rw [h]; decide, k⟩

theorem base_takes : base.Takes := takes_of rfl (by decide)
theorem act_takes : act.Takes := takes_of rfl (by decide)

/-- A sound part in the middle of its work: ACTIVE, an entry queued, bell 1 driven, an upload open, a version of tune 1 kept. -/
def busy : State :=
  { driving drive1 with
    sched := queued0.sched
    tunes := { (uploading (upload 2 [event0])).tunes with
      slots := base.tunes.slots.set 0 { current := some { version1 with users := 0, blocks := [1] }, retiring := none }, nextSerial := 2 }
    engine := { act.engine with waiting := [{ toll3 with state := .waiting, start := none }], lastId := 7, nextLaunch := 2 }
    pending := [.status 1#8] }

theorem busy_steps : ∃ t, step busy = .next t := ⟨_, rfl⟩

theorem busy_bell (b : BellNo) : busy.bell b = if b = 1 then { Bell.start with hammer := .drive, drive := some drive1 } else Bell.start := by
  revert b; decide +kernel

theorem witness_StepKeepsTheModes : busy.ModesLaw ∧ ∃ t, step busy = .next t :=
  ⟨⟨by decide, by intro m h; exact absurd h (by decide +revert), by decide, by decide, by decide, by decide, by decide⟩, busy_steps⟩
def checked9 : BellNo := ⟨9, by decide +kernel⟩
theorem witness_StepKeepsTheModes_halted : halted.ModesLaw :=
  ⟨by decide, by intro m h; have : m = .active := by simpa [halted] using h.symm
                 subst this; rfl, by decide, by decide, by decide, by decide, by decide⟩
theorem witness_StepKeepsTheLinkQueuesBounded : busy.LinkLaw ∧ ∃ t, step busy = .next t := ⟨⟨by decide, by decide⟩, busy_steps⟩
theorem witness_StepKeepsTheClockSound : busy.ClockLaw ∧ ∃ t, step busy = .next t :=
  ⟨⟨by decide, by decide, by decide, by decide⟩, busy_steps⟩
theorem busy_bells : busy.BellsLaw := by
  intro b
  rw [busy_bell]
  split
  · next h => subst h; exact ⟨by decide, by simp [Bell.start], by decide, by decide, by decide, by decide⟩
  · exact ⟨by revert b; decide +kernel, by simp [Bell.start], by decide, by decide, by decide, by decide⟩
theorem witness_StepKeepsTheBellRecords : busy.BellsLaw ∧ ∃ t, step busy = .next t := ⟨busy_bells, busy_steps⟩
theorem witness_StepKeepsTheDriveBudget : busy.ModesLaw ∧ busy.DriveLaw ∧ ∃ t, step busy = .next t := by
  refine ⟨witness_StepKeepsTheModes.1, ⟨fun b => ?_, by decide +kernel, by decide, by decide⟩, busy_steps⟩
  rw [busy_bell]; split <;> simp [Bell.start]
theorem witness_StepKeepsTheFiringQueue : busy.BellsLaw ∧ busy.QueueLaw ∧ ∃ t, step busy = .next t :=
  ⟨busy_bells, ⟨by decide, by decide, by decide, by decide, by decide +kernel, by decide, by decide, by decide⟩, busy_steps⟩
def checked10 : BellNo := ⟨10, by decide +kernel⟩
theorem busy_plays : busy.PlaysLaw := ⟨by decide, by decide, by decide, by decide⟩
theorem witness_StepKeepsThePlays : busy.PlaysLaw ∧ ∃ t, step busy = .next t := ⟨busy_plays, busy_steps⟩
theorem witness_StepKeepsThePlayIds : busy.PlaysLaw ∧ busy.PlayIdsLaw ∧ ∃ t, step busy = .next t :=
  ⟨busy_plays, ⟨by decide, by decide⟩, busy_steps⟩
theorem witness_StepKeepsThePoolUnshared : busy.PoolLaw ∧ ∃ t, step busy = .next t := ⟨⟨by decide +kernel, by decide +kernel⟩, busy_steps⟩
theorem busy_upload : busy.UploadLaw := ⟨by decide, by decide, by decide, by decide, by decide +kernel, by decide, by decide⟩
theorem witness_StepKeepsTheVersionsHeld : busy.PlaysLaw ∧ busy.UploadLaw ∧ busy.VersionsLaw ∧ ∃ t, step busy = .next t := by
  refine ⟨busy_plays, busy_upload, ⟨by decide +kernel, by decide +kernel, by decide +kernel, by decide +kernel, ?_, by decide +kernel, by decide +kernel,
    by decide +kernel, by decide +kernel⟩, busy_steps⟩
  intro t n h
  have : busy.holders t n = 0 := rfl
  omega
theorem witness_StepKeepsTheUpload : busy.UploadLaw ∧ ∃ t, step busy = .next t := ⟨busy_upload, busy_steps⟩

def checked11 : BellNo := ⟨11, by decide +kernel⟩
theorem witness_ResetsRestartThePart : base.nv.write = none ∧ (writing .commit).nv.write ≠ none ∧ base.Takes ∧
    ({ base with link := { base.link with restart := .due } } : State).link.restart = .due :=
  ⟨rfl, by decide, base_takes, rfl⟩
theorem witness_EndOfLoadingDecidesTheMode : State.reset.ctl.mode = .loading ∧ State.reset.nv.areaMatches = false ∧
    ({ State.reset.nv with areaMatches := true } : NvStore).area.formOk = true ∧
    (∀ b, (State.reset.bell b).drive = none ∧ (State.reset.bell b).window = none) ∧ base.ctl.mode ≠ .loading := by decide +kernel
/-- A part in LOADING with three stored versions: one good, one whose blocks clash with it, one whose check fails. -/
def storing : State :=
  let good : StoredTune := { version := { version1 with anchorStep := 0 }, crcMatches := true, countReadable := true }
  { State.reset with nv := { State.reset.nv with entries :=
      ((State.reset.nv.entries.set 0 (some good)).set 1 (some good)).set 95 (some { good with crcMatches := false }) } }
theorem witness_EndOfLoadingDecidesTheMode_tunes : storing.ctl.mode = .loading ∧
    (storing.nv.entries[(0 : Fin 96)].map fun e => e.crcMatches && e.version.formOk) = some true ∧ storing.nv.entries[(2 : Fin 96)] = none ∧
    (after .endOfLoading storing).tunes.slots[(0 : Fin 96)].current.isSome = true ∧
    (after .endOfLoading storing).nv.entries[(1 : Fin 96)] = none ∧ (after .endOfLoading storing).nv.entries[(95 : Fin 96)] = none := by decide +kernel
theorem witness_FrameBytesRunTheirRequest : ([] : List Byte).length ≤ 248 ∧ base.link.restart = .none ∧ base.link.receiver = .hunt ∧
    decodeRequest (0x01#8).toNat 7#8 [] = some (.status 7#8) ∧ (0x7F#8).toNat ∉ requestCodes ∧
    (0x02#8).toNat ∈ requestCodes ∧ decodeRequest (0x02#8).toNat 7#8 [] = none ∧ (List.replicate 248 (0#8 : Byte)).length ≤ 248 := by decide +kernel
theorem witness_FrameBytesRunTheirRequest_takes :
    ({ base.transmit with link := { base.transmit.link with receiver := .hunt, lastByte := base.nowTicks } } : State).Takes :=
  ⟨rfl, by decide, by decide⟩
/-- The part with a receiver state. -/
def receiving (r : Receiver) : State := { base with link := { base.link with receiver := r } }
theorem witness_ReceiverFollowsItsTable : base.link.restart = .none ∧ base.link.receiver = .hunt ∧ (receiving .length).link.receiver = .length ∧
    (receiving (.kind 248)).link.receiver = .kind 248 ∧ (receiving (.tag 0 1#8)).link.receiver = .tag 0 1#8 ∧
    (receiving (.payload 1 1#8 1#8 [])).link.receiver = .payload 1 1#8 1#8 [] ∧
    (receiving (.check 0 1#8 1#8 [] none)).link.receiver = .check 0 1#8 1#8 [] none ∧
    (receiving (.check 0 1#8 1#8 [] (some 0#8))).link.receiver = .check 0 1#8 1#8 [] (some 0#8) ∧
    (receiving .length).link.receiver ≠ .hunt ∧ (receiving .length).link.lastByte + 400 ≤ (receiving .length).nowTicks ∧
    ({ receiving .length with timer := { base.timer with ms := 19, tick := 19 } } : State).nowTicks < base.link.lastByte + 400 ∧
    ({ base with link := { base.link with restart := .due } } : State).link.restart ≠ .none := by decide +kernel
/-- A reply that waits. -/
def reply0 : Reply := { code := 1#8, tag := 0#8, result := .ok, body := .nothing }
/-- The part with n replies waiting and no frame on the line. -/
def waitingReplies (n : Nat) : State := { base with link := { base.link with replies := List.replicate n reply0 } }
theorem witness_RepliesJoinTheReplyQueue : requestCodeOf (.status 0#8) = some 1 ∧ 0x21 < 256 ∧ 0x21 ∉ requestCodes ∧
    (waitingReplies 3).link.restart = .none ∧ (waitingReplies 3).link.replies.length < 4 ∧ (waitingReplies 4).link.restart = .none ∧ 4 ≤ (waitingReplies 4).link.replies.length ∧ (waitingReplies 1).link.replies = [reply0] ∧
    (waitingReplies 1).link.tx = none ∧ (waitingReplies 1).link.txStopped = false :=
  ⟨rfl, by decide, by decide, rfl, by decide, rfl, by decide, rfl, rfl, rfl⟩
def checked12 : BellNo := ⟨12, by decide +kernel⟩
theorem witness_RequestsStoppedAtTheLinkPort : requestCodeOf (.save 0#8) = some 12 ∧ State.reset.ctl.mode = .loading ∧
    State.reset.link.restart = .none ∧ State.reset.link.replies.length < 4 ∧ base.Takes ∧ ([] : List EventRec).length = 0 ∧
    60 < (List.replicate 61 event0.toRec).length ∧ (0x21#8).toNat ∉ requestCodes ∧
    4 ≤ (waitingReplies 4).link.replies.length :=
  ⟨rfl, rfl, rfl, by decide, base_takes, rfl, by decide, by decide, by decide⟩
/-- The part sending a frame. -/
def sendingReply (restart : RestartStage) (code : Byte) (replies : List Reply) (reports : List Report) : State :=
  { base with link := { base.link with
      tx := some { frame := .reply { reply0 with code := code }, bytes := [] }, restart := restart, replies := replies, reports := reports } }
theorem witness_RepliesGoBeforeReports :
    (sendingReply .none 1#8 [reply0] []).link.tx = some { frame := .reply { reply0 with code := 1#8 }, bytes := [] } ∧
    (sendingReply .none 1#8 [reply0] []).link.txStopped = false ∧
    (sendingReply .none 1#8 [] [.clock (.rangeEnd 0 0)]).link.reports = [.clock (.rangeEnd 0 0)] ∧
    (sendingReply .replying 4#8 [] []).link.restart = .replying ∧
    (Frame.reply { reply0 with code := 4#8 }).isRestartReply = true ∧ base.link.tx = none := by decide +kernel
theorem witness_StatusReadsAndClears : base.link.restart = .none ∧ base.link.replies.length < 4 ∧ (waitingReplies 3).link.replies.length < 4 := by
  decide +kernel
theorem witness_ReadingsChangeNothing : base.Takes ∧ holding1.Takes ∧ holding1.tunes.versionsOf 0 ≠ [] ∧
    base.tunes.versionsOf 95 = [] ∧ base.tunes.staging = .none ∧ (uploading (upload 1 [])).Takes ∧
    (uploading (upload 1 [])).tunes.staging = .opened (upload 1 []) ∧ base.slots[(63 : Fin 64)].fields.kind = .tune :=
  ⟨base_takes, takes_of rfl (by decide), by decide +kernel, by decide +kernel, rfl, takes_of rfl (by decide), rfl, by decide +kernel⟩

theorem witness_SetModeFollowsItsTable : base.Takes ∧ base.ctl.mode = .silent ∧ base.clock.valid = true ∧ act.Takes ∧ act.ctl.mode = .active ∧
    halted.Takes ∧ halted.ctl.mode = .halt ∧ (inMode .console).Takes ∧ (inMode .commission).Takes ∧
    ({ base with clock := { base.clock with valid := false } } : State).Takes :=
  ⟨base_takes, rfl, rfl, act_takes, rfl, takes_of rfl (by decide), rfl, takes_of rfl (by decide), takes_of rfl (by decide), takes_of rfl (by decide)⟩
theorem witness_CommissionEndStartsItsWrite : (inMode .commission).Takes ∧ (inMode .commission).ctl.mode = .commission ∧
    (inMode .commission).nv.write = none ∧ base.ctl.mode ≠ .commission ∧
    ({ inMode .commission with nv := { base.nv with write := some .commit } } : State).Takes :=
  ⟨takes_of rfl (by decide), rfl, rfl, by decide, takes_of rfl (by decide)⟩
def checked13 : BellNo := ⟨13, by decide +kernel⟩
/-- The part with two highs of the key already sampled. -/
def keyRising : State := { dueAll act with ctl := { act.ctl with keyHist := [true, true, false, false, false] } }
/-- The part in CONSOLE with three highs of the key in the last five samples. -/
def keyFalling : State :=
  { dueAll act with ctl := { act.ctl with mode := .console, remembered := some .active, keyOut := true, keyHist := [false, true, true, false, true] } }
theorem witness_ConsoleKeyEntersAndLeavesConsole : base.timer.due.key = false ∧ keyRising.timer.due.key = true ∧
    keyRising.ctl.keyOut = false ∧ 3 ≤ ((true :: keyRising.ctl.keyHist).take 5).countP id ∧ keyRising.ctl.mode.returnable = true ∧
    keyFalling.ctl.keyOut = true ∧ ((false :: keyFalling.ctl.keyHist).take 5).countP id < 3 ∧ keyFalling.ctl.mode = .console ∧
    keyFalling.ctl.remembered = some .active ∧ Mode.active.returnable = true := by decide +kernel

theorem witness_WallInstantsAreDatesAndBack : Date.valid { year := 2099, month := 12, day := 31 } = true ∧ 86399999 < 86400000 ∧
    Date.valid { year := 2000, month := 2, day := 29 } = true := by decide +kernel
theorem witness_SetTimeStepsTheWallClock : base.Takes ∧ Date.valid { year := 2001, month := 2, day := 29 } = false ∧
    Date.valid { year := 2000, month := 1, day := 1 } = true ∧ base.clock.valid = true ∧
    wallOf { year := 2000, month := 1, day := 1 } 0 ≤ base.clock.wall ∧
    ({ base with clock := { base.clock with valid := false }, ctl := { base.ctl with resumePending := true } } : State).Takes ∧ base.ctl.mode = .silent :=
  ⟨base_takes, by decide +kernel, by decide +kernel, rfl, by decide +kernel, takes_of rfl (by decide), rfl⟩
/-- The part at the last wall instant of the range. -/
def atRangeEnd : State := { base with clock := { base.clock with wall := Config.rangeEnd - 1, second := Config.rangeEnd - 1000 } }
theorem witness_RunTimeAdvancesEveryMs : base.clock.valid = true ∧ (base.timer.ms + 1) % 50 ≠ 0 ∧ base.clock.wall + 1 < Config.rangeEnd ∧
    ({ base with clock := { base.clock with wall := 5998 } } : State).clock.wall + 1 < base.clock.second + 1000 ∧
    atRangeEnd.clock.wall + 1 = Config.rangeEnd ∧ ({ base with timer := { base.timer with ms := 49 } } : State).timer.ms % 50 = 49 := by
  decide +kernel
theorem witness_SlewMovesTheRemainderTowardZero : base.timer.due.slew = false ∧ (dueAll base).timer.due.slew = true ∧
    (dueAll base).clock.valid = true ∧ (dueAll base).clock.wall + 2 < Config.rangeEnd ∧
    (dueAll { base with clock := { base.clock with wall := 5500, slew := 2000 } }).clock.wall + 2 < base.clock.second + 1000 ∧
    (dueAll { base with clock := { base.clock with valid := false } }).clock.valid = false := by decide +kernel
/-- The part with two highs of the minute pulse already sampled, its clock showing a wall instant. -/
def pulseRising (wall : Nat) (last : Option Nat) : State :=
  { dueAll base with clock :=
      { base.clock with wall := wall, second := wall / 1000 * 1000, lastPulse := last, pulseHist := [true, true, false, false, false] } }
theorem witness_MinutePulsesSetTheSlew : base.timer.due.pulse = false ∧ (pulseRising 62002 none).timer.due.pulse = true ∧
    (pulseRising 62002 none).clock.pulseOut = false ∧ 3 ≤ ((true :: (pulseRising 62002 none).clock.pulseHist).take 5).countP id ∧
    (pulseRising 62002 none).ctl.mode ≠ .loading ∧ (pulseRising 62002 none).globals.pulseEnable = true ∧
    ((62002 : Int) - 2) % 60000 = 2000 ∧ ((62003 : Int) - 2) % 60000 = 2001 ∧ ((57000 : Int) - 2) % 60000 = 56998 ∧
    (pulseRising 62002 (some 9000)).clock.lastPulse = some 9000 ∧ (pulseRising 62002 none).timer.ms - 2 < 9000 + 50000 := by decide +kernel

def checked14 : BellNo := ⟨14, by decide +kernel⟩
/-- Bell 0 quiet, bell 1 driven, bell 2 RESTING with its heat just below heat_release. -/
def bellsMixed : State :=
  withBell (driving drive1) 2 fun r => { r with service := .resting, heat := 11999 }
theorem witness_BellSetAppliesOrWaits : act.Takes ∧ Patch.ofPairs [(0, 3000)] = some { Patch.empty with recovery := some 3000 } ∧
    Patch.ofPairs [(0, 59)] = none ∧ (Settings.default.over { Patch.empty with recovery := some 3000 }).wellFormed 0 = true ∧
    (Settings.default.over { Patch.empty with leadMin := some 250 }).wellFormed 0 = false ∧
    (∀ e ∈ act.sched.queue, e.bell ≠ 0) ∧ (act.bell 0).hammer = .idle ∧ (bellsMixed.bell 1).hammer ≠ .idle ∧
    ({ Patch.empty with heatRest := some 2 } : Patch).heatRest.isSome ∧ 15 < (List.replicate 16 (0, 60)).length :=
  ⟨act_takes, by decide, by decide, by decide, by decide, by decide, by decide +kernel, by decide +kernel, rfl, by decide⟩
theorem witness_BellServiceFollowsItsTable : act.Takes ∧ (act.bell 47).service = .inService ∧
    bellsMixed.Takes ∧ (bellsMixed.bell 2).service = .resting ∧
    ((withBell act 0 fun r => { r with service := .withdrawn, heat := 40000 }).bell 0).service = .withdrawn ∧
    ((withBell act 0 fun r => { r with service := .faulted .short }).bell 0).service = .faulted .short ∧
    (withBell act 0 fun r => { r with service := .faulted .short }).Takes :=
  ⟨act_takes, by decide +kernel, takes_of rfl (by decide), by decide +kernel, by decide +kernel, by decide +kernel, takes_of rfl (by decide)⟩
theorem witness_SettingsSetTakesEffect : act.Takes ∧ GlobalPatch.ofPairs [(0, 64)] = some { GlobalPatch.empty with driveBudget := some 64 } ∧
    GlobalPatch.ofPairs [(0, 65)] = none ∧ GlobalPatch.ofPairs [(9, 120)] = some { GlobalPatch.empty with vNom := some 120 } ∧
    (∀ b, (act.bell b).hammer ≠ .drive) ∧ (driving drive1).Takes ∧ ¬ (∀ b, ((driving drive1).bell b).hammer ≠ .drive) :=
  ⟨act_takes, by decide, by decide, by decide, by decide +kernel, takes_of rfl (by decide), by decide +kernel⟩
theorem witness_SavedSettingsReplaceTheArea : base.Takes ∧ base.nv.write = none ∧ (writing .commit).Takes ∧
    (writing (.save StoredArea.default)).nv.write = some (.save StoredArea.default) ∧
    (writing (.commission StoredArea.default)).nv.write = some (.commission StoredArea.default) :=
  ⟨base_takes, rfl, takes_of rfl (by decide), rfl, rfl⟩

theorem witness_TuneOpenReservesBlocks : base.Takes ∧ ([] : List Byte).length ≤ 16 ∧ base.tunes.slots[(0 : Fin 96)].retiring = none ∧
    base.nv.write = none ∧ (2048 + 31) / 32 ≤ base.tunes.freeBlocks.length ∧ (writing .commit).nv.write ≠ none ∧
    ({ base.tunes with slots := base.tunes.slots.set 1 { current := some { version1 with blocks := List.range 256 }, retiring := none } } :
      TuneStore).freeBlocks.length < 1 :=
  ⟨base_takes, by decide, by decide +kernel, rfl, by decide +kernel, by decide, by decide +kernel⟩
theorem witness_TuneEventsAcceptOrderedLists : (uploading (upload 2 [event0])).Takes ∧
    (uploading (upload 2 [event0])).tunes.staging = .opened (upload 2 [event0]) ∧ (upload 2 [event0]).Law ∧ tuneNumber (upload 2 [event0]).tune = 1 ∧
    [({ event0 with bell := 3 } : Event).toRec].map eventOf = [{ event0 with bell := 3 }].map some ∧
    eventsOrdered ((upload 2 [event0]).events ++ [{ event0 with bell := 3 }]) = true ∧ eventsOrdered ((upload 2 [event0]).events ++ [event0]) = false :=
  ⟨takes_of rfl (by decide), rfl, ⟨by decide, by decide, by decide, by decide, by decide +kernel, by decide, by decide⟩, rfl, by decide, by decide,
    by decide⟩
def checked15 : BellNo := ⟨15, by decide +kernel⟩
theorem witness_TuneCloseStartsTheCommit : (uploading (upload 1 [event0])).Takes ∧
    (uploading (upload 1 [event0])).tunes.staging = .opened (upload 1 [event0]) ∧ 1 = tuneNumber (upload 1 [event0]).tune ∧
    1 = (upload 1 [event0]).events.length ∧ 1 = (upload 1 [event0]).declared ∧ (uploading (upload 1 [event0])).nv.write = none ∧
    ({ base with tunes := { base.tunes with staging := .committing (upload 1 [event0]) } } : State).Takes :=
  ⟨takes_of rfl (by decide), rfl, rfl, rfl, rfl, rfl, takes_of rfl (by decide)⟩
/-- The part with a commit in flight that replaces a version in use. -/
def committing1 : State :=
  { holding1 with tunes := { holding1.tunes with staging := .committing (upload 1 [event0]) }, nv := { base.nv with write := some .commit } }
theorem witness_CommitsEndInASwitchOrFail : committing1.tunes.staging = .committing (upload 1 [event0]) ∧ committing1.nv.write = some .commit ∧
    base.nv.write ≠ some .commit := by decide +kernel
theorem witness_TuneDeleteErasesItsEntry : holding1.Takes ∧ holding1.tunes.slots[(0 : Fin 96)].current = some version1 ∧ holding1.nv.write = none ∧
    holding1.tunes.slots[(95 : Fin 96)].current = none ∧ (writing (.erase 0 1 1)).nv.write = some (.erase 0 1 1) :=
  ⟨takes_of rfl (by decide), by decide +kernel, rfl, by decide +kernel, rfl⟩

theorem witness_ProgramSetJudgesEveryField : base.Takes ∧ (slotFieldsOf slotWire).isSome = true ∧
    slotFieldsOf { slotWire with hours := 0 } = none ∧ slotFieldsOf { slotWire with lateLimit := 601 } = none ∧
    (slotFieldsOf { slotWire with lateLimit := 600, weekdays := 0, datePresent := 1, year := 2024, month := 2, day := 29 }).isSome = true :=
  ⟨base_takes, by decide +kernel, by decide +kernel, by decide +kernel, by decide +kernel⟩
/-- A slot due at 00:00:08 every day. -/
def slot8 : SlotFields :=
  { SlotFields.empty with
    enabled := true, second := 8, hours := 0xFFFFFF#24, weekdays := 0x7F#7, kind := .toll, tollBell := 3, countMode := .hour12 }
/-- The part in ACTIVE, 1 ms before the wall second 6, with that slot. -/
def nearSecond : State := { act with slots := act.slots.set 0 { fields := slot8, marker := none } }
theorem witness_CrossingsMarkTheirOccurrences : nearSecond.clock.valid = true ∧ 6000 = nearSecond.clock.wall + 1 ∧
    nearSecond.clock.second + 1000 ≤ 6000 ∧ (nearSecond.timer.ms + 1) % 50 ≠ 0 ∧ nearSecond.ctl.mode ≠ .loading ∧
    (nearSecond.anchorOf slot8 + 2999) / 1000 = 2 ∧ slot8.matchesAt 8000 = true ∧ 6000 < 8000 ∧ 8000 ≤ 6000 + 2 * 1000 := by decide +kernel
theorem near_others (m : Fin 64) (h : m ≠ 0) (d : Nat) : nearSecond.slots[m].fields.matchesAt d = false := by
  have : nearSecond.slots[m].fields = SlotFields.empty := by revert m; decide +kernel
  rw [this]; rfl
theorem witness_CrossingsMarkTheirOccurrences_alone : nearSecond.slots[(0 : Fin 64)].fields = slot8 ∧
    nearSecond.slots[(0 : Fin 64)].marker = none ∧
    ∀ m : Fin 64, m ≠ 0 → ∀ d, 6000 < d → d ≤ 6000 + 3600000 → nearSecond.slots[m].fields.matchesAt d = false :=
  ⟨by decide +kernel, by decide +kernel, fun m h d _ _ => near_others m h d⟩
/-- R133: a step from 5 999 to 7 000 ms passes second 6, the launch second of the toll due at second 8. -/
theorem witness_SetTimeStepsTheWallClock_forward : nearSecond.Takes ∧ nearSecond.clock.valid = true ∧ nearSecond.clock.wall = 5999 ∧
    wallOf { year := 2000, month := 1, day := 1 } 7000 = 7000 ∧ nearSecond.LatestPassed 0 5999 7000 8000 ∧
    (∀ m : Fin 64, m ≠ 0 → ∀ d, nearSecond.clock.wall < d → nearSecond.slots[m].fields.matchesAt d = false) ∧
    ∀ o, ¬ nearSecond.Passes 1 5999 7000 o := by
  refine ⟨takes_of rfl (by decide), rfl, rfl, by decide +kernel, ⟨⟨by decide, by decide, by decide +kernel, by decide +kernel, by decide +kernel,
    by decide +kernel, fun m h => by rw [show nearSecond.slots[(0 : Fin 64)].marker = none by decide +kernel] at h; cases h⟩, ?_⟩, fun m h d _ => near_others m h d, ?_⟩
  · intro x h
    have k : (((nearSecond.anchorOf nearSecond.slots[(0 : Fin 64)].fields + 2999) / 1000 : Nat) : Int) = 2 := by decide +kernel
    obtain ⟨h1, -, h3, -, -, h6, -⟩ := h
    simp only [k] at h6
    by_contra hx
    have : x = 9000 := by omega
    subst this
    exact absurd h3 (by decide +kernel)
  · intro o h
    exact absurd h.2.2.1 (by rw [near_others 1 (by decide)]; decide)
theorem witness_StrokeCountsFollowTheHour : slot8.kind = .toll ∧ slot8.inRange = true := by decide +kernel
def checked16 : BellNo := ⟨16, by decide +kernel⟩
theorem witness_PlayNowLaunchesAPlay : act.Takes ∧ (playOrderOf playWire).isSome = true ∧ playOrderOf { playWire with delay := 601 } = none ∧
    act.ctl.mode = .active ∧ act.clock.valid = true ∧ base.ctl.mode ≠ .active ∧
    (playOrderOf { playWire with kind := 0 }).isSome = true ∧ act.tunes.slots[(0 : Fin 96)].current = none :=
  ⟨act_takes, by decide +kernel, by decide +kernel, rfl, rfl, by decide, by decide +kernel, by decide +kernel⟩
theorem act_settled : act.Settled := ⟨by decide +kernel, by decide +kernel, fun _ => .inr rfl⟩
/-- The first note of a PLAY NOW at a state lies beyond the horizon. -/
def firstBeyond (s : State) (w : PlayNowWire) : Bool :=
  ((playOrderOf w).bind fun o => s.nextNote (s.begun (s.newPlay (s.playNowLaunch o)))).any
    fun x : BellNo × Int × Nat => decide ((2000 : Int) < x.2.1 - (s.timer.ms : Int))
/-- The part in ACTIVE with a version of tune 1. -/
def tuneful : State := { act with tunes := holding1.tunes }
theorem witness_PlayNowLaunchesAPlay_free : act.freePlayer = some .p0 ∧ act.Settled ∧ firstBeyond act { playWire with delay := 3 } = true ∧
    tuneful.Takes ∧ tuneful.freePlayer = some .p0 ∧ tuneful.Settled ∧ tuneful.tunes.slots[(0 : Fin 96)].current = some version1 ∧
    firstBeyond tuneful { playWire with kind := 0, delay := 3 } = true :=
  ⟨by decide +kernel, act_settled, by decide +kernel, takes_of rfl (by decide), by decide +kernel,
    ⟨by decide +kernel, by decide +kernel, fun _ => .inr rfl⟩, by decide +kernel, by decide +kernel⟩
/-- Both players held, Player 0's play without a drive. -/
def undriven : State := { bothPlaying with engine := { bothPlaying.engine with player0 := { play := some toll3, incoming := none } } }
theorem witness_PlayNowLaunchesAPlay_undriven : undriven.Takes ∧ undriven.freePlayer = none ∧ undriven.Settled ∧ undriven.PlaysLaw ∧ undriven.PlayIdsLaw ∧
    undriven.victim = some (.p0, toll3) ∧ toll3.priority < 3 ∧ toll3.drives = 0 ∧ firstBeyond undriven { playWire with delay := 3 } = true :=
  ⟨takes_of rfl (by decide), by decide +kernel, ⟨by decide +kernel, by decide +kernel, fun _ => .inl (by decide +kernel)⟩,
    ⟨by decide, by decide, by decide +kernel, by decide⟩, ⟨by decide +kernel, by decide +kernel⟩, by decide +kernel, by decide, rfl, by decide +kernel⟩
/-- Both players held, and eight plays of priority 1 waiting. -/
def crowded : State :=
  { bothPlaying with engine := { bothPlaying.engine with
      waiting := (List.range 8).map fun i => { toll3 with id := 9 + i, start := none, state := .waiting, priority := 1, launchSeq := 3 + i } } }
theorem witness_PlayNowLaunchesAPlay_crowded : crowded.Takes ∧ crowded.freePlayer = none ∧ crowded.Settled ∧ 8 ≤ crowded.engine.waiting.length ∧
    (weakest crowded.engine.waiting).map (fun k => (k.id, k.priority)) = some (16, 1) ∧
    (crowded.player .p0).candidate.map (·.priority) = some 2 ∧ (crowded.player .p1).candidate.map (·.priority) = some 5 :=
  ⟨takes_of rfl (by decide), by decide +kernel, ⟨by decide +kernel, by decide +kernel, fun _ => .inl (by decide +kernel)⟩, by decide +kernel,
    by decide +kernel, by decide +kernel, by decide +kernel⟩
def checked22 : BellNo := ⟨22, by decide +kernel⟩
theorem both_settled : bothPlaying.Settled := ⟨by decide +kernel, by decide +kernel, fun _ => .inl (by decide +kernel)⟩
theorem both_ids : bothPlaying.PlayIdsLaw := ⟨by decide +kernel, by decide +kernel⟩
theorem witness_PlayNowLaunchesAPlay_held : bothPlaying.Takes ∧ bothPlaying.freePlayer = none ∧ bothPlaying.Settled ∧ bothPlaying.PlayIdsLaw ∧
    bothPlaying.engine.waiting.length < 8 ∧ bothPlaying.victim = some (.p0, { toll3 with drives := 1 }) ∧ ({ toll3 with drives := 1 } : Play).priority < 3 :=
  ⟨takes_of rfl (by decide), by decide +kernel, both_settled, both_ids, by decide, by decide +kernel, by decide⟩
theorem witness_StopEndsThePlaysNamed : bothPlaying.Takes ∧ bothPlaying.PlayIdsLaw ∧ (∀ q ∈ bothPlaying.playRecords, q.id ≠ 255) ∧
    ({ bothPlaying with engine := { bothPlaying.engine with waiting := [{ toll3 with id := 9, start := none, state := .waiting }] } } : State).Settled ∧
    ({ bothPlaying with engine := { bothPlaying.engine with waiting := [{ toll3 with id := 9, start := none, state := .waiting }] } } : State).PlayIdsLaw ∧
    toll3.kind.unstarted = true :=
  ⟨takes_of rfl (by decide), both_ids, by decide +kernel, ⟨by decide +kernel, by decide +kernel, fun _ => .inl (by decide +kernel)⟩,
    ⟨by decide +kernel, by decide +kernel⟩, rfl⟩
/-- The drive of Player 0's play will cut it for an INCOMING play, id 9. -/
def oneIncoming : State :=
  { bothPlaying with engine := { bothPlaying.engine with player0 :=
      { play := some { toll3 with drives := 1, fixed := some (.cut 9), state := .draining }
        incoming := some { toll3 with id := 9, start := none, state := .incoming, launchSeq := 3 } } } }
/-- STOP ONE: a running play with a drive, one without, one with a fixed outcome, an INCOMING one. -/
theorem witness_StopEndsThePlaysNamed_one : (undriven.player .p0).play = some toll3 ∧ toll3.id = 7 ∧ toll3.fixed = none ∧ toll3.drives = 0 ∧
    undriven.Takes ∧ undriven.PlayIdsLaw ∧ undriven.Settled ∧ undriven.engine.waiting = [] ∧ (undriven.player .p0).incoming = none ∧
    undriven.sched.held = [] ∧ undriven.sched.granted = [] ∧ (∀ e ∈ undriven.sched.queue, e.playId ≠ 7) ∧
    ((bothPlaying.player .p0).play.map (·.drives)) = some 1 ∧ oneIncoming.Takes ∧ oneIncoming.PlayIdsLaw ∧ oneIncoming.Settled ∧
    ((oneIncoming.player .p0).play.map (·.fixed)) = some (some (.cut 9)) ∧ ((oneIncoming.player .p0).incoming.map (·.id)) = some 9 ∧
    ((oneIncoming.player .p0).incoming.map (·.kind.unstarted)) = some true :=
  ⟨rfl, rfl, rfl, rfl, takes_of rfl (by decide), ⟨by decide +kernel, by decide +kernel⟩,
    ⟨by decide +kernel, by decide +kernel, fun _ => .inl (by decide +kernel)⟩, rfl, rfl, rfl, rfl, by decide, rfl, takes_of rfl (by decide),
    ⟨by decide +kernel, by decide +kernel⟩, ⟨by decide +kernel, by decide +kernel, fun _ => .inl (by decide +kernel)⟩, rfl, rfl, rfl⟩

theorem act_queue : act.QueueLaw :=
  ⟨by decide, by decide, by decide, by decide, by decide, by decide, by decide, by decide⟩
def checked17 : BellNo := ⟨17, by decide +kernel⟩
/-- With nothing queued and no ready time, a note is admitted. -/
theorem act_admits (n f : Int) : act.Admits 5 n f :=
  ⟨.inl rfl, by intro t h; exact absurd h (by have : (act.bell 5).readyTime = none := by decide +kernel
                                              simp [this]), by simp [act, inMode, base, State.reset, Scheduler.start], by decide⟩
theorem witness_LiveNotesAreOffered : act.Takes ∧ act.QueueLaw ∧ act.Settled ∧ act.sched.held = [] ∧ act.Admits 5 10080 10000 ∧
    (act.bell 5).service = .inService ∧ (act.timer.ms : Int) ≤ 10080 - act.lead 5 5 ∧ (10060 : Int) - act.lead 5 5 < act.timer.ms ∧
    (act.timer.ms : Int) ≤ 10060 - act.lead 5 5 + (act.bell 5).settings.slack ∧ (10059 : Int) - act.lead 5 5 + (act.bell 5).settings.slack < act.timer.ms ∧
    base.ctl.mode ≠ .active ∧ Settings.default.leadMin < Settings.default.leadMax :=
  ⟨act_takes, act_queue, act_settled, rfl, act_admits _ _, by decide +kernel, by decide +kernel, by decide +kernel, by decide +kernel,
    by decide +kernel, by decide, by decide⟩
theorem witness_LiveNotesAreOffered_substitute :
    let s := withBell act 5 fun r => { r with service := .withdrawn, settings := { r.settings with substitute := some 6 } }
    s.Takes ∧ (s.bell 5).service ≠ .inService ∧ (s.bell 5).settings.substitute = some 6 ∧ (s.bell 6).service = .inService :=
  ⟨takes_of rfl (by decide), by decide +kernel, by decide +kernel, by decide +kernel⟩
/-- The queued part with bell 0 allowed no slack. -/
def tight : State := withBell queued0 0 fun r => { r with settings := { r.settings with slack := 0 } }
theorem witness_ConflictsKeepTheOutrankingNote : tight.Takes ∧ tight.QueueLaw ∧ tight.ctl.mode = .active ∧ (tight.bell 0).service = .inService ∧
    (tight.bell 0).settings.slack = 0 ∧ (tight.bell 0).readyTime = none ∧ 0 < (tight.bell 0).settings.recovery ∧
    tight.sched.queue.filter (·.bell = 0) = [entry0] ∧ (tight.timer.ms : Int) ≤ 10081 - tight.lead 0 5 ∧
    |entry0.fire - ((10081 : Int) - tight.lead 0 5)| < (tight.bell 0).settings.recovery ∧ tight.globals.livePriority = 4 ∧ entry0.priority = 3 ∧
    entry0.playId = 0 ∧ tight.Settled ∧ tight.sched.held = [] ∧
    ({ tight with globals := { tight.globals with noteReports := false, livePriority := 2 } } : State).globals.livePriority < entry0.priority :=
  ⟨takes_of rfl (by decide), ⟨by decide, by decide, by decide, by decide, by decide +kernel, by decide, by decide, by decide⟩, rfl, by decide +kernel,
    by decide +kernel, by decide +kernel, by decide +kernel, by decide, by decide +kernel, by decide +kernel, rfl, rfl, rfl,
    ⟨by decide +kernel, by decide +kernel, fun _ => .inr rfl⟩, rfl, by decide⟩
/-- The play of `toll3` with its next stroke 2 000 ms ahead. -/
def toll3near : Play := { toll3 with start := some 12000 }
theorem toll_admits (s : State) (h : s.sched.queue = []) (k : s.sched.granted.length < 64) (m : s.ctl.mode = .active)
    (r : (s.bell 3).readyTime = none) (n f : Int) : s.Admits 3 n f :=
  ⟨.inl m, by simp [r], by simp [h], by simp only [State.slotsTaken, h, Config.queueCap, List.length_nil]; omega⟩
def checked18 : BellNo := ⟨18, by decide +kernel⟩
theorem witness_PlayersOfferTheirNotes :
    let s := tolling toll3near
    s.QueueLaw ∧ s.PlayIdsLaw ∧ s.Settled ∧ s.sched.held = [] ∧ (s.player .p0).play = some toll3near ∧ toll3near.state = .feeding ∧
    s.receiver 3 = some (3, none) ∧ s.nextNote toll3near = some (3, 12000, 5) ∧
    s.nextNote { toll3near with nextIndex := 1 } = some (3, 17000, 5) ∧ (12000 : Int) - s.timer.ms ≤ 2000 ∧
    (s.timer.ms : Int) ≤ 12000 - s.lead 3 5 ∧ s.Admits 3 12000 (12000 - s.lead 3 5) :=
  ⟨⟨by decide, by decide, by decide, by decide, by decide, by decide, by decide, by decide⟩, ⟨by decide, by decide⟩,
    ⟨by decide +kernel, by decide +kernel, fun _ => .inr rfl⟩, rfl, rfl, rfl, by decide +kernel, by decide +kernel, by decide +kernel, by decide,
    by decide +kernel, toll_admits _ rfl (by decide) rfl (by decide +kernel) _ _⟩
/-- The play's note granted a slot at 9 999 ms. -/
def granted3 : State :=
  { tolling toll3near with sched := { act.sched with granted :=
      [{ note := { bell := 3, noteTime := 12000, dynamic := 5, priority := 2, player := .p0, playId := 7 }, grantedAt := 9999 }] } }
theorem witness_PlayersOfferTheirNotes_granted :
    granted3.QueueLaw ∧ granted3.Settled ∧ granted3.sched.held = [] ∧ (∀ g ∈ granted3.sched.granted, g.grantedAt < granted3.timer.ms) ∧
    State.Admits { granted3 with sched := { granted3.sched with granted := [] } } 3 12000 (12000 - granted3.lead 3 5) ∧ act.Settled ∧
    (act.player .p0).play = none :=
  ⟨⟨by decide, by decide, by decide, by decide, by decide, by decide, by decide, by decide⟩, ⟨by decide +kernel, by decide +kernel, fun _ => .inr rfl⟩, rfl,
    by decide, toll_admits _ rfl (by decide) rfl (by decide +kernel) _ _, act_settled, rfl⟩

theorem queued_settled : queued0.Settled := ⟨by decide +kernel, by decide +kernel, fun _ => .inr rfl⟩
theorem witness_VolleyStartsADrive : queued0.sched.queue.filter (fun y => decide (y.fire ≤ (queued0.timer.ms : Int))) = [entry0] ∧ queued0.Settled ∧
    queued0.sched.held = [] ∧ (queued0.bell 0).service = .inService ∧ (queued0.bell 0).hammer = .idle ∧ (queued0.bell 0).drive = none ∧
    (queued0.bell 0).window = none ∧ (queued0.bell 0).settings.wMin ≤ 600 ∧
    queued0.drive.inUse + (queued0.bell 0).settings.cls ≤ queued0.globals.driveBudget ∧
    min ((queued0.bell 0).heat + 98 * (queued0.bell 0).settings.cls) 65535 < (queued0.bell 0).settings.heatRest ∧
    (∀ e ∈ act.sched.queue, (act.timer.ms : Int) < e.fire) :=
  ⟨by decide, queued_settled, rfl, by decide +kernel, by decide +kernel, by decide +kernel, by decide +kernel, by decide +kernel,
    by decide +kernel, by decide +kernel, by decide⟩
/-- The queued part with a window of bell 0 still open, its one edge risen at the drive's start. -/
def stillOpen : State := withBell queued0 0 fun r =>
  { r with window := some { window1 with closeQ := 40080, capture := some { edge := 39999, rise := 40000 } } }
theorem witness_VolleyStartsADrive_early : stillOpen.Settled ∧
    stillOpen.sched.queue.filter (fun y => decide (y.fire ≤ (stillOpen.timer.ms : Int))) = [entry0] ∧ (stillOpen.bell 0).service = .inService ∧
    (stillOpen.bell 0).window = some { window1 with closeQ := 40080, capture := some { edge := 39999, rise := 40000 } } ∧
    4 * entry0.fire.toNat ≤ 40000 ∧ (stillOpen.bell 0).missRun + 1 < 3 ∧ stillOpen.globals.strikeReports = false :=
  ⟨⟨by decide +kernel, by decide +kernel, fun _ => .inr rfl⟩, by decide, by decide +kernel, by decide +kernel, by decide, by decide +kernel, rfl⟩
/-- The queued part with the budget in use at the budget in force. -/
def budgetFull : State := { queued0 with drive := { inUse := 24, pendingBudget := none } }
theorem witness_VolleyDefersAnEntry : budgetFull.QueueLaw ∧ budgetFull.Settled ∧
    budgetFull.sched.queue.filter (fun y => decide (y.fire ≤ (budgetFull.timer.ms : Int))) = [entry0] ∧ (budgetFull.bell 0).hammer = .idle ∧
    (budgetFull.bell 0).drive = none ∧ budgetFull.globals.driveBudget < budgetFull.drive.inUse + (budgetFull.bell 0).settings.cls ∧
    entry0.fire + budgetFull.globals.stagger ≤ entry0.origFire + (budgetFull.bell 0).settings.slack ∧
    ¬ (entry0.fire + budgetFull.globals.stagger ≤ entry0.origFire + (tight.bell 0).settings.slack) :=
  ⟨⟨by decide, by decide, by decide, by decide, by decide +kernel, by decide, by decide, by decide⟩,
    ⟨by decide +kernel, by decide +kernel, fun _ => .inr rfl⟩, by decide, by decide +kernel, by decide +kernel, by decide +kernel,
    by decide +kernel, by decide +kernel⟩
/-- The same with no slack on bell 0: the entry is dropped LATE. -/
def budgetTight : State := { tight with drive := budgetFull.drive }
/-- No version is kept, and no play. -/
theorem budgetTight_versions : budgetTight.VersionsLaw := by
  refine ⟨by decide +kernel, by decide +kernel, by decide +kernel, by decide +kernel, ?_, by decide +kernel, by decide +kernel, by decide +kernel,
    by decide +kernel⟩
  intro t n h
  have : budgetTight.holders t n = 0 := rfl
  omega
theorem witness_VolleyDefersAnEntry_late : budgetTight.VersionsLaw ∧ budgetTight.QueueLaw ∧ budgetTight.Settled ∧
    budgetTight.sched.queue.filter (fun y => decide (y.fire ≤ (budgetTight.timer.ms : Int))) = [entry0] ∧ (budgetTight.bell 0).hammer = .idle ∧
    (budgetTight.bell 0).drive = none ∧ budgetTight.globals.driveBudget < budgetTight.drive.inUse + (budgetTight.bell 0).settings.cls ∧
    ¬ (entry0.fire + budgetTight.globals.stagger ≤ entry0.origFire + (budgetTight.bell 0).settings.slack) ∧ budgetTight.sched.held = [] ∧
    (budgetTight.bell 0).pending = none ∧ budgetTight.globals.noteReports = true ∧ (∀ p, (budgetTight.player p).play = none) :=
  ⟨budgetTight_versions, ⟨by decide, by decide, by decide, by decide, by decide +kernel, by decide, by decide, by decide⟩,
    ⟨by decide +kernel, by decide +kernel, fun _ => .inr rfl⟩, by decide, by decide +kernel, by decide +kernel, by decide +kernel,
    by decide +kernel, rfl, by decide +kernel, rfl, fun p => by cases p <;> rfl⟩
theorem witness_HighFirstSampleCutsTheDrive : ((driving drive1).bell 1).drive = some drive1 ∧ drive1.kind ≠ .testPulse ∧ drive1.sampled = false ∧
    10 < drive1.width ∧ drive1.start + 1 ≤ (driving drive1).timer.ms ∧ 40 ≤ 20 * drive1.cls ∧ 20 * drive1.cls < 41 ∧ (act.bell 1).drive = none := by
  decide +kernel
def checked19 : BellNo := ⟨19, by decide +kernel⟩
theorem witness_DriveEndClassesItsSample : ((driving drive1).bell 1).drive = some drive1 ∧ drive1.kind ≠ .testPulse ∧
    drive1.start * 10 + drive1.width ≤ 10 * (driving drive1).timer.ms + 9 ∧ 4 * drive1.cls ≤ 8 ∧ 8 ≤ 20 * drive1.cls ∧ 7 < 4 * drive1.cls ∧
    20 * drive1.cls < 41 ∧ ((driving drive1).bell 1).service.code ≠ 3 := by decide +kernel
/-- The part with bell 1 in RETURN until 10 000 ms. -/
def swinging : State := withBell act 1 fun r => { r with hammer := .swing, readyTime := some 10000 }
theorem witness_HammersComeToRest : (swinging.bell 1).hammer = .swing ∧ (swinging.bell 1).readyTime = some 10000 ∧ 10000 ≤ swinging.timer.ms ∧
    (swinging.bell 1).pending = none ∧ (∀ e ∈ swinging.sched.queue, e.bell ≠ 1) ∧ (act.bell 1).hammer ≠ .swing ∧
    ((withBell swinging 1 fun r => { r with pending := some Patch.empty }).bell 1).pending = some Patch.empty ∧
    ((driving pulse1).bell 1).drive = some pulse1 ∧ pulse1.kind = .testPulse ∧ pulse1.start ≤ (driving pulse1).timer.ms ∧
    4 * pulse1.cls ≤ 8 ∧ 7 < 4 * pulse1.cls ∧ 20 * pulse1.cls < 41 := by decide +kernel

theorem witness_SensorSamplesCaptureStrikes : base.timer.quarters < 4 ∧
    4 ≤ ({ base with timer := { base.timer with quarters := 4 } } : State).timer.quarters := by decide +kernel
/-- The part with bell 1's window open, with a capture or none, and a miss run. -/
def windowed (c : Option Capture) (misses : Nat) : State := withBell act 1 fun r => { r with missRun := misses, window := some { window1 with capture := c } }
theorem witness_WindowsCloseInAMissOrALesson : ((windowed none 2).bell 1).window = some window1 ∧ window1.closeQ ≤ 4 * (windowed none 2).timer.ms ∧
    ((windowed none 2).bell 1).missRun = 2 ∧ ((windowed none 1).bell 1).missRun ≠ 2 ∧ ((windowed none 2).bell 1).service.code ≠ 3 ∧
    ((windowed (some capture1) 0).bell 1).window = some { window1 with capture := some capture1 } ∧
    ((windowed (some capture1) 0).bell 1).settings.leadMin < ((windowed (some capture1) 0).bell 1).settings.leadMax := by decide +kernel
theorem witness_WindowsCloseInAMissOrALesson_settled : (windowed (some capture1) 0).Settled :=
  ⟨by decide +kernel, by decide +kernel, fun _ => .inr rfl⟩
theorem witness_CoolingStepsReleaseBells : base.timer.due.cooling = false ∧ (dueAll bellsMixed).timer.due.cooling = true ∧
    ((dueAll bellsMixed).bell 2).service = .resting ∧ ((dueAll bellsMixed).bell 2).heat ≠ 0 ∧
    11999 - (11999 / 2 ^ ((dueAll bellsMixed).bell 2).settings.cooling + 1) < ((dueAll bellsMixed).bell 2).settings.heatRelease := by decide +kernel
def checked20 : BellNo := ⟨20, by decide +kernel⟩
theorem witness_DriverTemperatureWarnsAndHalts : base.timer.due.temperature = false ∧ (dueAll act).timer.due.temperature = true ∧
    (dueAll act).ctl.causes.driverHot = false ∧ (dueAll act).ctl.mode ≠ .halt ∧ (dueAll act).ctl.mode ≠ .loading ∧ (85 : Int) ≤ 85 ∧
    (dueAll { halted with ctl := { halted.ctl with causes := { supplyLow := false, driverHot := true } } }).ctl.causes.driverHot = true ∧
    halted.ctl.mode = .halt ∧ halted.ctl.remembered = some .active ∧ (74 : Int) < 75 := by decide +kernel
theorem witness_SupplySagsHaltThePart : base.timer.due.supply = false ∧ (dueAll act).timer.due.supply = true ∧
    (dueAll act).ctl.causes.supplyLow = false ∧ 4 * 359 < 3 * act.globals.vNom ∧ ¬ (4 * 360 < 3 * act.globals.vNom) ∧
    (dueAll { act with supply := { act.supply with lowRun := 2 } }).supply.lowRun + 1 = 3 ∧ (dueAll halted).ctl.causes.supplyLow = true ∧
    9 * act.globals.vNom ≤ 10 * 432 ∧ ¬ (9 * act.globals.vNom ≤ 10 * 431) ∧
    (dueAll { halted with supply := { halted.supply with recoveryRun := 199 } }).supply.recoveryRun + 1 = 200 ∧
    halted.ctl.causes.driverHot = false ∧ halted.ctl.remembered = some .active := by decide +kernel
/-- The part at the expiry of the interval timer, the sweep's pointer on a bell. -/
def expiring (b : BellNo) : State := { act with timer := { act.timer with ms := 12500 }, sweep := { pointer := b, next := some 12500 } }
theorem witness_SweepVisitsTheBells : base.sweep.next = some 12500 ∧ base.timer.ms < 12500 ∧ (expiring 47).sweep.next = some 12500 ∧
    12500 ≤ (expiring 47).timer.ms ∧ (expiring 47).ctl.mode = .active ∧ ((expiring 47).bell 47).service = .inService ∧
    ((expiring 47).bell 47).verified = false ∧ ((expiring 47).bell 47).hammer = .idle ∧
    (expiring 47).drive.inUse + ((expiring 47).bell 47).settings.cls ≤ (expiring 47).globals.driveBudget ∧ (expiring 47).sched.queue = [] ∧
    (inMode .console).ctl.mode = .console := by decide +kernel
theorem witness_BaseWidthInterpolates : Settings.default.wMin = 30 ∧ Settings.default.wMax = 150 ∧ Settings.default.wMin ≤ Settings.default.wMax ∧
    ({ Settings.default with wMax := 30 } : Settings).wMin = 30 := by decide

end Sys2Proof.Tests
end

/-! ### Proofs: the base width (R47) -/

namespace Sys2Proof.Machine

/-- The formula of R47, the one place where `baseWidth` is unfolded. -/
theorem baseWidth_eq (x : Settings) (d : Nat) : baseWidth x d = x.wMin + (x.wMax - x.wMin) * (d - 1) / 7 := rfl

@[simp] theorem baseWidth_one (x : Settings) : baseWidth x 1 = x.wMin := by
  simp [baseWidth_eq]

/-- At dynamic 8 the span is taken 7 times and divided by 7, so nothing is truncated. -/
theorem baseWidth_eight {x : Settings} (h : x.wMin ≤ x.wMax) : baseWidth x 8 = x.wMax := by
  have hspan : (x.wMax - x.wMin) * (8 - 1) / 7 = x.wMax - x.wMin := Nat.mul_div_cancel _ (by decide)
  rw [baseWidth_eq, hspan, Nat.add_sub_cancel' h]

/-- Each operation of the formula is monotone in the dynamic, so the limits need no order. -/
theorem baseWidth_le_baseWidth (x : Settings) {d e : Nat} (hde : d ≤ e) : baseWidth x d ≤ baseWidth x e := by
  have hproduct : (x.wMax - x.wMin) * (d - 1) ≤ (x.wMax - x.wMin) * (e - 1) :=
    Nat.mul_le_mul_left _ (Nat.sub_le_sub_right hde 1)
  simpa only [baseWidth_eq] using Nat.add_le_add_left (Nat.div_le_div_right hproduct) x.wMin

theorem baseWidth_of_wMin_eq_wMax {x : Settings} (h : x.wMin = x.wMax) (d : Nat) : baseWidth x d = x.wMin := by
  simp [baseWidth_eq, h]

/-- The table of R47: the base width of each dynamic between the limits 30 and 150. -/
theorem baseWidth_table {x : Settings} (hmin : x.wMin = 30) (hmax : x.wMax = 150) :
    [1, 2, 3, 4, 5, 6, 7, 8].map (baseWidth x) = [30, 47, 64, 81, 98, 115, 132, 150] := by
  simp [baseWidth_eq, hmin, hmax]

/-- Settles O49, one lemma for each clause of R47. -/
theorem baseWidthInterpolates : Obligations.BaseWidthInterpolates :=
  ⟨baseWidth_eq, fun _ => baseWidth_table,
    fun x hle => ⟨baseWidth_one x, baseWidth_eight hle, fun _ _ _ hde _ => baseWidth_le_baseWidth x hde⟩,
    fun _ d heq => baseWidth_of_wMin_eq_wMax heq d⟩

end Sys2Proof.Machine

/-! ### Proofs: the stroke count of a toll (R131) -/

namespace Sys2Proof.Machine

@[simp] theorem strokeCount_fixed (n h : Nat) : strokeCount (.fixed n) h = n := rfl

@[simp] theorem strokeCount_hour12 (h : Nat) : strokeCount .hour12 h = if h % 12 = 0 then 12 else h % 12 := rfl

@[simp] theorem strokeCount_hour24 (h : Nat) : strokeCount .hour24 h = if h = 0 then 24 else h := rfl

/-- The hour of R115, with the day's length in ms written out. -/
theorem wallHour_eq (d : Nat) : wallHour d = d % 86400000 / 3600000 := rfl

theorem wallHour_lt (d : Nat) : wallHour d < 24 := by
  rw [wallHour_eq]
  omega

/-- The range of n in R126: the only count mode whose count the ranges of a slot have to bound. -/
theorem SlotFields.inRange_fixed {f : SlotFields} {n : Nat} (hmode : f.countMode = .fixed n) (hrange : f.inRange = true) :
    1 ≤ n ∧ n ≤ 24 := by
  simp only [SlotFields.inRange, hmode, within, Bool.and_eq_true, decide_eq_true_eq] at hrange
  obtain ⟨⟨⟨_, hcount⟩, _⟩, _⟩ := hrange
  exact hcount

/-- "The count lies from 1 to 24 in every mode": FIXED by the slot's ranges, HOUR12 and HOUR24 by the day's 24 hours. -/
theorem SlotFields.strokeCount_bounds {f : SlotFields} (hrange : f.inRange = true) {h : Nat} (hh : h < 24) :
    1 ≤ strokeCount f.countMode h ∧ strokeCount f.countMode h ≤ 24 := by
  cases hmode : f.countMode with
  | fixed n => exact SlotFields.inRange_fixed hmode hrange
  | hour12 =>
    rw [strokeCount_hour12]
    split <;> omega
  | hour24 =>
    rw [strokeCount_hour24]
    split <;> omega

theorem SlotFields.playKind_toll {f : SlotFields} (hkind : f.kind = .toll) (d : Nat) :
    f.playKind d = .toll f.tollBell f.tollDynamic f.tollInterval (strokeCount f.countMode (wallHour d)) := by
  simp only [SlotFields.playKind, hkind]

/-- Settles O43: one equation for each count mode, and a slot's toll takes the count of its due time's hour, which is below 24. -/
theorem strokeCountsFollowTheHour : Obligations.StrokeCountsFollowTheHour :=
  ⟨strokeCount_fixed, fun h _ => strokeCount_hour12 h, fun h _ => strokeCount_hour24 h,
    fun _ d hkind => ⟨SlotFields.playKind_toll hkind d, fun hrange => SlotFields.strokeCount_bounds hrange (wallHour_lt d)⟩⟩

end Sys2Proof.Machine

/-! ### Proofs: what a step can do

Every command changes the Link Port's receiver and flags, has one effect on the part, answers at most one reply and serves the transmitter.
`Effect` lists the effects; `exec_effect` and `step_effect` say that there are no others. -/

namespace Sys2Proof.Machine

open Sys2Proof

/-- The two states differ in the Link Port only, and not in what waits there. -/
structure LinkOnly (s t : State) : Prop where
  rest : t = { s with link := t.link }
  replies : t.link.replies = s.link.replies
  reports : t.link.reports = s.link.reports

theorem LinkOnly.refl (s : State) : LinkOnly s s := ⟨rfl, rfl, rfl⟩

/-- What one command can do to the part, apart from the reply and the transmitter. -/
inductive Effect (s : State) : State → Prop
  | idle : Effect s s
  | linked {t} (h : LinkOnly s t) : Effect s t
  | started {strap clock markers nv} (h : clock = WallClock.powerOn ∨ clock = s.clock.afterRestart) :
      Effect s (startWith strap clock markers nv s.pending)
  | loaded (h : s.ctl.mode = .loading) : Effect s (s.loadDirectory.loadSettings.resetRuns.restartSweep.endLoading)
  | setMode {m} (h : s.ctl.mode ≠ .loading) : Effect s (ownSetMode m s).2.2
  | commissionEnd (h : s.ctl.mode ≠ .loading) : Effect s (ownCommissionEnd s).2.2
  | setTime {y mo d ms} (h : s.ctl.mode ≠ .loading) : Effect s (ownSetTime y mo d ms s).2.2
  | bellSet {b fs} (h : s.ctl.mode ≠ .loading) : Effect s (ownBellSet b fs s).2.2
  | bellService {b a} (h : s.ctl.mode ≠ .loading) : Effect s (ownBellService b a s).2.2
  | settingsSet {fs} (h : s.ctl.mode ≠ .loading) : Effect s (ownSettingsSet fs s).2.2
  | save : Effect s (ownSave s).2.2
  | tuneOpen {t sl a d nm} : Effect s (ownTuneOpen t sl a d nm s).2.2
  | tuneEvents {t f es} : Effect s (ownTuneEvents t f es s).2.2
  | tuneClose {t c k} : Effect s (ownTuneClose t c k s).2.2
  | tuneAbort : Effect s (ownTuneAbort s).2.2
  | tuneDelete {t} : Effect s (ownTuneDelete t s).2.2
  | programSet {n w} : Effect s (ownProgramSet n w s).2.2
  | programClear {n} : Effect s (ownProgramClear n s).2.2
  | playNow {w} : Effect s (ownPlayNow w s).2.2
  | stop {sc i} : Effect s (ownStop sc i s).2.2
  | liveNote {b d m n} : Effect s (ownLiveNote b d m n s).2.2
  | grantedNote {g rest} (h : s.sched.granted = g :: rest) :
      Effect s (let u : State := { s with sched := { s.sched with granted := rest } }
        let r := u.offer { bell := g.note.bell, noteTime := some g.note.noteTime, dynamic := g.note.dynamic, priority := g.note.priority,
                           source := .player g.note.player, playId := g.note.playId }
        ((r.2.takeOutcome g.note.player g.note.playId r.1).grantSlots).settleWith [g.note.player])
  | volley {currents : Vector Nat 48} : Effect s (s.dueEntries.foldl (fun s e => s.takeEntry currents[e.bell] e) s).settle
  | sampled {b d} (h : s.firstSampleDue b = some d) : Effect s (s.modBell b fun r => { r with drive := some { d with sampled := true } })
  | sampledHigh {b d} (h : s.firstSampleDue b = some d) :
      Effect s (((s.modBell b fun r => { r with drive := some { d with sampled := true } }).cutDrive b).finding b .short .driveCurrent).settle
  | driveEnd {b d reading} (h : (s.bell b).drive = some d) (k : ∃ o n dy i, d.kind = .strike o n dy i) :
      Effect s ((s.atTenth d.endTenths).strikeEnd b d reading).settle
  | rested {b} (h : (s.bell b).hammer = .swing) : Effect s ((s.modBell b fun r => { r with hammer := .idle }).quietPoint b)
  | pulseEnd {b d reading} (h : (s.bell b).drive = some d) (k : d.kind = .testPulse) :
      Effect s ((s.atTenth d.endTenths).pulseEnd b d reading).settle
  | sensed {timer levels} {q : Nat} : Effect s { s with
      timer := timer, bells := s.bells.mapFinIdx fun b r _ => r.sense s.globals.filter q (BitVec.getLsbD (w := 48) levels b) }
  | windowClosed {b} : Effect s (s.closeWindow b).settle
  | cooled {timer} : Effect s (({ s with timer := timer } : State).forBells State.coolBell)
  | temperature {timer c} : Effect s (({ s with timer := timer } : State).temperature c)
  | supply {timer v} : Effect s (({ s with timer := timer } : State).supplySample v)
  | swept {next} (h : s.ctl.mode.sweeps = true) : Effect s ({ s with sweep := { s.sweep with next := next } } : State).visit.settle
  | timerRuns {next} : Effect s ({ s with sweep := { s.sweep with next := next } } : State).settle
  | switched {u} (h : s.tunes.staging = .committing u) : Effect s (s.switchDirectory u)
  | commitFailed {u} (h : s.tunes.staging = .committing u) :
      Effect s ((s.setStaging .none).endWrite.tuneReport .failed u.tune .commit u.events.length u.blocks.length (some .write))
  | erased {t : Fin 96} {count blocks} :
      Effect s (({ s.endWrite with nv := { s.endWrite.nv with entries := s.endWrite.nv.entries.set t none } } : State).tuneReport
        .erased t .erase count blocks none)
  | eraseFailed {t count blocks} : Effect s (s.endWrite.tuneReport .failed t .erase count blocks (some .write))
  | settingsWritten {copy op matched} : Effect s (s.endSettingsWrite copy op matched)
  | ticked {timer} : Effect s { s with timer := timer }
  | advanced {timer} (h : s.clock.valid = true) : Effect s (({ s with timer := timer } : State).advanceWall 1)
  | slewed {timer} (h : s.clock.valid = true) :
      Effect s (({ s with timer := timer, clock := { s.clock with slew := (slewMove s.clock.slew).2 } } : State).advanceWall
        (slewMove s.clock.slew).1)
  | minutePulse {timer high} : Effect s (({ s with timer := timer } : State).pulseSample high)
  | horizon {p} : Effect s (s.settleWith [p])
  | keySample {timer high} : Effect s (({ s with timer := timer } : State).keySample high)

/-- How a command ends: the state it leaves, with its effect, its reply and what the transmitter begins. -/
structure Does (s t : State) : Prop where
  intro ::
  does : ∃ u v, LinkOnly s u ∧ Effect u v ∧ (t = v.transmit ∨ ∃ r, u.link.replies.length < Config.replyCap ∧ t = (v.reply r).transmit)

theorem done_next {s t : State} : done s = .next t ↔ t = s.transmit := by
  simp [done, eq_comm]

/-- An event that is done: its effect, with the transmitter served. -/
theorem Does.of_done {s v t : State} (h : done v = .next t) (e : Effect s v) : Does s t :=
  ⟨⟨s, v, .refl s, e, .inl (done_next.mp h)⟩⟩

/-- What follows a change of the Link Port follows it. -/
theorem Does.linked {s u t : State} (k : LinkOnly s u) (h : Does u t) : Does s t := by
  obtain ⟨⟨v, w, hk, he, ht⟩⟩ := h
  refine ⟨⟨v, w, ⟨?_, hk.replies.trans k.replies, hk.reports.trans k.reports⟩, he, ht⟩⟩
  rw [hk.rest, k.rest]

/-- A request does what its owner does. -/
theorem Does.of_request {s t : State} {code : Nat} {tag : Byte} {fits : Bool} {owner : State → Result × ReplyBody × State}
    (e : (s.ctl.mode = .loading → code = 1) → Effect s (owner s).2.2) (h : takeRequest code tag fits owner s = .next t) : Does s t := by
  by_cases hd : s.link.restart = .none
  · by_cases hr : Config.replyCap ≤ s.link.replies.length
    · rw [takeRequest_lost hd hr] at h
      cases h
      exact ⟨⟨s.lostRequest, s.lostRequest, ⟨rfl, rfl, rfl⟩, .idle, .inl rfl⟩⟩
    · have room := Nat.not_le.mp hr
      by_cases hm : s.ctl.mode = .loading ∧ code ≠ 1
      · rw [takeRequest_loading hd room hm.1 hm.2] at h
        cases h
        exact ⟨⟨s, s, .refl s, .idle, .inr ⟨_, room, rfl⟩⟩⟩
      · have hd' : s.deaf = false := by simp [State.deaf, hd]
        cases fits with
        | false =>
          simp only [takeRequest, hd', hr, hm, Bool.false_eq_true, if_false, Bool.not_false, if_true, done_next] at h
          exact ⟨⟨s, s, .refl s, .idle, .inr ⟨_, room, h⟩⟩⟩
        | true =>
          simp only [takeRequest, hd', hr, hm, Bool.false_eq_true, if_false, Bool.not_true, done_next] at h
          exact ⟨⟨s, _, .refl s, e fun hl => not_not.mp fun hc => hm ⟨hl, hc⟩, .inr ⟨_, room, h⟩⟩⟩
  · rw [takeRequest_deaf hd] at h
    cases h
    exact ⟨⟨s, s, .refl s, .idle, .inl rfl⟩⟩

/-- A request but STATUS reaches its owner outside LOADING only. -/
theorem Does.of_loaded {s t : State} {code : Nat} {tag : Byte} {fits : Bool} {owner : State → Result × ReplyBody × State}
    (hc : code ≠ 1) (e : s.ctl.mode ≠ .loading → Effect s (owner s).2.2) (h : takeRequest code tag fits owner s = .next t) : Does s t :=
  .of_request (fun hl => e fun hm => hc (hl hm)) h

/-- A reading changes nothing. -/
theorem Does.of_reading {s t : State} {code : Nat} {tag : Byte} {fits : Bool} {owner : State → Result × ReplyBody × State}
    (e : (owner s).2.2 = s) (h : takeRequest code tag fits owner s = .next t) : Does s t :=
  .of_request (fun _ => by rw [e]; exact .idle) h

/-! The effects of the readings, of STATUS and of RESTART. -/

@[simp] theorem ownBellGet_state (b : Nat) (s : State) : (ownBellGet b s).2.2 = s := by
  unfold ownBellGet; split <;> rfl
@[simp] theorem ownTuneInfo_state (t : Nat) (s : State) : (ownTuneInfo t s).2.2 = s := by
  unfold ownTuneInfo; split
  · rfl
  · dsimp only; split <;> rfl
@[simp] theorem ownTuneList_state (t : Nat) (s : State) : (ownTuneList t s).2.2 = s := by
  unfold ownTuneList; split <;> rfl
@[simp] theorem ownProgramGet_state (n : Nat) (s : State) : (ownProgramGet n s).2.2 = s := by
  unfold ownProgramGet; split <;> rfl

theorem handRequest_does {i : Instr} {s t : State} (h : handRequest i s = .next t) : Does s t := by
  cases i with
  | status tag => exact .of_request (fun _ => .linked ⟨rfl, rfl, rfl⟩) h
  | restart tag => exact .of_request (fun _ => .linked ⟨rfl, rfl, rfl⟩) h
  | setMode tag m => exact .of_loaded (by decide) .setMode h
  | commissionEnd tag => exact .of_loaded (by decide) .commissionEnd h
  | setTime tag y mo d ms => exact .of_loaded (by decide) .setTime h
  | bellSet tag b fs => exact .of_loaded (by decide) .bellSet h
  | bellService tag b a => exact .of_loaded (by decide) .bellService h
  | settingsSet tag fs => exact .of_loaded (by decide) .settingsSet h
  | save tag => exact .of_request (fun _ => .save) h
  | tuneOpen tag n sl a d nm => exact .of_request (fun _ => .tuneOpen) h
  | tuneEvents tag n f es => exact .of_request (fun _ => .tuneEvents) h
  | tuneClose tag n c k => exact .of_request (fun _ => .tuneClose) h
  | tuneAbort tag => exact .of_request (fun _ => .tuneAbort) h
  | tuneDelete tag n => exact .of_request (fun _ => .tuneDelete) h
  | programSet tag n w => exact .of_request (fun _ => .programSet) h
  | programClear tag n => exact .of_request (fun _ => .programClear) h
  | playNow tag w => exact .of_request (fun _ => .playNow) h
  | stop tag sc i => exact .of_request (fun _ => .stop) h
  | liveNote tag b d m n => exact .of_request (fun _ => .liveNote) h
  | getTime tag => exact .of_reading rfl h
  | bellGet tag b => exact .of_reading (ownBellGet_state b s) h
  | settingsGet tag => exact .of_reading rfl h
  | tuneInfo tag n => exact .of_reading (ownTuneInfo_state n s) h
  | tuneList tag n => exact .of_reading (ownTuneList_state n s) h
  | programGet tag n => exact .of_reading (ownProgramGet_state n s) h
  | plays tag => exact .of_reading rfl h
  | queue tag => exact .of_reading rfl h
  | _ => exact .of_done h .idle

theorem execUnknownKind_does {kind tag : Byte} {s t : State} (h : execUnknownKind kind tag s = .next t) : Does s t := by
  unfold execUnknownKind at h
  split at h
  · exact .of_done h .idle
  · split at h
    · exact .of_done h (.linked ⟨rfl, rfl, rfl⟩)
    · next hr => exact ⟨⟨s, s, .refl s, .idle, .inr ⟨_, Nat.not_le.mp hr, done_next.mp h⟩⟩⟩

theorem takeFrame_does {kind tag : Byte} {payload : List Byte} {s t : State} (h : takeFrame kind tag payload s = .next t) : Does s t := by
  unfold takeFrame at h
  split at h
  · split at h
    · exact handRequest_does h
    · exact .of_reading rfl h
  · exact execUnknownKind_does h

theorem receive_does {v : Byte} {s t : State} (h : receive v s = .next t) : Does s t := by
  have set (r : Receiver) : LinkOnly s (s.setReceiver r) := ⟨rfl, rfl, rfl⟩
  have discard : LinkOnly s s.discardFrame := ⟨rfl, rfl, rfl⟩
  unfold receive at h
  split at h
  · refine .of_done h (.linked ?_); split
    · exact set _
    · exact .refl s
  · refine .of_done h (.linked ?_); split
    · exact set _
    · exact discard
  · exact .of_done h (.linked (set _))
  · exact .of_done h (.linked (set _))
  · exact .of_done h (.linked (set _))
  · exact .of_done h (.linked (set _))
  · split at h
    · exact (takeFrame_does h).linked (set _)
    · exact .of_done h (.linked discard)

theorem execByteReceived_does {v : Byte} {stop : Bool} {s t : State} (h : execByteReceived v stop s = .next t) : Does s t := by
  unfold execByteReceived at h
  split at h
  · exact .of_done h .idle
  · dsimp only at h
    have heard : LinkOnly s { s with link := { s.link with lastByte := s.nowTicks } } := ⟨rfl, rfl, rfl⟩
    split at h
    · exact (receive_does h).linked heard
    · split at h
      · exact (Does.of_done h .idle).linked heard
      · exact (Does.of_done h (.linked ⟨rfl, rfl, rfl⟩)).linked heard

theorem execResetPin_does {strap : Bool} {s t : State} (h : execResetPin strap s = .next t) : Does s t := by
  unfold execResetPin at h
  split at h
  · exact .of_done h (.linked ⟨rfl, rfl, rfl⟩)
  · exact .of_done h (.started (.inr rfl))

theorem execRestartMade_does {strap : Bool} {s t : State} (h : execRestartMade strap s = .next t) : Does s t := by
  unfold execRestartMade at h
  split at h
  · exact .of_done h (.started (.inr rfl))
  · exact .of_done h .idle

theorem execEndOfLoading_does {s t : State} (h : execEndOfLoading s = .next t) : Does s t := by
  unfold execEndOfLoading at h
  split at h
  · next hm => exact .of_done h (.loaded hm)
  · exact .of_done h .idle

theorem execInterByteGapTimeout_does {s t : State} (h : execInterByteGapTimeout s = .next t) : Does s t := by
  unfold execInterByteGapTimeout at h
  split at h
  · exact .of_done h (.linked ⟨rfl, rfl, rfl⟩)
  · exact .of_done h .idle

theorem execFrameDiscarded_does {s t : State} (h : execFrameDiscarded s = .next t) : Does s t := by
  unfold execFrameDiscarded at h
  split at h
  · exact .of_done h .idle
  · exact .of_done h (.linked ⟨rfl, rfl, rfl⟩)

theorem execTransmitterFrameEnd_does {s t : State} (h : execTransmitterFrameEnd s = .next t) : Does s t := by
  unfold execTransmitterFrameEnd at h
  split at h
  · split at h
    · exact .of_done h .idle
    · exact .of_done h (.linked ⟨rfl, rfl, rfl⟩)
  · exact .of_done h .idle

theorem execGrantedNoteOffer_does {s t : State} (h : execGrantedNoteOffer s = .next t) : Does s t := by
  unfold execGrantedNoteOffer at h
  split at h
  · next g rest hg =>
    split at h
    · exact .of_done h (.grantedNote hg)
    · exact .of_done h .idle
  · exact .of_done h .idle

theorem execVolley_does {currents : Vector Nat 48} {s t : State} (h : execVolley currents s = .next t) : Does s t := by
  unfold execVolley at h
  split at h
  · exact .of_done h .idle
  · exact .of_done h .volley

theorem execFirstCurrentSample_does {b : BellNo} {reading : Nat} {s t : State} (h : execFirstCurrentSample b reading s = .next t) : Does s t := by
  unfold execFirstCurrentSample at h
  split at h
  · next d hd =>
    split at h
    · exact .of_done h (.sampledHigh hd)
    · exact .of_done h (.sampled hd)
  · exact .of_done h .idle

theorem execDriveEnd_does {b : BellNo} {reading : Nat} {s t : State} (h : execDriveEnd b reading s = .next t) : Does s t := by
  unfold execDriveEnd at h
  split at h
  · next d hd =>
    split at h
    · next hk =>
      split at h
      · exact .of_done h (.driveEnd hd ⟨_, _, _, _, hk⟩)
      · exact .of_done h .idle
    · exact .of_done h .idle
  · exact .of_done h .idle

theorem execReadyTimeReturn_does {b : BellNo} {s t : State} (h : execReadyTimeReturn b s = .next t) : Does s t := by
  unfold execReadyTimeReturn at h
  split at h
  · next hh _ =>
    split at h
    · exact .of_done h (.rested hh)
    · exact .of_done h .idle
  · exact .of_done h .idle

theorem execTestPulseEnd_does {b : BellNo} {reading : Nat} {s t : State} (h : execTestPulseEnd b reading s = .next t) : Does s t := by
  unfold execTestPulseEnd at h
  split at h
  · next d hd =>
    split at h
    · next hk =>
      split at h
      · exact .of_done h (.pulseEnd hd hk)
      · exact .of_done h .idle
    · exact .of_done h .idle
  · exact .of_done h .idle

theorem execSensorSample_does {levels : BitVec 48} {s t : State} (h : execSensorSample levels s = .next t) : Does s t := by
  unfold execSensorSample at h
  split at h
  · exact .of_done h .sensed
  · exact .of_done h .idle

theorem execWindowClose_does {b : BellNo} {s t : State} (h : execWindowClose b s = .next t) : Does s t := by
  unfold execWindowClose at h
  split at h
  · split at h
    · exact .of_done h .windowClosed
    · exact .of_done h .idle
  · exact .of_done h .idle

theorem execCoolingStep_does {s t : State} (h : execCoolingStep s = .next t) : Does s t := by
  unfold execCoolingStep at h
  split at h
  · exact .of_done h .cooled
  · exact .of_done h .idle

theorem execDriverTemperatureReading_does {c : Int} {s t : State} (h : execDriverTemperatureReading c s = .next t) : Does s t := by
  unfold execDriverTemperatureReading at h
  split at h
  · exact .of_done h .temperature
  · exact .of_done h .idle

theorem execSupplySample_does {v : Nat} {s t : State} (h : execSupplySample v s = .next t) : Does s t := by
  unfold execSupplySample at h
  split at h
  · exact .of_done h .supply
  · exact .of_done h .idle

theorem execIntervalTimerExpiry_does {s t : State} (h : execIntervalTimerExpiry s = .next t) : Does s t := by
  unfold execIntervalTimerExpiry at h
  split at h
  · split at h
    · dsimp only at h
      by_cases hm : s.ctl.mode.sweeps = true
      · rw [if_pos hm] at h
        exact .of_done h (.swept hm)
      · rw [if_neg hm] at h
        exact .of_done h .timerRuns
    · exact .of_done h .idle
  · exact .of_done h .idle

theorem execDirectorySwitch_does {s t : State} (h : execDirectorySwitch s = .next t) : Does s t := by
  unfold execDirectorySwitch at h
  split at h
  · next hu _ => exact .of_done h (.switched hu)
  · exact .of_done h .idle

theorem execCommitFailed_does {s t : State} (h : execCommitFailed s = .next t) : Does s t := by
  unfold execCommitFailed at h
  split at h
  · next hu _ => exact .of_done h (.commitFailed hu)
  · exact .of_done h .idle

theorem execEraseEnd_does {erased : Bool} {s t : State} (h : execEraseEnd erased s = .next t) : Does s t := by
  unfold execEraseEnd at h
  split at h
  · split at h
    · exact .of_done h .erased
    · exact .of_done h .eraseFailed
  · exact .of_done h .idle

theorem execSettingsWriteEnd_does {matched : Bool} {s t : State} (h : execSettingsWriteEnd matched s = .next t) : Does s t := by
  unfold execSettingsWriteEnd at h
  split at h
  · exact .of_done h .settingsWritten
  · exact .of_done h .settingsWritten
  · exact .of_done h .idle

theorem execWallClockAdvance_does {s t : State} (h : execWallClockAdvance s = .next t) : Does s t := by
  unfold execWallClockAdvance at h
  dsimp only at h
  split at h
  · next hv => exact .of_done h (.advanced hv.1)
  · exact .of_done h .ticked

theorem execSlewInstant_does {s t : State} (h : execSlewInstant s = .next t) : Does s t := by
  unfold execSlewInstant at h
  split at h
  · dsimp only at h
    split at h
    · next hv => exact .of_done h (.slewed hv)
    · exact .of_done h .ticked
  · exact .of_done h .idle

theorem execMinutePulseSample_does {high : Bool} {s t : State} (h : execMinutePulseSample high s = .next t) : Does s t := by
  unfold execMinutePulseSample at h
  split at h
  · exact .of_done h .minutePulse
  · exact .of_done h .idle

theorem execConsoleKeySample_does {high : Bool} {s t : State} (h : execConsoleKeySample high s = .next t) : Does s t := by
  unfold execConsoleKeySample at h
  split at h
  · exact .of_done h .keySample
  · exact .of_done h .idle

/-- A request is handed to its owner, whether it is a command of its own or read from a frame. -/
theorem exec_request {i : Instr} {s : State} (h : (requestCodeOf i).isSome = true) : exec i s = handRequest i s := by
  cases i <;> first | rfl | exact absurd h Bool.false_ne_true

/-- Every command does one of the effects. -/
theorem exec_effect {c : Instr} {s t : State} (h : exec c s = .next t) : Does s t := by
  cases c with
  | powerOn strap => exact .of_done h (.started (.inl rfl))
  | resetPin strap => exact execResetPin_does h
  | restartMade strap => exact execRestartMade_does h
  | endOfLoading => exact execEndOfLoading_does h
  | byteReceived v stop => exact execByteReceived_does h
  | interByteGapTimeout => exact execInterByteGapTimeout_does h
  | frameDiscarded => exact execFrameDiscarded_does h
  | unknownKind kind tag => exact execUnknownKind_does h
  | transmitterFrameEnd => exact execTransmitterFrameEnd_does h
  | grantedNoteOffer => exact execGrantedNoteOffer_does h
  | volley currents => exact execVolley_does h
  | firstCurrentSample b reading => exact execFirstCurrentSample_does h
  | driveEnd b reading => exact execDriveEnd_does h
  | readyTimeReturn b => exact execReadyTimeReturn_does h
  | testPulseEnd b reading => exact execTestPulseEnd_does h
  | sensorSample levels => exact execSensorSample_does h
  | windowClose b => exact execWindowClose_does h
  | coolingStep => exact execCoolingStep_does h
  | driverTemperatureReading c => exact execDriverTemperatureReading_does h
  | supplySample v => exact execSupplySample_does h
  | intervalTimerExpiry => exact execIntervalTimerExpiry_does h
  | directorySwitch => exact execDirectorySwitch_does h
  | commitFailed => exact execCommitFailed_does h
  | eraseEnd erased => exact execEraseEnd_does h
  | settingsWriteEnd matched => exact execSettingsWriteEnd_does h
  | wallClockAdvance => exact execWallClockAdvance_does h
  | slewInstant => exact execSlewInstant_does h
  | minutePulseSample high => exact execMinutePulseSample_does h
  | horizonArrival p => exact .of_done h .horizon
  | consoleKeySample high => exact execConsoleKeySample_does h
  | _ => exact handRequest_does ((exec_request rfl).symm.trans h)

/-- Every step idles or does one of the effects on the state with the command taken. -/
theorem step_effect {s t : State} (h : step s = .next t) : t = s ∨ ∃ rest, Does { s with pending := rest } t := by
  unfold step at h
  split at h
  · cases h; exact .inl rfl
  · exact .inr ⟨_, exec_effect h⟩

/-- A predicate that does not see the Link Port nor the commands that wait. -/
def LinkBlind (P : State → Prop) : Prop := ∀ s l p, P s → P { s with link := l, pending := p }

/-- What every effect keeps, every step keeps. -/
theorem step_keeps {P : State → Prop} (blind : LinkBlind P) (keeps : ∀ s t, P s → Effect s t → P t) {s t : State} (hs : P s)
    (h : step s = .next t) : P t := by
  rcases step_effect h with rfl | ⟨rest, ⟨u, v, hu, he, ht⟩⟩
  · exact hs
  · have hPu : P u := by rw [hu.rest]; exact blind s _ _ hs
    have hPv : P v := keeps u v hPu he
    have served (w : State) (hw : P w) : P w.transmit := by
      have : w.transmit = { w with link := w.transmit.link, pending := w.pending } := by
        unfold State.transmit; repeat' split
        all_goals rfl
      rw [this]; exact blind w _ _ hw
    rcases ht with rfl | ⟨r, -, rfl⟩
    · exact served v hPv
    · exact served _ (blind v _ _ hPv)

end Sys2Proof.Machine

/-! ### Proofs: frames of the owners of requests and of the folds over bells and entries -/

namespace Sys2Proof.Machine

open Sys2Proof

variable (s : State)

@[simp] theorem State.atTenth_eq (t : Nat) : s.atTenth t = s.atTick (2 * t - 20 * s.timer.ms) := rfl

@[simp] theorem State.returnBell_frame (b : BellNo) :
    (s.returnBell b).timer = s.timer ∧ (s.returnBell b).clock = s.clock ∧ (s.returnBell b).ctl = s.ctl ∧
    (s.returnBell b).globals = s.globals ∧ (s.returnBell b).drive = s.drive ∧ (s.returnBell b).warn = s.warn ∧
    (s.returnBell b).supply = s.supply ∧ (s.returnBell b).sweep = s.sweep ∧ (s.returnBell b).sched = s.sched ∧
    (s.returnBell b).engine = s.engine ∧ (s.returnBell b).slots = s.slots ∧ (s.returnBell b).tunes = s.tunes ∧
    (s.returnBell b).nv = s.nv ∧ (s.returnBell b).pending = s.pending := by
  refine ⟨?_, ?_, ?_, ?_, ?_, ?_, ?_, ?_, ?_, ?_, ?_, ?_, ?_, ?_⟩
  all_goals
    simp [State.returnBell]

@[simp] theorem State.service_frame (b : BellNo) (a : Nat) :
    (s.service b a).2.timer = s.timer ∧ (s.service b a).2.clock = s.clock ∧ (s.service b a).2.ctl = s.ctl ∧
    (s.service b a).2.globals = s.globals ∧ (s.service b a).2.drive = s.drive ∧ (s.service b a).2.warn = s.warn ∧
    (s.service b a).2.supply = s.supply ∧ (s.service b a).2.sweep = s.sweep ∧ (s.service b a).2.slots = s.slots ∧
    (s.service b a).2.nv = s.nv ∧ (s.service b a).2.pending = s.pending := by
  refine ⟨?_, ?_, ?_, ?_, ?_, ?_, ?_, ?_, ?_, ?_, ?_⟩
  all_goals
    unfold State.service; (repeat' split) <;> simp

@[simp] theorem ownBellSet_frame (b : Nat) (fs : List (Nat × Nat)) :
    (ownBellSet b fs s).2.2.timer = s.timer ∧ (ownBellSet b fs s).2.2.clock = s.clock ∧ (ownBellSet b fs s).2.2.ctl = s.ctl ∧
    (ownBellSet b fs s).2.2.globals = s.globals ∧ (ownBellSet b fs s).2.2.drive = s.drive ∧ (ownBellSet b fs s).2.2.warn = s.warn ∧
    (ownBellSet b fs s).2.2.supply = s.supply ∧ (ownBellSet b fs s).2.2.sweep = s.sweep ∧ (ownBellSet b fs s).2.2.sched = s.sched ∧
    (ownBellSet b fs s).2.2.engine = s.engine ∧ (ownBellSet b fs s).2.2.slots = s.slots ∧ (ownBellSet b fs s).2.2.tunes = s.tunes ∧
    (ownBellSet b fs s).2.2.nv = s.nv ∧ (ownBellSet b fs s).2.2.pending = s.pending := by
  refine ⟨?_, ?_, ?_, ?_, ?_, ?_, ?_, ?_, ?_, ?_, ?_, ?_, ?_, ?_⟩
  all_goals
    unfold ownBellSet; dsimp only; (repeat' split) <;> simp

@[simp] theorem ownBellService_frame (b a : Nat) :
    (ownBellService b a s).2.2.timer = s.timer ∧ (ownBellService b a s).2.2.clock = s.clock ∧ (ownBellService b a s).2.2.ctl = s.ctl ∧
    (ownBellService b a s).2.2.globals = s.globals ∧ (ownBellService b a s).2.2.drive = s.drive ∧
    (ownBellService b a s).2.2.warn = s.warn ∧ (ownBellService b a s).2.2.supply = s.supply ∧
    (ownBellService b a s).2.2.sweep = s.sweep ∧ (ownBellService b a s).2.2.slots = s.slots ∧ (ownBellService b a s).2.2.nv = s.nv ∧
    (ownBellService b a s).2.2.pending = s.pending := by
  refine ⟨?_, ?_, ?_, ?_, ?_, ?_, ?_, ?_, ?_, ?_, ?_⟩
  all_goals
    unfold ownBellService; dsimp only; (repeat' split) <;> simp

@[simp] theorem State.takeBudget_frame (v : Nat) :
    (s.takeBudget v).2.timer = s.timer ∧ (s.takeBudget v).2.clock = s.clock ∧ (s.takeBudget v).2.ctl = s.ctl ∧
    (s.takeBudget v).2.bells = s.bells ∧ (s.takeBudget v).2.warn = s.warn ∧ (s.takeBudget v).2.supply = s.supply ∧
    (s.takeBudget v).2.sweep = s.sweep ∧ (s.takeBudget v).2.sched = s.sched ∧ (s.takeBudget v).2.engine = s.engine ∧
    (s.takeBudget v).2.slots = s.slots ∧ (s.takeBudget v).2.tunes = s.tunes ∧ (s.takeBudget v).2.nv = s.nv ∧
    (s.takeBudget v).2.link = s.link ∧ (s.takeBudget v).2.pending = s.pending := by
  refine ⟨?_, ?_, ?_, ?_, ?_, ?_, ?_, ?_, ?_, ?_, ?_, ?_, ?_, ?_⟩
  all_goals
    unfold State.takeBudget; (repeat' split) <;> rfl

@[simp] theorem State.applyGlobals_frame (p : GlobalPatch) :
    (s.applyGlobals p).2.timer = s.timer ∧ (s.applyGlobals p).2.clock = s.clock ∧ (s.applyGlobals p).2.ctl = s.ctl ∧
    (s.applyGlobals p).2.bells = s.bells ∧ (s.applyGlobals p).2.warn = s.warn ∧ (s.applyGlobals p).2.sched = s.sched ∧
    (s.applyGlobals p).2.engine = s.engine ∧ (s.applyGlobals p).2.slots = s.slots ∧ (s.applyGlobals p).2.tunes = s.tunes ∧
    (s.applyGlobals p).2.nv = s.nv ∧ (s.applyGlobals p).2.link = s.link ∧ (s.applyGlobals p).2.pending = s.pending := by
  refine ⟨?_, ?_, ?_, ?_, ?_, ?_, ?_, ?_, ?_, ?_, ?_, ?_⟩
  all_goals
    unfold State.applyGlobals; dsimp only; (repeat' split) <;> first | rfl | simp

@[simp] theorem ownSettingsSet_frame (fs : List (Nat × Nat)) :
    (ownSettingsSet fs s).2.2.timer = s.timer ∧ (ownSettingsSet fs s).2.2.clock = s.clock ∧ (ownSettingsSet fs s).2.2.ctl = s.ctl ∧
    (ownSettingsSet fs s).2.2.bells = s.bells ∧ (ownSettingsSet fs s).2.2.warn = s.warn ∧ (ownSettingsSet fs s).2.2.sched = s.sched ∧
    (ownSettingsSet fs s).2.2.engine = s.engine ∧ (ownSettingsSet fs s).2.2.slots = s.slots ∧
    (ownSettingsSet fs s).2.2.tunes = s.tunes ∧ (ownSettingsSet fs s).2.2.nv = s.nv ∧ (ownSettingsSet fs s).2.2.link = s.link ∧
    (ownSettingsSet fs s).2.2.pending = s.pending := by
  refine ⟨?_, ?_, ?_, ?_, ?_, ?_, ?_, ?_, ?_, ?_, ?_, ?_⟩
  all_goals
    unfold ownSettingsSet; dsimp only; (repeat' split) <;> simp

@[simp] theorem ownSave_frame :
    (ownSave s).2.2.timer = s.timer ∧ (ownSave s).2.2.clock = s.clock ∧ (ownSave s).2.2.ctl = s.ctl ∧
    (ownSave s).2.2.globals = s.globals ∧ (ownSave s).2.2.bells = s.bells ∧ (ownSave s).2.2.drive = s.drive ∧
    (ownSave s).2.2.warn = s.warn ∧ (ownSave s).2.2.supply = s.supply ∧ (ownSave s).2.2.sweep = s.sweep ∧
    (ownSave s).2.2.sched = s.sched ∧ (ownSave s).2.2.engine = s.engine ∧ (ownSave s).2.2.slots = s.slots ∧
    (ownSave s).2.2.tunes = s.tunes ∧ (ownSave s).2.2.link = s.link ∧ (ownSave s).2.2.pending = s.pending := by
  refine ⟨?_, ?_, ?_, ?_, ?_, ?_, ?_, ?_, ?_, ?_, ?_, ?_, ?_, ?_, ?_⟩
  all_goals
    unfold ownSave; (repeat' split) <;> simp

@[simp] theorem ownTuneOpen_frame (t sl a d : Nat) (nm : List Byte) :
    (ownTuneOpen t sl a d nm s).2.2.timer = s.timer ∧ (ownTuneOpen t sl a d nm s).2.2.clock = s.clock ∧
    (ownTuneOpen t sl a d nm s).2.2.ctl = s.ctl ∧ (ownTuneOpen t sl a d nm s).2.2.globals = s.globals ∧
    (ownTuneOpen t sl a d nm s).2.2.bells = s.bells ∧ (ownTuneOpen t sl a d nm s).2.2.drive = s.drive ∧
    (ownTuneOpen t sl a d nm s).2.2.warn = s.warn ∧ (ownTuneOpen t sl a d nm s).2.2.supply = s.supply ∧
    (ownTuneOpen t sl a d nm s).2.2.sweep = s.sweep ∧ (ownTuneOpen t sl a d nm s).2.2.sched = s.sched ∧
    (ownTuneOpen t sl a d nm s).2.2.engine = s.engine ∧ (ownTuneOpen t sl a d nm s).2.2.slots = s.slots ∧
    (ownTuneOpen t sl a d nm s).2.2.nv = s.nv ∧ (ownTuneOpen t sl a d nm s).2.2.link = s.link ∧
    (ownTuneOpen t sl a d nm s).2.2.pending = s.pending := by
  refine ⟨?_, ?_, ?_, ?_, ?_, ?_, ?_, ?_, ?_, ?_, ?_, ?_, ?_, ?_, ?_⟩
  all_goals
    unfold ownTuneOpen; dsimp only; (repeat' split) <;> simp

@[simp] theorem ownTuneEvents_frame (t f : Nat) (es : List EventRec) :
    (ownTuneEvents t f es s).2.2.timer = s.timer ∧ (ownTuneEvents t f es s).2.2.clock = s.clock ∧
    (ownTuneEvents t f es s).2.2.ctl = s.ctl ∧ (ownTuneEvents t f es s).2.2.globals = s.globals ∧
    (ownTuneEvents t f es s).2.2.bells = s.bells ∧ (ownTuneEvents t f es s).2.2.drive = s.drive ∧
    (ownTuneEvents t f es s).2.2.warn = s.warn ∧ (ownTuneEvents t f es s).2.2.supply = s.supply ∧
    (ownTuneEvents t f es s).2.2.sweep = s.sweep ∧ (ownTuneEvents t f es s).2.2.sched = s.sched ∧
    (ownTuneEvents t f es s).2.2.engine = s.engine ∧ (ownTuneEvents t f es s).2.2.slots = s.slots ∧
    (ownTuneEvents t f es s).2.2.nv = s.nv ∧ (ownTuneEvents t f es s).2.2.link = s.link ∧
    (ownTuneEvents t f es s).2.2.pending = s.pending := by
  refine ⟨?_, ?_, ?_, ?_, ?_, ?_, ?_, ?_, ?_, ?_, ?_, ?_, ?_, ?_, ?_⟩
  all_goals
    unfold ownTuneEvents; (repeat' split) <;> simp

@[simp] theorem ownTuneClose_frame (t c k : Nat) :
    (ownTuneClose t c k s).2.2.timer = s.timer ∧ (ownTuneClose t c k s).2.2.clock = s.clock ∧ (ownTuneClose t c k s).2.2.ctl = s.ctl ∧
    (ownTuneClose t c k s).2.2.globals = s.globals ∧ (ownTuneClose t c k s).2.2.bells = s.bells ∧
    (ownTuneClose t c k s).2.2.drive = s.drive ∧ (ownTuneClose t c k s).2.2.warn = s.warn ∧
    (ownTuneClose t c k s).2.2.supply = s.supply ∧ (ownTuneClose t c k s).2.2.sweep = s.sweep ∧
    (ownTuneClose t c k s).2.2.sched = s.sched ∧ (ownTuneClose t c k s).2.2.engine = s.engine ∧
    (ownTuneClose t c k s).2.2.slots = s.slots ∧ (ownTuneClose t c k s).2.2.link = s.link ∧
    (ownTuneClose t c k s).2.2.pending = s.pending := by
  refine ⟨?_, ?_, ?_, ?_, ?_, ?_, ?_, ?_, ?_, ?_, ?_, ?_, ?_, ?_⟩
  all_goals
    unfold ownTuneClose; dsimp only; (repeat' split) <;> simp

@[simp] theorem ownTuneAbort_frame :
    (ownTuneAbort s).2.2.timer = s.timer ∧ (ownTuneAbort s).2.2.clock = s.clock ∧ (ownTuneAbort s).2.2.ctl = s.ctl ∧
    (ownTuneAbort s).2.2.globals = s.globals ∧ (ownTuneAbort s).2.2.bells = s.bells ∧ (ownTuneAbort s).2.2.drive = s.drive ∧
    (ownTuneAbort s).2.2.warn = s.warn ∧ (ownTuneAbort s).2.2.supply = s.supply ∧ (ownTuneAbort s).2.2.sweep = s.sweep ∧
    (ownTuneAbort s).2.2.sched = s.sched ∧ (ownTuneAbort s).2.2.engine = s.engine ∧ (ownTuneAbort s).2.2.slots = s.slots ∧
    (ownTuneAbort s).2.2.nv = s.nv ∧ (ownTuneAbort s).2.2.link = s.link ∧ (ownTuneAbort s).2.2.pending = s.pending := by
  refine ⟨?_, ?_, ?_, ?_, ?_, ?_, ?_, ?_, ?_, ?_, ?_, ?_, ?_, ?_, ?_⟩
  all_goals
    unfold ownTuneAbort; (repeat' split) <;> simp

@[simp] theorem ownTuneDelete_frame (t : Nat) :
    (ownTuneDelete t s).2.2.timer = s.timer ∧ (ownTuneDelete t s).2.2.clock = s.clock ∧ (ownTuneDelete t s).2.2.ctl = s.ctl ∧
    (ownTuneDelete t s).2.2.globals = s.globals ∧ (ownTuneDelete t s).2.2.bells = s.bells ∧ (ownTuneDelete t s).2.2.drive = s.drive ∧
    (ownTuneDelete t s).2.2.warn = s.warn ∧ (ownTuneDelete t s).2.2.supply = s.supply ∧ (ownTuneDelete t s).2.2.sweep = s.sweep ∧
    (ownTuneDelete t s).2.2.sched = s.sched ∧ (ownTuneDelete t s).2.2.engine = s.engine ∧ (ownTuneDelete t s).2.2.slots = s.slots ∧
    (ownTuneDelete t s).2.2.link = s.link ∧ (ownTuneDelete t s).2.2.pending = s.pending := by
  refine ⟨?_, ?_, ?_, ?_, ?_, ?_, ?_, ?_, ?_, ?_, ?_, ?_, ?_, ?_⟩
  all_goals
    unfold ownTuneDelete; (repeat' split) <;> simp

@[simp] theorem ownProgramSet_frame (n : Nat) (w : SlotWire) :
    (ownProgramSet n w s).2.2.timer = s.timer ∧ (ownProgramSet n w s).2.2.clock = s.clock ∧ (ownProgramSet n w s).2.2.ctl = s.ctl ∧
    (ownProgramSet n w s).2.2.globals = s.globals ∧ (ownProgramSet n w s).2.2.bells = s.bells ∧
    (ownProgramSet n w s).2.2.drive = s.drive ∧ (ownProgramSet n w s).2.2.warn = s.warn ∧ (ownProgramSet n w s).2.2.supply = s.supply ∧
    (ownProgramSet n w s).2.2.sweep = s.sweep ∧ (ownProgramSet n w s).2.2.sched = s.sched ∧
    (ownProgramSet n w s).2.2.engine = s.engine ∧ (ownProgramSet n w s).2.2.tunes = s.tunes ∧ (ownProgramSet n w s).2.2.nv = s.nv ∧
    (ownProgramSet n w s).2.2.link = s.link ∧ (ownProgramSet n w s).2.2.pending = s.pending := by
  refine ⟨?_, ?_, ?_, ?_, ?_, ?_, ?_, ?_, ?_, ?_, ?_, ?_, ?_, ?_, ?_⟩
  all_goals
    unfold ownProgramSet; (repeat' split) <;> simp

@[simp] theorem ownProgramClear_frame (n : Nat) :
    (ownProgramClear n s).2.2.timer = s.timer ∧ (ownProgramClear n s).2.2.clock = s.clock ∧ (ownProgramClear n s).2.2.ctl = s.ctl ∧
    (ownProgramClear n s).2.2.globals = s.globals ∧ (ownProgramClear n s).2.2.bells = s.bells ∧
    (ownProgramClear n s).2.2.drive = s.drive ∧ (ownProgramClear n s).2.2.warn = s.warn ∧ (ownProgramClear n s).2.2.supply = s.supply ∧
    (ownProgramClear n s).2.2.sweep = s.sweep ∧ (ownProgramClear n s).2.2.sched = s.sched ∧
    (ownProgramClear n s).2.2.engine = s.engine ∧ (ownProgramClear n s).2.2.tunes = s.tunes ∧ (ownProgramClear n s).2.2.nv = s.nv ∧
    (ownProgramClear n s).2.2.link = s.link ∧ (ownProgramClear n s).2.2.pending = s.pending := by
  refine ⟨?_, ?_, ?_, ?_, ?_, ?_, ?_, ?_, ?_, ?_, ?_, ?_, ?_, ?_, ?_⟩
  all_goals
    unfold ownProgramClear; (repeat' split) <;> simp

@[simp] theorem ownPlayNow_frame (w : PlayNowWire) :
    (ownPlayNow w s).2.2.timer = s.timer ∧ (ownPlayNow w s).2.2.clock = s.clock ∧ (ownPlayNow w s).2.2.ctl = s.ctl ∧
    (ownPlayNow w s).2.2.globals = s.globals ∧ (ownPlayNow w s).2.2.drive = s.drive ∧ (ownPlayNow w s).2.2.warn = s.warn ∧
    (ownPlayNow w s).2.2.supply = s.supply ∧ (ownPlayNow w s).2.2.sweep = s.sweep ∧ (ownPlayNow w s).2.2.slots = s.slots ∧
    (ownPlayNow w s).2.2.nv = s.nv ∧ (ownPlayNow w s).2.2.pending = s.pending := by
  refine ⟨?_, ?_, ?_, ?_, ?_, ?_, ?_, ?_, ?_, ?_, ?_⟩
  all_goals
    unfold ownPlayNow; dsimp only; (repeat' split) <;> simp

@[simp] theorem ownStop_frame (sc i : Nat) :
    (ownStop sc i s).2.2.timer = s.timer ∧ (ownStop sc i s).2.2.clock = s.clock ∧ (ownStop sc i s).2.2.ctl = s.ctl ∧
    (ownStop sc i s).2.2.globals = s.globals ∧ (ownStop sc i s).2.2.drive = s.drive ∧ (ownStop sc i s).2.2.warn = s.warn ∧
    (ownStop sc i s).2.2.supply = s.supply ∧ (ownStop sc i s).2.2.sweep = s.sweep ∧ (ownStop sc i s).2.2.slots = s.slots ∧
    (ownStop sc i s).2.2.nv = s.nv ∧ (ownStop sc i s).2.2.pending = s.pending := by
  refine ⟨?_, ?_, ?_, ?_, ?_, ?_, ?_, ?_, ?_, ?_, ?_⟩
  all_goals
    unfold ownStop; dsimp only; (repeat' split) <;> simp

@[simp] theorem OfferOutcome.follow_frame (o : OfferOutcome) :
    (o.follow s).timer = s.timer ∧ (o.follow s).clock = s.clock ∧ (o.follow s).ctl = s.ctl ∧ (o.follow s).globals = s.globals ∧
    (o.follow s).bells = s.bells ∧ (o.follow s).drive = s.drive ∧ (o.follow s).warn = s.warn ∧ (o.follow s).supply = s.supply ∧
    (o.follow s).sweep = s.sweep ∧ (o.follow s).slots = s.slots ∧ (o.follow s).nv = s.nv ∧ (o.follow s).pending = s.pending := by
  refine ⟨?_, ?_, ?_, ?_, ?_, ?_, ?_, ?_, ?_, ?_, ?_, ?_⟩
  all_goals
    unfold OfferOutcome.follow; split <;> simp

@[simp] theorem ownLiveNote_frame (b d m n : Nat) :
    (ownLiveNote b d m n s).2.2.timer = s.timer ∧ (ownLiveNote b d m n s).2.2.clock = s.clock ∧
    (ownLiveNote b d m n s).2.2.ctl = s.ctl ∧ (ownLiveNote b d m n s).2.2.globals = s.globals ∧
    (ownLiveNote b d m n s).2.2.bells = s.bells ∧ (ownLiveNote b d m n s).2.2.drive = s.drive ∧
    (ownLiveNote b d m n s).2.2.warn = s.warn ∧ (ownLiveNote b d m n s).2.2.supply = s.supply ∧
    (ownLiveNote b d m n s).2.2.sweep = s.sweep ∧ (ownLiveNote b d m n s).2.2.slots = s.slots ∧ (ownLiveNote b d m n s).2.2.nv = s.nv ∧
    (ownLiveNote b d m n s).2.2.pending = s.pending := by
  refine ⟨?_, ?_, ?_, ?_, ?_, ?_, ?_, ?_, ?_, ?_, ?_, ?_⟩
  all_goals
    unfold ownLiveNote; dsimp only; (repeat' split) <;> simp

@[simp] theorem State.endSettingsWrite_frame (copy : StoredArea) (op : StoreOp) (m : Bool) :
    (s.endSettingsWrite copy op m).timer = s.timer ∧ (s.endSettingsWrite copy op m).clock = s.clock ∧
    (s.endSettingsWrite copy op m).ctl = s.ctl ∧ (s.endSettingsWrite copy op m).globals = s.globals ∧
    (s.endSettingsWrite copy op m).bells = s.bells ∧ (s.endSettingsWrite copy op m).drive = s.drive ∧
    (s.endSettingsWrite copy op m).warn = s.warn ∧ (s.endSettingsWrite copy op m).supply = s.supply ∧
    (s.endSettingsWrite copy op m).sweep = s.sweep ∧ (s.endSettingsWrite copy op m).sched = s.sched ∧
    (s.endSettingsWrite copy op m).engine = s.engine ∧ (s.endSettingsWrite copy op m).slots = s.slots ∧
    (s.endSettingsWrite copy op m).tunes = s.tunes ∧ (s.endSettingsWrite copy op m).pending = s.pending := by
  refine ⟨?_, ?_, ?_, ?_, ?_, ?_, ?_, ?_, ?_, ?_, ?_, ?_, ?_, ?_⟩
  all_goals
    unfold State.endSettingsWrite; (repeat' split) <;> simp

@[simp] theorem State.staleTests_frame :
    (s.forBells State.staleTest).timer = s.timer ∧ (s.forBells State.staleTest).clock = s.clock ∧
    (s.forBells State.staleTest).ctl = s.ctl ∧ (s.forBells State.staleTest).globals = s.globals ∧
    (s.forBells State.staleTest).drive = s.drive ∧ (s.forBells State.staleTest).warn = s.warn ∧
    (s.forBells State.staleTest).supply = s.supply ∧ (s.forBells State.staleTest).sweep = s.sweep ∧
    (s.forBells State.staleTest).sched = s.sched ∧ (s.forBells State.staleTest).engine = s.engine ∧
    (s.forBells State.staleTest).slots = s.slots ∧ (s.forBells State.staleTest).tunes = s.tunes ∧
    (s.forBells State.staleTest).nv = s.nv ∧ (s.forBells State.staleTest).pending = s.pending := by
  refine ⟨?_, ?_, ?_, ?_, ?_, ?_, ?_, ?_, ?_, ?_, ?_, ?_, ?_, ?_⟩
  · exact foldl_keeps (fun s : State => s.timer) (fun s a => by simp) _ _
  · exact foldl_keeps (fun s : State => s.clock) (fun s a => by simp) _ _
  · exact foldl_keeps (fun s : State => s.ctl) (fun s a => by simp) _ _
  · exact foldl_keeps (fun s : State => s.globals) (fun s a => by simp) _ _
  · exact foldl_keeps (fun s : State => s.drive) (fun s a => by simp) _ _
  · exact foldl_keeps (fun s : State => s.warn) (fun s a => by simp) _ _
  · exact foldl_keeps (fun s : State => s.supply) (fun s a => by simp) _ _
  · exact foldl_keeps (fun s : State => s.sweep) (fun s a => by simp) _ _
  · exact foldl_keeps (fun s : State => s.sched) (fun s a => by simp) _ _
  · exact foldl_keeps (fun s : State => s.engine) (fun s a => by simp) _ _
  · exact foldl_keeps (fun s : State => s.slots) (fun s a => by simp) _ _
  · exact foldl_keeps (fun s : State => s.tunes) (fun s a => by simp) _ _
  · exact foldl_keeps (fun s : State => s.nv) (fun s a => by simp) _ _
  · exact foldl_keeps (fun s : State => s.pending) (fun s a => by simp) _ _

@[simp] theorem State.visit_frame :
    (s.visit).timer = s.timer ∧ (s.visit).clock = s.clock ∧ (s.visit).ctl = s.ctl ∧ (s.visit).globals = s.globals ∧
    (s.visit).warn = s.warn ∧ (s.visit).supply = s.supply ∧ (s.visit).slots = s.slots ∧ (s.visit).tunes = s.tunes ∧
    (s.visit).nv = s.nv ∧ (s.visit).pending = s.pending := by
  refine ⟨?_, ?_, ?_, ?_, ?_, ?_, ?_, ?_, ?_, ?_⟩
  all_goals
    simp [State.visit]

@[simp] theorem State.coolBells_frame :
    (s.forBells State.coolBell).timer = s.timer ∧ (s.forBells State.coolBell).clock = s.clock ∧
    (s.forBells State.coolBell).ctl = s.ctl ∧ (s.forBells State.coolBell).globals = s.globals ∧
    (s.forBells State.coolBell).drive = s.drive ∧ (s.forBells State.coolBell).warn = s.warn ∧
    (s.forBells State.coolBell).supply = s.supply ∧ (s.forBells State.coolBell).sweep = s.sweep ∧
    (s.forBells State.coolBell).slots = s.slots ∧ (s.forBells State.coolBell).tunes = s.tunes ∧ (s.forBells State.coolBell).nv = s.nv ∧
    (s.forBells State.coolBell).pending = s.pending := by
  refine ⟨?_, ?_, ?_, ?_, ?_, ?_, ?_, ?_, ?_, ?_, ?_, ?_⟩
  · exact foldl_keeps (fun s : State => s.timer) (fun s a => by simp) _ _
  · exact foldl_keeps (fun s : State => s.clock) (fun s a => by simp) _ _
  · exact foldl_keeps (fun s : State => s.ctl) (fun s a => by simp) _ _
  · exact foldl_keeps (fun s : State => s.globals) (fun s a => by simp) _ _
  · exact foldl_keeps (fun s : State => s.drive) (fun s a => by simp) _ _
  · exact foldl_keeps (fun s : State => s.warn) (fun s a => by simp) _ _
  · exact foldl_keeps (fun s : State => s.supply) (fun s a => by simp) _ _
  · exact foldl_keeps (fun s : State => s.sweep) (fun s a => by simp) _ _
  · exact foldl_keeps (fun s : State => s.slots) (fun s a => by simp) _ _
  · exact foldl_keeps (fun s : State => s.tunes) (fun s a => by simp) _ _
  · exact foldl_keeps (fun s : State => s.nv) (fun s a => by simp) _ _
  · exact foldl_keeps (fun s : State => s.pending) (fun s a => by simp) _ _

@[simp] theorem State.takeEntries_frame (reading : Entry → Nat) (l : List Entry) :
    (l.foldl (fun s e => s.takeEntry (reading e) e) s).timer = s.timer ∧
    (l.foldl (fun s e => s.takeEntry (reading e) e) s).clock = s.clock ∧
    (l.foldl (fun s e => s.takeEntry (reading e) e) s).ctl = s.ctl ∧ (l.foldl (fun s e => s.takeEntry (reading e) e) s).warn = s.warn ∧
    (l.foldl (fun s e => s.takeEntry (reading e) e) s).supply = s.supply ∧
    (l.foldl (fun s e => s.takeEntry (reading e) e) s).sweep = s.sweep ∧
    (l.foldl (fun s e => s.takeEntry (reading e) e) s).slots = s.slots ∧
    (l.foldl (fun s e => s.takeEntry (reading e) e) s).tunes = s.tunes ∧ (l.foldl (fun s e => s.takeEntry (reading e) e) s).nv = s.nv ∧
    (l.foldl (fun s e => s.takeEntry (reading e) e) s).pending = s.pending := by
  refine ⟨?_, ?_, ?_, ?_, ?_, ?_, ?_, ?_, ?_, ?_⟩
  · exact foldl_keeps (fun s : State => s.timer) (fun s a => by simp) _ _
  · exact foldl_keeps (fun s : State => s.clock) (fun s a => by simp) _ _
  · exact foldl_keeps (fun s : State => s.ctl) (fun s a => by simp) _ _
  · exact foldl_keeps (fun s : State => s.warn) (fun s a => by simp) _ _
  · exact foldl_keeps (fun s : State => s.supply) (fun s a => by simp) _ _
  · exact foldl_keeps (fun s : State => s.sweep) (fun s a => by simp) _ _
  · exact foldl_keeps (fun s : State => s.slots) (fun s a => by simp) _ _
  · exact foldl_keeps (fun s : State => s.tunes) (fun s a => by simp) _ _
  · exact foldl_keeps (fun s : State => s.nv) (fun s a => by simp) _ _
  · exact foldl_keeps (fun s : State => s.pending) (fun s a => by simp) _ _

@[simp] theorem ownSetMode_frame (m : Nat) :
    (ownSetMode m s).2.2.timer = s.timer ∧ (ownSetMode m s).2.2.clock = s.clock ∧ (ownSetMode m s).2.2.warn = s.warn ∧
    (ownSetMode m s).2.2.supply = s.supply ∧ (ownSetMode m s).2.2.sweep = s.sweep ∧ (ownSetMode m s).2.2.slots = s.slots ∧
    (ownSetMode m s).2.2.nv = s.nv ∧ (ownSetMode m s).2.2.pending = s.pending := by
  refine ⟨?_, ?_, ?_, ?_, ?_, ?_, ?_, ?_⟩
  all_goals
    unfold ownSetMode; (repeat' split) <;> simp

@[simp] theorem ownCommissionEnd_frame :
    (ownCommissionEnd s).2.2.timer = s.timer ∧ (ownCommissionEnd s).2.2.clock = s.clock ∧ (ownCommissionEnd s).2.2.warn = s.warn ∧
    (ownCommissionEnd s).2.2.supply = s.supply ∧ (ownCommissionEnd s).2.2.sweep = s.sweep ∧ (ownCommissionEnd s).2.2.slots = s.slots ∧
    (ownCommissionEnd s).2.2.pending = s.pending := by
  refine ⟨?_, ?_, ?_, ?_, ?_, ?_, ?_⟩
  all_goals
    unfold ownCommissionEnd; dsimp only; (repeat' split) <;> simp

@[simp] theorem State.resetRuns_frame :
    s.resetRuns.timer = s.timer ∧ s.resetRuns.clock = s.clock ∧ s.resetRuns.ctl = s.ctl ∧ s.resetRuns.globals = s.globals ∧
    s.resetRuns.bells = s.bells ∧ s.resetRuns.drive = s.drive ∧ s.resetRuns.warn = s.warn ∧ s.resetRuns.sweep = s.sweep ∧
    s.resetRuns.sched = s.sched ∧ s.resetRuns.engine = s.engine ∧ s.resetRuns.slots = s.slots ∧ s.resetRuns.tunes = s.tunes ∧
    s.resetRuns.nv = s.nv ∧ s.resetRuns.link = s.link ∧ s.resetRuns.pending = s.pending := by
  refine ⟨?_, ?_, ?_, ?_, ?_, ?_, ?_, ?_, ?_, ?_, ?_, ?_, ?_, ?_, ?_⟩
  all_goals
    rfl

@[simp] theorem State.restartSweep_frame :
    s.restartSweep.timer = s.timer ∧ s.restartSweep.clock = s.clock ∧ s.restartSweep.ctl = s.ctl ∧ s.restartSweep.globals = s.globals ∧
    s.restartSweep.bells = s.bells ∧ s.restartSweep.drive = s.drive ∧ s.restartSweep.warn = s.warn ∧ s.restartSweep.supply = s.supply ∧
    s.restartSweep.sched = s.sched ∧ s.restartSweep.engine = s.engine ∧ s.restartSweep.slots = s.slots ∧
    s.restartSweep.tunes = s.tunes ∧ s.restartSweep.nv = s.nv ∧ s.restartSweep.link = s.link ∧ s.restartSweep.pending = s.pending := by
  refine ⟨?_, ?_, ?_, ?_, ?_, ?_, ?_, ?_, ?_, ?_, ?_, ?_, ?_, ?_, ?_⟩
  all_goals
    rfl

@[simp] theorem State.loadArea_frame (a : StoredArea) :
    (s.loadArea a).timer = s.timer ∧ (s.loadArea a).clock = s.clock ∧ (s.loadArea a).drive = s.drive ∧ (s.loadArea a).warn = s.warn ∧
    (s.loadArea a).supply = s.supply ∧ (s.loadArea a).sweep = s.sweep ∧ (s.loadArea a).sched = s.sched ∧
    (s.loadArea a).engine = s.engine ∧ (s.loadArea a).tunes = s.tunes ∧ (s.loadArea a).nv = s.nv ∧ (s.loadArea a).link = s.link ∧
    (s.loadArea a).pending = s.pending := by
  refine ⟨?_, ?_, ?_, ?_, ?_, ?_, ?_, ?_, ?_, ?_, ?_, ?_⟩
  all_goals
    rfl

@[simp] theorem State.loadSettings_frame :
    s.loadSettings.timer = s.timer ∧ s.loadSettings.clock = s.clock ∧ s.loadSettings.drive = s.drive ∧ s.loadSettings.warn = s.warn ∧
    s.loadSettings.supply = s.supply ∧ s.loadSettings.sweep = s.sweep ∧ s.loadSettings.sched = s.sched ∧
    s.loadSettings.engine = s.engine ∧ s.loadSettings.tunes = s.tunes ∧ s.loadSettings.nv = s.nv ∧
    s.loadSettings.pending = s.pending := by
  refine ⟨?_, ?_, ?_, ?_, ?_, ?_, ?_, ?_, ?_, ?_, ?_⟩
  all_goals
    unfold State.loadSettings; split <;> simp

@[simp] theorem loadEntry_frame (g : List (Fin 96 × StoredTune × StoreReason)) (i : Fin 96) :
    (loadEntry s g i).1.timer = s.timer ∧ (loadEntry s g i).1.clock = s.clock ∧ (loadEntry s g i).1.ctl = s.ctl ∧
    (loadEntry s g i).1.globals = s.globals ∧ (loadEntry s g i).1.bells = s.bells ∧ (loadEntry s g i).1.drive = s.drive ∧
    (loadEntry s g i).1.warn = s.warn ∧ (loadEntry s g i).1.supply = s.supply ∧ (loadEntry s g i).1.sweep = s.sweep ∧
    (loadEntry s g i).1.sched = s.sched ∧ (loadEntry s g i).1.engine = s.engine ∧ (loadEntry s g i).1.slots = s.slots ∧
    (loadEntry s g i).1.link = s.link ∧ (loadEntry s g i).1.pending = s.pending := by
  refine ⟨?_, ?_, ?_, ?_, ?_, ?_, ?_, ?_, ?_, ?_, ?_, ?_, ?_, ?_⟩
  all_goals
    unfold loadEntry; (repeat' split) <;> rfl

@[simp] theorem loadEntries_frame (g : List (Fin 96 × StoredTune × StoreReason)) (l : List (Fin 96)) :
    (l.foldl (fun a i => loadEntry a.1 a.2 i) (s, g)).1.timer = s.timer ∧
    (l.foldl (fun a i => loadEntry a.1 a.2 i) (s, g)).1.clock = s.clock ∧
    (l.foldl (fun a i => loadEntry a.1 a.2 i) (s, g)).1.ctl = s.ctl ∧
    (l.foldl (fun a i => loadEntry a.1 a.2 i) (s, g)).1.globals = s.globals ∧
    (l.foldl (fun a i => loadEntry a.1 a.2 i) (s, g)).1.bells = s.bells ∧
    (l.foldl (fun a i => loadEntry a.1 a.2 i) (s, g)).1.drive = s.drive ∧
    (l.foldl (fun a i => loadEntry a.1 a.2 i) (s, g)).1.warn = s.warn ∧
    (l.foldl (fun a i => loadEntry a.1 a.2 i) (s, g)).1.supply = s.supply ∧
    (l.foldl (fun a i => loadEntry a.1 a.2 i) (s, g)).1.sweep = s.sweep ∧
    (l.foldl (fun a i => loadEntry a.1 a.2 i) (s, g)).1.sched = s.sched ∧
    (l.foldl (fun a i => loadEntry a.1 a.2 i) (s, g)).1.engine = s.engine ∧
    (l.foldl (fun a i => loadEntry a.1 a.2 i) (s, g)).1.slots = s.slots ∧
    (l.foldl (fun a i => loadEntry a.1 a.2 i) (s, g)).1.link = s.link ∧
    (l.foldl (fun a i => loadEntry a.1 a.2 i) (s, g)).1.pending = s.pending := by
  refine ⟨?_, ?_, ?_, ?_, ?_, ?_, ?_, ?_, ?_, ?_, ?_, ?_, ?_, ?_⟩
  · exact foldl_keeps (fun a : State × List (Fin 96 × StoredTune × StoreReason) => a.1.timer) (fun a i => by simp) _ _
  · exact foldl_keeps (fun a : State × List (Fin 96 × StoredTune × StoreReason) => a.1.clock) (fun a i => by simp) _ _
  · exact foldl_keeps (fun a : State × List (Fin 96 × StoredTune × StoreReason) => a.1.ctl) (fun a i => by simp) _ _
  · exact foldl_keeps (fun a : State × List (Fin 96 × StoredTune × StoreReason) => a.1.globals) (fun a i => by simp) _ _
  · exact foldl_keeps (fun a : State × List (Fin 96 × StoredTune × StoreReason) => a.1.bells) (fun a i => by simp) _ _
  · exact foldl_keeps (fun a : State × List (Fin 96 × StoredTune × StoreReason) => a.1.drive) (fun a i => by simp) _ _
  · exact foldl_keeps (fun a : State × List (Fin 96 × StoredTune × StoreReason) => a.1.warn) (fun a i => by simp) _ _
  · exact foldl_keeps (fun a : State × List (Fin 96 × StoredTune × StoreReason) => a.1.supply) (fun a i => by simp) _ _
  · exact foldl_keeps (fun a : State × List (Fin 96 × StoredTune × StoreReason) => a.1.sweep) (fun a i => by simp) _ _
  · exact foldl_keeps (fun a : State × List (Fin 96 × StoredTune × StoreReason) => a.1.sched) (fun a i => by simp) _ _
  · exact foldl_keeps (fun a : State × List (Fin 96 × StoredTune × StoreReason) => a.1.engine) (fun a i => by simp) _ _
  · exact foldl_keeps (fun a : State × List (Fin 96 × StoredTune × StoreReason) => a.1.slots) (fun a i => by simp) _ _
  · exact foldl_keeps (fun a : State × List (Fin 96 × StoredTune × StoreReason) => a.1.link) (fun a i => by simp) _ _
  · exact foldl_keeps (fun a : State × List (Fin 96 × StoredTune × StoreReason) => a.1.pending) (fun a i => by simp) _ _

@[simp] theorem State.loadDirectory_frame :
    s.loadDirectory.timer = s.timer ∧ s.loadDirectory.clock = s.clock ∧ s.loadDirectory.ctl = s.ctl ∧
    s.loadDirectory.globals = s.globals ∧ s.loadDirectory.bells = s.bells ∧ s.loadDirectory.drive = s.drive ∧
    s.loadDirectory.warn = s.warn ∧ s.loadDirectory.supply = s.supply ∧ s.loadDirectory.sweep = s.sweep ∧
    s.loadDirectory.sched = s.sched ∧ s.loadDirectory.engine = s.engine ∧ s.loadDirectory.slots = s.slots ∧
    s.loadDirectory.pending = s.pending := by
  refine ⟨?_, ?_, ?_, ?_, ?_, ?_, ?_, ?_, ?_, ?_, ?_, ?_, ?_⟩
  · exact (foldl_keeps (fun s : State => s.timer) (fun s a => by simp) _ _).trans (by simp)
  · exact (foldl_keeps (fun s : State => s.clock) (fun s a => by simp) _ _).trans (by simp)
  · exact (foldl_keeps (fun s : State => s.ctl) (fun s a => by simp) _ _).trans (by simp)
  · exact (foldl_keeps (fun s : State => s.globals) (fun s a => by simp) _ _).trans (by simp)
  · exact (foldl_keeps (fun s : State => s.bells) (fun s a => by simp) _ _).trans (by simp)
  · exact (foldl_keeps (fun s : State => s.drive) (fun s a => by simp) _ _).trans (by simp)
  · exact (foldl_keeps (fun s : State => s.warn) (fun s a => by simp) _ _).trans (by simp)
  · exact (foldl_keeps (fun s : State => s.supply) (fun s a => by simp) _ _).trans (by simp)
  · exact (foldl_keeps (fun s : State => s.sweep) (fun s a => by simp) _ _).trans (by simp)
  · exact (foldl_keeps (fun s : State => s.sched) (fun s a => by simp) _ _).trans (by simp)
  · exact (foldl_keeps (fun s : State => s.engine) (fun s a => by simp) _ _).trans (by simp)
  · exact (foldl_keeps (fun s : State => s.slots) (fun s a => by simp) _ _).trans (by simp)
  · exact (foldl_keeps (fun s : State => s.pending) (fun s a => by simp) _ _).trans (by simp)

@[simp] theorem State.endLoading_frame :
    s.endLoading.timer = s.timer ∧ s.endLoading.clock = s.clock ∧ s.endLoading.warn = s.warn ∧ s.endLoading.supply = s.supply ∧
    s.endLoading.sweep = s.sweep ∧ s.endLoading.slots = s.slots ∧ s.endLoading.nv = s.nv ∧ s.endLoading.pending = s.pending := by
  refine ⟨?_, ?_, ?_, ?_, ?_, ?_, ?_, ?_⟩
  all_goals
    unfold State.endLoading; dsimp only; (repeat' split) <;> simp


end Sys2Proof.Machine

/-! ### Proofs: the Mode Controller after each change of mode (chapter 10) -/

namespace Sys2Proof.Machine

open Sys2Proof

variable {s : State}

@[simp] theorem State.enterMode_ctl (m : Mode) (r : Option Mode) (c : ModeCause) :
    (s.enterMode m r c).ctl = { s.ctl with mode := m, remembered := r } := by
  unfold State.enterMode; dsimp only; split <;> simp

theorem State.keyEvent_ctl (a : Bool) :
    (s.keyEvent a).ctl =
      if a then (if s.ctl.mode.returnable then { s.ctl with mode := .console, remembered := some s.ctl.mode } else s.ctl)
      else if s.ctl.mode = .console then { s.ctl with mode := s.ctl.back, remembered := none } else s.ctl := by
  unfold State.keyEvent; repeat' split
  all_goals simp

theorem State.keySample_ctl (high : Bool) :
    (s.keySample high).ctl =
      let out := filterOut 3 5 (pushSample s.ctl.keyHist high) s.ctl.keyOut
      let u := s.setCtl { s.ctl with keyHist := pushSample s.ctl.keyHist high, keyOut := out }
      if out != s.ctl.keyOut then (u.keyEvent out).ctl else u.ctl := by
  unfold State.keySample; dsimp only; split <;> rfl

theorem State.causeRaised_ctl :
    s.causeRaised.ctl =
      match s.ctl.mode with
      | .loading => s.ctl
      | .halt => s.ctl
      | .console => { s.ctl with mode := .halt }
      | m => { s.ctl with mode := .halt, remembered := some m } := by
  unfold State.causeRaised; cases h : s.ctl.mode <;> simp

theorem State.causeCleared_ctl :
    s.causeCleared.ctl =
      if s.ctl.mode = .halt ∧ s.ctl.causes.isEmpty = true then
        if s.ctl.keyOut then { s.ctl with mode := .console } else { s.ctl with mode := s.ctl.back, remembered := none }
      else s.ctl := by
  unfold State.causeCleared; cases h : s.ctl.mode <;> simp
  repeat' split
  all_goals simp

/-! ### Proofs: every step keeps the law of the modes (chapter 10) -/

/-- The law of the modes speaks of the Mode Controller and of the clock's validity alone. -/
theorem State.ModesLaw.congr {t : State} (h : s.ModesLaw) (hc : t.ctl = s.ctl) (hv : t.clock.valid = true → s.clock.valid = true) :
    t.ModesLaw := by
  obtain ⟨h1, h2, h3, h4, h5, h6, h7⟩ := h
  refine ⟨?_, ?_, ?_, ?_, ?_, ?_, ?_⟩ <;> rw [hc]
  all_goals try assumption
  intro hr
  refine ⟨(h7 hr).1, Bool.eq_false_iff.mpr fun k => ?_⟩
  rw [hv k] at h7
  exact Bool.noConfusion (h7 hr).2

/-- A remembered mode is one of those returned to, and so is SILENT, which stands for none. -/
theorem State.ModesLaw.back (h : s.ModesLaw) : s.ctl.back.returnable = true := by
  cases hr : s.ctl.remembered with
  | none => simp [ModeController.back, hr, Mode.returnable]
  | some m => simpa [ModeController.back, hr] using h.returns m hr

theorem Mode.returnable_iff {m : Mode} : m.returnable = true ↔ m ≠ .loading ∧ m ≠ .console ∧ m ≠ .halt := by
  cases m <;> decide

/-- Back in a working mode with the key released and no cause. -/
theorem State.ModesLaw.returned (h : s.ModesLaw) {t : State} (hm : s.ctl.mode = .console ∨ s.ctl.mode = .halt)
    (ht : t.ctl = { s.ctl with mode := s.ctl.back, remembered := none, causes := t.ctl.causes, keyHist := t.ctl.keyHist, keyOut := false })
    (hc : t.ctl.causes.isEmpty = true) (hv : t.clock.valid = true → s.clock.valid = true) : t.ModesLaw := by
  have hb := Mode.returnable_iff.mp h.back
  have hmode : t.ctl.mode = s.ctl.back := by rw [ht]
  have hrem : t.ctl.remembered = none := by rw [ht]
  have hkey : t.ctl.keyOut = false := by rw [ht]
  refine ⟨?_, ?_, ?_, ?_, ?_, ?_, ?_⟩
  · simp [hmode, hrem, hb]
  · simp [hrem]
  · simp [hmode, hb]
  · intros; exact hc
  · intros; exact hkey
  · simp [hmode, hb]
  · intro hr
    have hr' : s.ctl.resumePending = true := by rw [ht] at hr; exact hr
    obtain ⟨hs, hv'⟩ := h.resume hr'
    have hs' : s.ctl.remembered = some .silent := by
      rcases hs with hs | hs
      · rcases hm with hm | hm <;> rw [hm] at hs <;> cases hs
      · exact hs
    refine ⟨.inl (by simp [hmode, ModeController.back, hs']), Bool.eq_false_iff.mpr fun k => ?_⟩
    rw [hv k] at hv'
    exact Bool.noConfusion hv'

/-- In CONSOLE or HALT with a working mode remembered. -/
theorem State.ModesLaw.remembering {t : State} {m : Mode} (hr : t.ctl.remembered = some m) (hm : m.returnable = true)
    (hc : t.ctl.mode = .console ∧ t.ctl.causes.isEmpty = true ∧ t.ctl.keyOut = true ∨ t.ctl.mode = .halt ∧ t.ctl.causes.isEmpty = false)
    (hp : t.ctl.resumePending = true → m = .silent ∧ t.clock.valid = false) : t.ModesLaw := by
  refine ⟨?_, ?_, ?_, ?_, ?_, ?_, ?_⟩
  · rw [hr]; exact ⟨fun _ => hc.imp And.left And.left, fun _ => rfl⟩
  · intro y hy; rw [hr] at hy; cases hy; exact hm
  · rcases hc with ⟨h1, -⟩ | ⟨-, h2⟩
    · rw [h1]; exact fun k => by cases k
    · exact fun _ => h2
  · rcases hc with ⟨-, h2, -⟩ | ⟨h1, -⟩
    · exact fun _ _ => h2
    · exact fun k => absurd h1 k
  · rcases hc with ⟨h1, -⟩ | ⟨h1, -⟩ <;> rw [h1] <;> exact fun k => Bool.noConfusion k
  · rcases hc with ⟨-, -, h3⟩ | ⟨h1, -⟩
    · exact fun _ => h3
    · rw [h1]; exact fun k => by cases k
  · intro k
    obtain ⟨rfl, hv⟩ := hp k
    exact ⟨.inr hr, hv⟩

/-- Stopped in HALT or CONSOLE, a working mode remembered. -/
theorem State.ModesLaw.stopped (h : s.ModesLaw) {t : State} (hp : t.ctl.resumePending = s.ctl.resumePending)
    (hrem : t.ctl.remembered = some s.ctl.mode ∧ s.ctl.mode.returnable = true ∨
      t.ctl.remembered = s.ctl.remembered ∧ (s.ctl.mode = .console ∨ s.ctl.mode = .halt))
    (hc : t.ctl.mode = .console ∧ t.ctl.causes.isEmpty = true ∧ t.ctl.keyOut = true ∨ t.ctl.mode = .halt ∧ t.ctl.causes.isEmpty = false)
    (hv : t.clock.valid = true → s.clock.valid = true) : t.ModesLaw := by
  have clock (hr : s.clock.valid = false) : t.clock.valid = false := Bool.eq_false_iff.mpr fun k => by
    rw [hv k] at hr; cases hr
  rcases hrem with ⟨h1, h2⟩ | ⟨h1, h2⟩
  · refine .remembering h1 h2 hc fun k => ?_
    obtain ⟨hs, hv'⟩ := h.resume (hp.symm.trans k)
    refine ⟨hs.resolve_right fun e => ?_, clock hv'⟩
    exact absurd (h.remembers.mp (by rw [e]; rfl)) (not_or.mpr (Mode.returnable_iff.mp h2).2)
  · obtain ⟨x, hx⟩ := Option.isSome_iff_exists.mp (h.remembers.mpr h2)
    refine .remembering (h1.trans hx) (h.returns x hx) hc fun k => ?_
    obtain ⟨hs, hv'⟩ := h.resume (hp.symm.trans k)
    refine ⟨?_, clock hv'⟩
    rcases hs with hs | hs
    · rw [hs] at h2; rcases h2 with h2 | h2 <;> cases h2
    · exact Option.some.inj (hx.symm.trans hs)

/-- A working mode entered with nothing remembered and nothing to resume. -/
theorem State.ModesLaw.working {t : State} (hm : t.ctl.mode.returnable = true) (hr : t.ctl.remembered = none)
    (hc : t.ctl.causes.isEmpty = true) (hk : t.ctl.keyOut = false)
    (hp : t.ctl.resumePending = true → t.ctl.mode = .silent ∧ t.clock.valid = false) : t.ModesLaw := by
  have hm' := Mode.returnable_iff.mp hm
  refine ⟨by simp [hr, hm'], by simp [hr], fun k => absurd k hm'.2.2, fun _ _ => hc, fun _ => hk, fun k => absurd k hm'.2.1, fun k => ?_⟩
  exact ⟨.inl (hp k).1, (hp k).2⟩

theorem filterOut_changed {m n : Nat} {h : List Bool} {out : Bool} (k : filterOut m n h out ≠ out) : filterOut m n h out = !out := by
  cases hf : filterOut m n h out <;> cases out <;> simp_all

theorem State.keySample_modes (h : s.ModesLaw) (high : Bool) : (s.keySample high).ModesLaw := by
  have hctl := s.keySample_ctl high
  have hclock : (s.keySample high).clock = s.clock := by simp
  dsimp only at hctl
  generalize filterOut 3 5 (pushSample s.ctl.keyHist high) s.ctl.keyOut = out at hctl
  have hv : (s.keySample high).clock.valid = true → s.clock.valid = true := by rw [hclock]; exact id
  by_cases hout : out = s.ctl.keyOut
  · simp only [hout, bne_self_eq_false, Bool.false_eq_true, if_false, setCtl_ctl] at hctl
    refine ⟨?_, ?_, ?_, ?_, ?_, ?_, ?_⟩ <;> rw [hctl]
    · exact h.remembers
    · exact h.returns
    · exact h.halted
    · exact h.unhalted
    · exact h.released
    · exact h.asserted
    · rw [hclock]; exact h.resume
  · rw [if_pos (bne_iff_ne.mpr hout), keyEvent_ctl, setCtl_ctl] at hctl
    cases out with
    | true =>
      rw [if_pos rfl] at hctl
      by_cases hr : s.ctl.mode.returnable = true
      · rw [if_pos hr] at hctl
        have hn := Mode.returnable_iff.mp hr
        exact h.stopped (by rw [hctl]) (.inl ⟨by rw [hctl], hr⟩) (.inl (by rw [hctl]; exact ⟨rfl, h.unhalted hn.2.2 hn.1, rfl⟩)) hv
      · rw [if_neg hr] at hctl
        refine ⟨?_, ?_, ?_, ?_, ?_, ?_, ?_⟩ <;> rw [hctl]
        · exact h.remembers
        · exact h.returns
        · exact h.halted
        · exact h.unhalted
        · exact fun k => absurd k hr
        · exact fun _ => rfl
        · rw [hclock]; exact h.resume
    | false =>
      rw [if_neg Bool.false_ne_true] at hctl
      by_cases hm : s.ctl.mode = .console
      · rw [if_pos hm] at hctl
        exact h.returned (.inl hm) (by rw [hctl]; rfl) (by rw [hctl]; exact h.unhalted (by rw [hm]; decide) (by rw [hm]; decide)) hv
      · rw [if_neg hm] at hctl
        refine ⟨?_, ?_, ?_, ?_, ?_, ?_, ?_⟩ <;> rw [hctl]
        · exact h.remembers
        · exact h.returns
        · exact h.halted
        · exact h.unhalted
        · exact fun _ => rfl
        · exact fun k => absurd k hm
        · rw [hclock]; exact h.resume

/-- A cause raised: the part is, or comes to be, in HALT, but for LOADING. -/
theorem State.setCauses_raised_modes (h : s.ModesLaw) {c : Causes} (hc : c.isEmpty = false) : (s.setCauses c true).ModesLaw := by
  have hctl : (s.setCauses c true).ctl = (s.setCtl { s.ctl with causes := c }).causeRaised.ctl := rfl
  have hclock : (s.setCauses c true).clock = s.clock := by simp
  have hv : (s.setCauses c true).clock.valid = true → s.clock.valid = true := by rw [hclock]; exact id
  rw [causeRaised_ctl, setCtl_ctl] at hctl
  have stays (hm : s.ctl.mode = .loading ∨ s.ctl.mode = .halt) (k : (s.setCauses c true).ctl = { s.ctl with causes := c }) :
      (s.setCauses c true).ModesLaw := by
    refine ⟨?_, ?_, ?_, ?_, ?_, ?_, ?_⟩ <;> rw [k]
    · exact h.remembers
    · exact h.returns
    · exact fun _ => hc
    · exact fun h1 h2 => absurd hm (not_or.mpr ⟨h2, h1⟩)
    · exact h.released
    · exact h.asserted
    · rw [hclock]; exact h.resume
  split at hctl
  · next hm => exact stays (.inl hm) hctl
  · next hm => exact stays (.inr hm) hctl
  · next hm =>
    exact h.stopped (by rw [hctl]) (.inr ⟨by rw [hctl], .inl hm⟩) (.inr (by rw [hctl]; exact ⟨rfl, hc⟩)) hv
  · next h1 h2 h3 =>
    exact h.stopped (by rw [hctl]) (.inl ⟨by rw [hctl], Mode.returnable_iff.mpr ⟨h1, h3, h2⟩⟩) (.inr (by rw [hctl]; exact ⟨rfl, hc⟩)) hv

/-- A cause cleared that was present: from HALT without a cause the part returns. -/
theorem State.setCauses_cleared_modes (h : s.ModesLaw) (hp : s.ctl.causes.isEmpty = false) (c : Causes) : (s.setCauses c false).ModesLaw := by
  have hctl : (s.setCauses c false).ctl = (s.setCtl { s.ctl with causes := c }).causeCleared.ctl := rfl
  have hclock : (s.setCauses c false).clock = s.clock := by simp
  have hv : (s.setCauses c false).clock.valid = true → s.clock.valid = true := by rw [hclock]; exact id
  have hmode : s.ctl.mode = .loading ∨ s.ctl.mode = .halt := by
    by_contra k
    rw [not_or] at k
    rw [h.unhalted k.2 k.1] at hp
    cases hp
  rw [causeCleared_ctl, setCtl_ctl] at hctl
  by_cases hm : s.ctl.mode = .halt ∧ c.isEmpty = true
  · rw [if_pos hm] at hctl
    by_cases hk : s.ctl.keyOut = true
    · rw [if_pos hk] at hctl
      exact h.stopped (by rw [hctl]) (.inr ⟨by rw [hctl], .inr hm.1⟩) (.inl (by rw [hctl]; exact ⟨rfl, hm.2, hk⟩)) hv
    · rw [if_neg hk] at hctl
      refine h.returned (.inr hm.1) ?_ (by rw [hctl]; exact hm.2) hv
      rw [hctl, ← Bool.eq_false_iff.mpr hk]; rfl
  · rw [if_neg hm] at hctl
    refine ⟨?_, ?_, ?_, ?_, ?_, ?_, ?_⟩ <;> rw [hctl]
    · exact h.remembers
    · exact h.returns
    · exact fun k => Bool.eq_false_iff.mpr fun e => hm ⟨k, e⟩
    · exact fun h1 h2 => absurd hmode (not_or.mpr ⟨h2, h1⟩)
    · exact h.released
    · exact h.asserted
    · rw [hclock]; exact h.resume

theorem State.temperature_modes (h : s.ModesLaw) (c : Int) : (s.temperature c).ModesLaw := by
  unfold State.temperature; dsimp only
  generalize hhot : hotAfter s.ctl.causes.driverHot (clampInt c (-40) 150) = hot
  have hs : State.ModesLaw { s with warn := warnAfter s.warn (clampInt c (-40) 150) } := h.congr rfl id
  split
  · next hne =>
    cases hot with
    | true => exact setCauses_raised_modes hs (by simp [Causes.isEmpty])
    | false =>
      refine setCauses_cleared_modes hs ?_ _
      have : s.ctl.causes.driverHot = true := by cases hd : s.ctl.causes.driverHot <;> simp_all
      simp [Causes.isEmpty, this]
  · exact hs

theorem State.judgeRecovery_modes (h : s.ModesLaw) (hl : s.ctl.causes.supplyLow = true) (good : Bool) : (s.judgeRecovery good).ModesLaw := by
  have hs (l r : Nat) : (s.setRuns l r).ModesLaw := h.congr rfl id
  have hc : (s.setRuns s.supply.lowRun 0).ctl.causes.isEmpty = false := by
    show s.ctl.causes.isEmpty = false
    simp [Causes.isEmpty, hl]
  unfold State.judgeRecovery
  extract_lets run
  split
  · exact setCauses_cleared_modes (hs _ _) hc _
  · exact hs _ _

theorem State.judgeLow_modes (h : s.ModesLaw) (low : Bool) : (s.judgeLow low).ModesLaw := by
  have hs (l r : Nat) : (s.setRuns l r).ModesLaw := h.congr rfl id
  unfold State.judgeLow
  extract_lets run
  split
  · exact setCauses_raised_modes (hs _ _) (by simp [Causes.isEmpty])
  · exact hs _ _

theorem State.supplySample_modes (h : s.ModesLaw) (v : Nat) : (s.supplySample v).ModesLaw := by
  unfold State.supplySample
  dsimp only
  split
  · next hl =>
    refine judgeRecovery_modes ?_ ?_ _
    · exact h.congr rfl id
    · exact hl
  · refine judgeLow_modes ?_ _
    exact h.congr rfl id

/-- The mode at the end of LOADING, whatever the state loaded. -/
theorem State.endLoading_modes (u : State) : u.endLoading.ModesLaw := by
  have ht : (targetMode u.ctl.commissioned u.globals.autoActive u.clock.valid).1.returnable = true ∧
      ((targetMode u.ctl.commissioned u.globals.autoActive u.clock.valid).2 = true →
        (targetMode u.ctl.commissioned u.globals.autoActive u.clock.valid).1 = .silent ∧ u.clock.valid = false) := by
    unfold targetMode; split
    · exact ⟨rfl, nofun⟩
    · split
      · exact ⟨rfl, nofun⟩
      · split
        · exact ⟨rfl, nofun⟩
        · next hv => exact ⟨rfl, fun _ => ⟨rfl, Bool.eq_false_iff.mpr hv⟩⟩
  have hclock : u.endLoading.clock = u.clock := by
    unfold State.endLoading; dsimp only; repeat' split
    all_goals simp
  unfold State.endLoading at hclock ⊢; dsimp only at hclock ⊢
  generalize targetMode u.ctl.commissioned u.globals.autoActive u.clock.valid = t at ht hclock ⊢
  split
  · next hc =>
    exact .remembering (by simp) ht.1 (.inr ⟨by simp, by simpa using hc⟩) (by simpa using ht.2)
  · next hc =>
    split
    · next hk =>
      exact .remembering (by simp) ht.1 (.inl ⟨by simp, by simpa using hc, by simpa using hk⟩) (by simpa using ht.2)
    · next hk =>
      exact .working (by simpa using ht.1) (by simp) (by simpa using hc) (by simpa using hk) (by simpa using ht.2)

/-- The clock becomes valid. -/
theorem State.clockBecameValid_modes (h : s.ModesLaw) (hm : s.ctl.mode ≠ .loading) {u : State} (hu : u.ctl = s.ctl) :
    u.clockBecameValid.ModesLaw := by
  unfold State.clockBecameValid
  split
  · next hr =>
    have hres := (h.resume (by rw [← hu]; exact hr)).1
    dsimp only [setCtl_ctl]
    rw [hu]
    split
    · next hs =>
      refine .working (by simp [Mode.returnable]) (by simp) ?_ ?_ (by simp)
      · simpa using h.unhalted (by rw [hs]; decide) hm
      · simpa using h.released (by rw [hs]; decide)
    · next hc hrem =>
      exact .remembering rfl rfl (.inl ⟨hc, h.unhalted (by rw [hc]; decide) hm, h.asserted hc⟩) nofun
    · next hc hrem => exact .remembering rfl rfl (.inr ⟨hc, h.halted hc⟩) nofun
    · next h1 h2 h3 =>
      exfalso
      rcases hres with hs | hs
      · exact h1 hs
      · rcases h.remembers.mp (by rw [hs]; rfl) with k | k
        · exact h2 k hs
        · exact h3 k hs
  · next hr =>
    have hr' : s.ctl.resumePending = false := by rw [← hu]; exact Bool.eq_false_iff.mpr hr
    obtain ⟨h1, h2, h3, h4, h5, h6, -⟩ := h
    refine ⟨?_, ?_, ?_, ?_, ?_, ?_, ?_⟩ <;> rw [hu]
    all_goals try assumption
    rw [hr']; exact fun k => Bool.noConfusion k

theorem State.setTime_modes (h : s.ModesLaw) (hm : s.ctl.mode ≠ .loading) (y mo d ms : Nat) : (ownSetTime y mo d ms s).2.2.ModesLaw := by
  unfold ownSetTime; split
  · exact h
  · dsimp only
    split
    · next hv => exact h.congr (by simp) fun _ => hv
    · exact clockBecameValid_modes h hm (by simp)

theorem State.setMode_modes (h : s.ModesLaw) (m : Nat) : (ownSetMode m s).2.2.ModesLaw := by
  unfold ownSetMode
  have quiet {c : ModeController} (hs : s.ctl.mode = .silent) (hc : c = { s.ctl with resumePending := false }) {t : State}
      (ht : t.ctl = { c with mode := t.ctl.mode, remembered := none }) (hr : t.ctl.mode.returnable = true) : t.ModesLaw := by
    refine .working hr (by rw [ht]) ?_ ?_ ?_ <;> rw [ht, hc]
    · exact h.unhalted (by rw [hs]; decide) (by rw [hs]; decide)
    · exact h.released (by rw [hs]; decide)
    · exact fun k => Bool.noConfusion k
  split
  · exact h
  · split
    · next hs =>
      have hrem : s.ctl.remembered = none := by
        simpa [hs] using h.remembers
      split
      · split
        · exact quiet hs rfl (by simp) (by simp [Mode.returnable])
        · exact h
      · exact quiet hs rfl (by simp [hs, hrem]) (by simp [hs, Mode.returnable])
    · next ha =>
      split
      · refine .working (by simp [Mode.returnable]) (by simp) ?_ ?_ ?_
        · simpa using h.unhalted (by rw [ha]; decide) (by rw [ha]; decide)
        · simpa using h.released (by rw [ha]; decide)
        · simp only [enterMode_ctl]
          intro k
          have := (h.resume k).1
          have hrem : s.ctl.remembered = none := by simpa [ha] using h.remembers
          simp [ha, hrem] at this
      · exact h
    · exact h

theorem State.commissionEnd_modes (h : s.ModesLaw) : (ownCommissionEnd s).2.2.ModesLaw := by
  unfold ownCommissionEnd
  split
  · exact h
  · next hm =>
    have hm := not_not.mp hm
    split
    · exact h
    · refine .working (by simp [Mode.returnable]) (by simp) ?_ ?_ ?_
      · simpa using h.unhalted (by rw [hm]; decide) (by rw [hm]; decide)
      · simpa using h.released (by rw [hm]; decide)
      · intro k
        have := (h.resume (by simpa using k)).1
        have hrem : s.ctl.remembered = none := by simpa [hm] using h.remembers
        simp [hm, hrem] at this

theorem State.rangeHold_modes (h : s.ModesLaw) (w : Nat) : (s.rangeHold w).ModesLaw :=
  h.congr (by simp) fun hv => by simp [State.rangeHold, State.clockReport] at hv

theorem State.pulseSample_modes (h : s.ModesLaw) (high : Bool) : (s.pulseSample high).ModesLaw := by
  have accepted {u : State} (hu : u.ModesLaw) (edge : Nat) : (u.pulseAccepted edge).ModesLaw := by
    unfold State.pulseAccepted
    dsimp only
    split
    · exact hu.congr rfl id
    · unfold State.pulseStep
      dsimp only
      split
      · refine rangeHold_modes ?_ _
        exact hu.congr rfl id
      · split
        · refine rangeHold_modes ?_ _
          exact hu.congr rfl id
        · exact hu.congr (by simp) fun k => by simpa using k
  unfold State.pulseSample
  dsimp only
  split
  · unfold State.judgeEdge; split
    · split
      · exact h.congr (by simp) fun k => by simpa using k
      · refine accepted ?_ _
        exact h.congr rfl id
    · refine accepted ?_ _
      exact h.congr rfl id
  · exact h.congr rfl id

/-- What a command does keeps the law of the modes. -/
theorem Effect.modes {t : State} (e : Effect s t) (h : s.ModesLaw) : t.ModesLaw := by
  have blind {t : State} (hc : t.ctl = s.ctl) (hv : t.clock = s.clock) : t.ModesLaw := h.congr hc fun k => by rw [← hv]; exact k
  cases e with
  | idle => exact h
  | linked k => exact h.congr (by rw [k.rest]) fun hv => by rw [k.rest] at hv; exact hv
  | started hc =>
    refine ⟨?_, ?_, ?_, ?_, ?_, ?_, ?_⟩ <;> simp [startWith, State.reset, ModeController.start, Mode.returnable]
  | loaded => exact State.endLoading_modes _
  | setMode => exact State.setMode_modes h _
  | commissionEnd => exact State.commissionEnd_modes h
  | setTime hm => exact State.setTime_modes h hm _ _ _ _
  | temperature =>
    refine State.temperature_modes ?_ _
    exact h.congr rfl id
  | supply =>
    refine State.supplySample_modes ?_ _
    exact h.congr rfl id
  | keySample =>
    refine State.keySample_modes ?_ _
    exact h.congr rfl id
  | advanced hv => exact h.congr (by simp) fun _ => hv
  | slewed hv => exact h.congr (by simp) fun _ => hv
  | minutePulse =>
    refine State.pulseSample_modes ?_ _
    exact h.congr rfl id
  | _ => exact blind (by simp) (by simp)

theorem State.ModesLaw.blind : LinkBlind State.ModesLaw := fun _ _ _ h => h.congr rfl id

/-- Settles O3: each effect that moves the Mode Controller lands in one of the states `working`, `remembering`, `stopped` and `returned` describe. -/
theorem stepKeepsTheModes : Obligations.StepKeepsTheModes :=
  fun _ _ h => step_keeps State.ModesLaw.blind (fun _ _ hs e => e.modes hs) h

end Sys2Proof.Machine

/-! ### Proofs: the calendar (R113, R115) -/

namespace Sys2Proof.Machine

open Sys2Proof

/-- The day `j` of the month at place `k` is found again among the lengths of the months. -/
theorem monthDay_sum_take : ∀ (lens : List Nat) (m k j : Nat) (hk : k < lens.length), j < lens[k] →
    monthDay lens m ((lens.take k).sum + j) = (m + k, j + 1)
  | len :: rest, m, 0, j, _, hj => by
    have : j < len := by simpa using hj
    simp [monthDay, this]
  | len :: rest, m, k + 1, j, hk, hj => by
    have hk' : k < rest.length := by simpa using hk
    have ih := monthDay_sum_take rest (m + 1) k j hk' (by simpa using hj)
    have past : ¬ (len + (rest.take k).sum + j < len) := by omega
    have left : len + (rest.take k).sum + j - len = (rest.take k).sum + j := by omega
    rw [List.take_succ_cons, List.sum_cons, monthDay, if_neg past, left, ih]
    congr 1
    omega

theorem sum_take_add_lt : ∀ (lens : List Nat) (k j : Nat) (hk : k < lens.length), j < lens[k] → (lens.take k).sum + j < lens.sum
  | len :: rest, 0, j, _, hj => by
    have : j < len := by simpa using hj
    simp; omega
  | len :: rest, k + 1, j, hk, hj => by
    have ih := sum_take_add_lt rest k j (by simpa using hk) (by simpa using hj)
    rw [List.take_succ_cons, List.sum_cons, List.sum_cons]
    omega

theorem monthLengths_length (y : Nat) : (monthLengths y).length = 12 := rfl

theorem monthLengths_sum (y : Nat) : (monthLengths y).sum = if y % 4 = 0 then 366 else 365 := by
  by_cases h : y % 4 = 0 <;> simp [monthLengths, isLeap, h]

/-- The days of the year before a date. -/
def Date.dayOfYear (d : Date) : Nat := ((monthLengths d.year).take (d.month - 1)).sum + (d.day - 1)

theorem Date.valid_iff {d : Date} : d.valid = true ↔
    2000 ≤ d.year ∧ d.year ≤ 2099 ∧ 1 ≤ d.month ∧ d.month ≤ 12 ∧ 1 ≤ d.day ∧ d.day ≤ monthLength d.year d.month := by
  simp [Date.valid]

/-- A valid date names a day of its month. -/
theorem Date.valid.day_lt {d : Date} (h : d.valid = true) :
    ∃ hk : d.month - 1 < (monthLengths d.year).length, d.day - 1 < (monthLengths d.year)[d.month - 1] := by
  obtain ⟨-, -, hm, hm', hd, hd'⟩ := Date.valid_iff.mp h
  have hk : d.month - 1 < (monthLengths d.year).length := by rw [monthLengths_length]; omega
  refine ⟨hk, ?_⟩
  have : monthLength d.year d.month = (monthLengths d.year)[d.month - 1] := by
    rw [monthLength, if_neg (by omega), List.getD_eq_getElem _ _ hk]
  omega

theorem Date.valid.dayOfYear_lt {d : Date} (h : d.valid = true) : d.dayOfYear < if d.year % 4 = 0 then 366 else 365 := by
  obtain ⟨hk, hj⟩ := Date.valid.day_lt h
  rw [← monthLengths_sum]
  exact sum_take_add_lt _ _ _ hk hj

/-- The days of a date, counted in groups of four years. -/
theorem Date.days_eq {d : Date} : d.days = (d.year - 2000) * 365 + (d.year - 2000 + 3) / 4 + d.dayOfYear := by
  unfold Date.days Date.dayOfYear
  omega

theorem Date.valid.days_lt {d : Date} (h : d.valid = true) : d.days < 36525 := by
  have hlt := Date.valid.dayOfYear_lt h
  obtain ⟨hy, hy', -⟩ := Date.valid_iff.mp h
  rw [Date.days_eq]
  split at hlt <;> omega

/-- The days of a valid date give it back: the year by the group of four and its place there, the month and day by `monthDay_sum_take`. -/
theorem dateOfDays_days {d : Date} (h : d.valid = true) : dateOfDays d.days = d := by
  obtain ⟨hk, hj⟩ := Date.valid.day_lt h
  have hlt := Date.valid.dayOfYear_lt h
  obtain ⟨hy, hy', hm, -, hd, -⟩ := Date.valid_iff.mp h
  have hdays := d.days_eq
  have hmonth := monthDay_sum_take (monthLengths d.year) 1 _ _ hk hj
  change monthDay (monthLengths d.year) 1 d.dayOfYear = _ at hmonth
  obtain ⟨q, r, hr, hq⟩ : ∃ q r, r < 4 ∧ d.year = 2000 + 4 * q + r := ⟨(d.year - 2000) / 4, (d.year - 2000) % 4, by omega, by omega⟩
  have hgroup : d.days / 1461 = q ∧ d.days % 1461 = 365 * r + (r + 3) / 4 + d.dayOfYear := by
    interval_cases r <;> split at hlt <;> omega
  have hyear : 2000 + 4 * (d.days / 1461) + (if d.days % 1461 < 366 then 0 else 1 + (d.days % 1461 - 366) / 365) = d.year := by
    rw [hgroup.1, hgroup.2]
    interval_cases r <;> split_ifs at hlt ⊢ <;> omega
  have hday : (if d.days % 1461 < 366 then d.days % 1461 else (d.days % 1461 - 366) % 365) = d.dayOfYear := by
    rw [hgroup.2]
    interval_cases r <;> split_ifs at hlt ⊢ <;> omega
  simp only [dateOfDays, hyear, hday, hmonth]
  cases d
  simp only [Date.mk.injEq, true_and] at hm hd ⊢
  omega

theorem wallOf_lt {d : Date} {ms : Nat} (h : d.valid = true) (k : ms < 86400000) : wallOf d ms < Config.rangeEnd := by
  have := Date.valid.days_lt h
  simp only [wallOf, Config.dayMs, Config.rangeEnd]
  omega

theorem wallDate_wallOf {d : Date} {ms : Nat} (h : d.valid = true) (k : ms < 86400000) : wallDate (wallOf d ms) = d := by
  have : wallOf d ms / Config.dayMs = d.days := by simp only [wallOf, Config.dayMs]; omega
  rw [wallDate, this, dateOfDays_days h]

theorem wallMs_wallOf (d : Date) {ms : Nat} (k : ms < 86400000) : wallMs (wallOf d ms) = ms := by
  simp only [wallMs, wallOf, Config.dayMs]; omega

/-- Settles O27. -/
theorem wallInstantsAreDatesAndBack : Obligations.WallInstantsAreDatesAndBack :=
  fun d _ h k => ⟨wallOf_lt h k, wallDate_wallOf h k, wallMs_wallOf d k⟩

/-! ### Proofs: every step keeps the wall clock sound (chapter 7) -/

variable {s : State}

theorem State.ClockLaw.congr {t : State} (h : s.ClockLaw) (hc : t.clock = s.clock) : t.ClockLaw := by
  obtain ⟨h1, h2, h3, h4⟩ := h
  refine ⟨?_, ?_, ?_, ?_⟩ <;> rw [hc] <;> assumption

/-- A wall instant of the range with its second and no remainder. -/
theorem State.ClockLaw.at_ {t : State} {w : Nat} (h : s.ClockLaw) (hw : w < Config.rangeEnd)
    (ht : t.clock = { s.clock with wall := w, valid := t.clock.valid, slew := 0, second := wholeSecond w, lastPulse := t.clock.lastPulse }) :
    t.ClockLaw := by
  refine ⟨?_, ?_, ?_, ?_⟩ <;> rw [ht]
  · exact hw
  · rfl
  · simp [Config.slewMax]
  · exact h.samples

theorem State.rangeHold_clock (w : Nat) :
    (s.rangeHold w).clock = { s.clock with wall := w, valid := false, slew := 0, second := wholeSecond w } := by
  simp [State.rangeHold]

theorem State.rangeHold_clockLaw (h : s.ClockLaw) {w : Nat} (hw : w < Config.rangeEnd) : (s.rangeHold w).ClockLaw :=
  h.at_ hw (by rw [rangeHold_clock])

theorem lastWall_lt : lastWall < Config.rangeEnd := by decide

/-- An advance by n of 0 to 2 ms. -/
theorem State.advanceWall_clockLaw (h : s.ClockLaw) {n : Nat} (hn : n ≤ 2) : (s.advanceWall n).ClockLaw := by
  have hs := h.second
  unfold State.advanceWall; dsimp only
  split
  · exact rangeHold_clockLaw h lastWall_lt
  · next hw =>
    split
    · refine ⟨?_, ?_, ?_, ?_⟩ <;> simp only [crossing_frame]
      · exact Nat.not_le.mp hw
      · rfl
      · exact h.slew
      · exact h.samples
    · next hb =>
      refine ⟨Nat.not_le.mp hw, ?_, h.slew, h.samples⟩
      dsimp only
      rw [hs] at hb ⊢
      clear hw
      omega

theorem slewMove_le (r : Int) : (slewMove r).1 ≤ 2 := by
  unfold slewMove; repeat' split
  all_goals simp

theorem slewMove_within {r : Int} (h : -Config.slewMax ≤ r ∧ r ≤ Config.slewMax) :
    -Config.slewMax ≤ (slewMove r).2 ∧ (slewMove r).2 ≤ Config.slewMax := by
  unfold slewMove
  repeat' split
  all_goals simp only [Config.slewMax] at *; omega

theorem wallOfRequest_eq {y mo d ms w : Nat} (h : wallOfRequest y mo d ms = some w) : w < Config.rangeEnd := by
  simp only [wallOfRequest, keepIf] at h
  split at h
  · next hv =>
    simp only [Bool.and_eq_true, decide_eq_true_eq] at hv
    cases h
    exact wallOf_lt hv.1 hv.2
  · cases h

theorem State.setTime_clockLaw (h : s.ClockLaw) (y mo d ms : Nat) : (ownSetTime y mo d ms s).2.2.ClockLaw := by
  unfold ownSetTime
  split
  · exact h
  · next hw =>
    refine h.at_ (wallOfRequest_eq hw) ?_
    dsimp only
    split <;> simp

theorem State.pulseAccepted_clockLaw (h : s.ClockLaw) (edge : Nat) : (s.pulseAccepted edge).ClockLaw := by
  unfold State.pulseAccepted; dsimp only
  split
  · next hs => exact ⟨h.range, h.second, hs, h.samples⟩
  · unfold State.pulseStep; dsimp only
    split
    · exact h.at_ (w := 0) (by decide) (by rw [rangeHold_clock])
    · split
      · exact h.at_ lastWall_lt (by rw [rangeHold_clock])
      · refine h.at_ (w := (s.clock.wall + pulseOffset (((s.clock.wall : Int) - 2) % 60000)).toNat) ?_ (by simp)
        omega

theorem State.pulseSample_clockLaw (h : s.ClockLaw) (high : Bool) : (s.pulseSample high).ClockLaw := by
  have hs : (pushSample s.clock.pulseHist high).length = 5 := by simp [pushSample, h.samples]
  have hu (out : Bool) : State.ClockLaw { s with clock := { s.clock with pulseHist := pushSample s.clock.pulseHist high, pulseOut := out } } :=
    ⟨h.range, h.second, h.slew, hs⟩
  unfold State.pulseSample; dsimp only
  split
  · unfold State.judgeEdge; split
    · split
      · exact (hu (filterOut 3 5 (pushSample s.clock.pulseHist high) s.clock.pulseOut)).congr (by simp)
      · exact pulseAccepted_clockLaw (hu _) _
    · exact pulseAccepted_clockLaw (hu _) _
  · exact hu _

theorem Effect.clockLaw {t : State} (e : Effect s t) (h : s.ClockLaw) : t.ClockLaw := by
  cases e with
  | idle => exact h
  | linked k => exact h.congr (by rw [k.rest])
  | started hc =>
    rcases hc with rfl | rfl
    · refine ⟨?_, ?_, ?_, ?_⟩ <;> simp [startWith, WallClock.powerOn, Config.slewMax, Config.rangeEnd]
    · exact ⟨h.range, h.second, h.slew, rfl⟩
  | setTime hm => exact State.setTime_clockLaw h _ _ _ _
  | advanced hv =>
    refine State.advanceWall_clockLaw ?_ (by decide)
    exact h.congr rfl
  | slewed hv =>
    refine State.advanceWall_clockLaw ?_ (slewMove_le _)
    exact ⟨h.range, h.second, slewMove_within h.slew, h.samples⟩
  | minutePulse =>
    refine State.pulseSample_clockLaw ?_ _
    exact h.congr rfl
  | _ =>
    refine h.congr ?_
    simp

/-- Settles O5: the clock is moved by SET TIME, the advances and the minute pulse alone, each to an instant of the range with its second. -/
theorem stepKeepsTheClockSound : Obligations.StepKeepsTheClockSound :=
  fun _ _ h => step_keeps (fun _ _ _ h => h.congr rfl) (fun _ _ hs e => e.clockLaw hs) h

end Sys2Proof.Machine

/-! ### Proofs: what the operations on bells and entries keep

A predicate kept by the few changes `KeptBase` names is kept by every operation of the Drive Unit, the Bell Table, the Heat Monitor and the Strike
Scheduler: the operations are taken apart into those changes here, once. -/

namespace Sys2Proof.Machine

open Sys2Proof

/-- A change of a bell's record that leaves its settings, service state, heat and hammer, and the class its coil holds. -/
structure Bell.Minor (r r' : Bell) : Prop where
  settings : r'.settings = r.settings
  pending : r'.pending = r.pending
  service : r'.service = r.service
  heat : r'.heat = r.heat
  hammer : r'.hammer = r.hammer
  drive : r'.drive.map (·.cls) = r.drive.map (·.cls)
  lead : r.settings.leadMin ≤ r.settings.leadMax → 16 * r.settings.leadMin ≤ r.lead16 ∧ r.lead16 ≤ 16 * r.settings.leadMax →
    16 * r.settings.leadMin ≤ r'.lead16 ∧ r'.lead16 ≤ 16 * r.settings.leadMax
  misses : r.missRun ≤ Config.missLimit → r'.missRun ≤ Config.missLimit

/-- A change of a play's record that leaves what tells it from others and its place among them. -/
structure Counts (f : Play → Play) : Prop where
  id : ∀ q, (f q).id = q.id
  kind : ∀ q, (f q).kind = q.kind
  due : ∀ q, (f q).due = q.due
  priority : ∀ q, (f q).priority = q.priority
  launchSeq : ∀ q, (f q).launchSeq = q.launchSeq

/-- A note whose fire time and lateness are settled, as it comes to be placed (R23, R24). -/
structure State.Offered (s : State) (e : Entry) : Prop where
  number : e.number = s.sched.nextNumber
  lead : ∃ d, e.noteTime - e.origFire = leadMs (s.bell e.bell).settings (s.bell e.bell).lead16 d
  early : e.origFire ≤ e.fire
  slack : e.fire ≤ e.origFire + (s.bell e.bell).settings.slack

/-- The note is to be inserted beside the bell's entries as moved (R30). -/
structure State.Inserts (s : State) (e : Entry) (others removed : List Entry) : Prop where
  mode : s.ctl.mode = .active ∨ s.ctl.mode = .commission
  room : s.slotsTaken < Config.queueCap + removed.length
  examined : ∃ e₀, s.Offered e₀ ∧ examine (s.bell e₀.bell).settings.recovery (s.bell e₀.bell).settings.slack examineFuel (s.entriesOf e₀.bell)
    (s.entriesOf e₀.bell) [] e₀ = .place e others removed

/-- The changes of bells, entries and plays' counts that a predicate has to be kept by. `G` holds of every queued entry. -/
structure KeptBase (P : State → Prop) (G : Entry → Prop) : Prop where
  blind : ∀ s timer clock warn supply sweep slots nv pending, P s →
    P { s with timer := timer, clock := clock, warn := warn, supply := supply, sweep := sweep, slots := slots, nv := nv, pending := pending }
  report : ∀ s r, P s → P (s.report r)
  counted : ∀ s i f, Counts f → P s → P (s.modPlay i f)
  good : ∀ s, P s → ∀ e ∈ s.sched.queue, G e
  taken : ∀ s p, P s → P (s.setQueue (s.sched.queue.filter p))
  unheld : ∀ s (p : Held → Bool), P s →
    P { s with sched := { s.sched with held := s.sched.held.filter p, granted := s.sched.granted.filter fun g => p g.note } }
  granted : ∀ s, P s → P s.grantOne
  offered : ∀ s g rest, s.sched.granted = g :: rest → P s → P { s with sched := { s.sched with granted := rest } }
  held : ∀ s h, P s → P { s with sched := { s.sched with held := s.sched.held ++ [h] } }
  inserted : ∀ s e others removed, s.Inserts e others removed → P s → P { s with sched := { s.sched with
    queue := insertQueue e others s.sched.queue, nextNumber := nextEntryNumber s.sched.nextNumber } }
  moved : ∀ s e (fire : Int), G e → s.queues e = true → e.fire ≤ fire → s.deferable e fire = true → P s →
    P (s.setQueue (placeEntry { e with fire := fire } (withoutEntry e s.sched.queue)))
  minor : ∀ s b f, (s.bell b).Minor (f (s.bell b)) → P s → P (s.modBell b f)
  served : ∀ s b st, (st = .resting → (s.bell b).settings.heatRest ≤ (s.bell b).heat) → P s → P (s.modBell b fun r => { r with service := st })
  applied : ∀ s b p, s.quiet b = true → (s.bell b).pending = some p ∨ ((s.bell b).settings.over p).wellFormed b = true → P s →
    P (s.applySettings b p)
  heated : ∀ s b n, P s → P (s.modBell b fun r => { r with heat := min (r.heat + n) Config.heatMax })
  rested : ∀ s b, (s.bell b).hammer = .swing → P s → P (s.modBell b fun r => { r with hammer := .idle })
  released : ∀ s b d h, (s.bell b).drive = some d → h ≠ .drive → P s →
    P ((s.modBell b fun r => { r with hammer := h, drive := none }).freeClass d.cls)
  started : ∀ s b d start ready, (s.bell b).hammer = .idle → s.drive.inUse + (s.bell b).settings.cls ≤ s.globals.driveBudget →
    s.sched.queue ≠ [] ∨ s.ctl.mode.sweeps = true → d.cls = (s.bell b).settings.cls → P s →
    P (({ s with drive := { s.drive with inUse := s.drive.inUse + d.cls } } : State).modBell b fun r =>
      { r with hammer := .drive, drive := some d, lastDriveStart := start, readyTime := ready })

theorem State.forBells_induct {P : State → Prop} {f : BellNo → State → State} (h : ∀ b s, P s → P (f b s)) {s : State} (hs : P s) :
    P (s.forBells f) := by
  unfold State.forBells
  induction allBells generalizing s with
  | nil => exact hs
  | cons b l ih => exact ih (h b s hs)

theorem foldl_induct {β α : Type} {P : β → Prop} {f : β → α → β} {l : List α} (h : ∀ s, ∀ a ∈ l, P s → P (f s a)) {s : β} (hs : P s) :
    P (l.foldl f s) := by
  induction l generalizing s with
  | nil => exact hs
  | cons a l ih => exact ih (fun s b hb => h s b (List.mem_cons_of_mem _ hb)) (h s a List.mem_cons_self hs)

theorem Counts.mk' {f : Play → Play} (h : ∀ q, (f q).id = q.id ∧ (f q).kind = q.kind ∧ (f q).due = q.due ∧ (f q).priority = q.priority ∧
    (f q).launchSeq = q.launchSeq) : Counts f :=
  ⟨fun q => (h q).1, fun q => (h q).2.1, fun q => (h q).2.2.1, fun q => (h q).2.2.2.1, fun q => (h q).2.2.2.2⟩

theorem Play.take_counts (o : OfferOutcome) : Counts (·.take o) := .mk' fun q => by cases o <;> exact ⟨rfl, rfl, rfl, rfl, rfl⟩

theorem Service.faulted_heatOutcome {r : Bell} (h : r.service ≠ .inService) (h' : r.service ≠ .resting) : r.heatOutcome = none := by
  unfold Bell.heatOutcome; split <;> simp_all

variable {s : State}

/-! #### The bell that a change of service leaves -/

@[simp] theorem State.report_bell (r : Report) (b : BellNo) : (s.report r).bell b = s.bell b := by simp [State.bell]
@[simp] theorem State.grantSlots_bell (b : BellNo) : s.grantSlots.bell b = s.bell b := by simp [State.bell]
@[simp] theorem State.takeOut_bell (p : Entry → Bool) (b : BellNo) : (s.takeOut p).bell b = s.bell b := by simp [State.bell]

@[simp] theorem State.changeService_bell (b : BellNo) (st : Service) (c : BellCause) (n : Nat) :
    (s.changeService b st c n).bell b = { s.bell b with service := st } := by simp [State.changeService]

/-- The quiet point of a bell FAULTED or WITHDRAWN leaves it so. -/
theorem State.quietPoint_service {b : BellNo} (h : (s.bell b).service ≠ .inService) (h' : (s.bell b).service ≠ .resting) :
    ((s.quietPoint b).bell b).service = (s.bell b).service := by
  unfold State.quietPoint; split
  · next p _ _ =>
    have hr : ((s.bell b).apply p).heatOutcome = none := Service.faulted_heatOutcome h h'
    unfold State.applySettings; dsimp only
    simp only [modBell_bell_self, hr]
    split
    · next k => cases k
    · simp [Bell.apply]
  · rfl

theorem State.leaveService_service {b : BellNo} {st : Service} (h : st ≠ .inService) (h' : st ≠ .resting) (c : BellCause) :
    ((s.leaveService b st c).bell b).service = st := by
  unfold State.leaveService
  rw [State.quietPoint_service] <;> simp [h, h']

/-- A finding leaves the bell FAULTED. -/
theorem State.finding_service (b : BellNo) (k : FaultKind) (c : BellCause) : ∃ x, ((s.finding b k c).bell b).service = .faulted x := by
  unfold State.finding; split
  · next x h => exact ⟨x, h⟩
  · exact ⟨k, State.leaveService_service (by simp) (by simp) c⟩

/-- A close of a window that leaves the bell in service leaves the queue, the budget and the bell's coil and settings. -/
theorem State.closeWindow_inService {b : BellNo} (h : ((s.closeWindow b).bell b).service = .inService) :
    (s.closeWindow b).sched = s.sched ∧ ((s.closeWindow b).bell b).hammer = (s.bell b).hammer ∧
    ((s.closeWindow b).bell b).settings = (s.bell b).settings := by
  unfold State.closeWindow at h ⊢
  split at h
  · simp
  · split at h
    · unfold State.missClose at h ⊢
      dsimp only at h ⊢
      split at h
      · exfalso
        obtain ⟨x, hx⟩ := State.finding_service (s := ((s.modBell b fun r =>
          { r with window := none, missRun := min (r.missRun + 1) Config.missLimit }).strikeReport b _)) b .noStrike .misses
        rw [hx] at h; cases h
      · next ht => rw [if_neg ht]; simp [State.bell]
    · simp [State.captureClose, State.bell]

theorem State.earlyClose_inService {b : BellNo} {t : Nat} (h : ((s.earlyClose b t).bell b).service = .inService) :
    (s.earlyClose b t).sched = s.sched ∧ ((s.earlyClose b t).bell b).hammer = (s.bell b).hammer ∧
    ((s.earlyClose b t).bell b).settings = (s.bell b).settings := by
  obtain ⟨h1, h2, h3⟩ := State.closeWindow_inService h
  exact ⟨h1, h2.trans (by simp), h3.trans (by simp)⟩

namespace KeptBase

variable {P : State → Prop} {G : Entry → Prop} (k : KeptBase P G)

include k

/-! #### Reports, counts and the queue -/

theorem noteReport (h : P s) (r : NoteReport) : P (s.noteReport r) := by
  unfold State.noteReport; split
  · exact k.report _ _ h
  · exact h

theorem strikeReport (h : P s) (b : BellNo) (w : Window) : P (s.strikeReport b w) := by
  unfold State.strikeReport; split
  · exact k.report _ _ h
  · exact h

theorem offerReport (h : P s) (r : NoteReason) (e : Entry) : P (s.offerReport r e) := by
  unfold State.offerReport; split
  · exact k.noteReport h _
  · exact h

theorem driveNotice (h : P s) (i : Nat) : P (s.driveNotice i) := k.counted _ _ _ (.mk' fun _ => ⟨rfl, rfl, rfl, rfl, rfl⟩) h

theorem countRemoved (h : P s) (e : Entry) : P (s.countRemoved e) := k.counted _ _ _ (.mk' fun _ => ⟨rfl, rfl, rfl, rfl, rfl⟩) h

theorem countDiscarded (h : P s) (x : Held) : P (s.countDiscarded x) := k.counted _ _ _ (.mk' fun _ => ⟨rfl, rfl, rfl, rfl, rfl⟩) h

theorem grantSlots (h : P s) : P s.grantSlots := k.granted _ (k.granted _ h)

theorem takeOut (h : P s) (p : Entry → Bool) : P (s.takeOut p) := by
  unfold State.takeOut
  exact foldl_induct (P := P) (fun _ e _ h => k.countRemoved h e) (k.taken _ _ h)

theorem discardHeld (h : P s) (p : Held → Bool) : P (s.discardHeld p) := by
  unfold State.discardHeld
  exact foldl_induct (P := P) (fun _ x _ h => k.countDiscarded h x) (k.unheld _ _ h)

theorem flushQueue (h : P s) : P s.flushQueue := k.discardHeld (k.takeOut h _) _

/-! #### Service states and the quiet point -/

theorem changeService (h : P s) (b : BellNo) (st : Service) (c : BellCause) (n : Nat)
    (hr : st = .resting → (s.bell b).settings.heatRest ≤ (s.bell b).heat) : P (s.changeService b st c n) :=
  k.report _ _ (k.served _ _ _ hr h)

theorem quietPoint (h : P s) (b : BellNo) : P (s.quietPoint b) := by
  unfold State.quietPoint; split
  · next hq hp => exact k.applied _ _ _ hq (.inl hp) h
  · exact h

theorem quietPoints (h : P s) : P s.quietPoints := by
  unfold State.quietPoints
  exact State.forBells_induct (P := P) (fun b _ h => k.quietPoint h b) h

theorem removeEntries (h : P s) (p : Entry → Bool) : P (s.removeEntries p) := by
  unfold State.removeEntries
  exact foldl_induct (P := P) (fun _ _ _ h => k.quietPoint h _) (k.grantSlots (k.takeOut h p))

theorem leaveService (h : P s) (b : BellNo) (st : Service) (c : BellCause)
    (hr : st = .resting → (s.bell b).settings.heatRest ≤ (s.bell b).heat) : P (s.leaveService b st c) :=
  k.quietPoint (k.grantSlots (k.changeService (k.takeOut h _) _ _ _ _ (by simpa using hr))) _

theorem heatTest (h : P s) (b : BellNo) : P (s.heatTest b) := by
  have rests (hr : (s.bell b).heatOutcome = some .resting) : (s.bell b).settings.heatRest ≤ (s.bell b).heat := by
    unfold Bell.heatOutcome at hr
    split at hr
    · split at hr
      · assumption
      · cases hr
    · split at hr <;> cases hr
    · cases hr
  unfold State.heatTest; split
  · next hr => exact k.leaveService h _ _ _ fun _ => rests hr
  · next hr => exact k.changeService h _ _ _ _ fun hs => rests (hs ▸ hr)
  · exact h

theorem finding (h : P s) (b : BellNo) (f : FaultKind) (c : BellCause) : P (s.finding b f c) := by
  unfold State.finding; split
  · exact h
  · exact k.leaveService h _ _ _ nofun

theorem accumulate (h : P s) (b : BellNo) (n : Nat) : P (s.accumulate b n) := k.heatTest (k.heated _ _ _ h) _

/-! #### Windows -/

theorem missClose (h : P s) (b : BellNo) (w : Window) : P (s.missClose b w) := by
  have hm : P ((s.modBell b fun r => { r with window := none, missRun := min (r.missRun + 1) Config.missLimit }).strikeReport b w) :=
    k.strikeReport (k.minor _ _ _ ⟨rfl, rfl, rfl, rfl, rfl, rfl, fun _ h => h, fun _ => Nat.min_le_right _ _⟩ h) _ _
  unfold State.missClose; dsimp only; split
  · exact k.finding hm _ _ _
  · exact hm

theorem captureClose (h : P s) (b : BellNo) (w : Window) (c : Int) : P (s.captureClose b w c) := by
  refine k.strikeReport (k.minor _ _ _ ⟨rfl, rfl, rfl, rfl, rfl, rfl, fun hl hr => ?_, fun _ => Nat.zero_le _⟩ h) _ _
  dsimp only
  split
  · simp only [learnedLead, clampInt]
    repeat' split
    all_goals omega
  · exact hr

theorem closeWindow (h : P s) (b : BellNo) : P (s.closeWindow b) := by
  unfold State.closeWindow; split
  · exact h
  · split
    · exact k.missClose h _ _
    · exact k.captureClose h _ _ _

theorem cancelWindow (h : P s) (b : BellNo) : P (s.modBell b fun r => { r with window := none }) :=
  k.minor _ _ _ ⟨rfl, rfl, rfl, rfl, rfl, rfl, fun _ h => h, id⟩ h

/-! #### Drives -/

theorem releaseCoil (h : P s) {b : BellNo} {d : Drive} (hd : (s.bell b).drive = some d) : P (s.releaseCoil b d) := by
  unfold State.releaseCoil; split
  · exact k.driveNotice (k.released _ _ _ _ hd (by simp) h) _
  · exact k.released _ _ _ _ hd (by simp) h

theorem cutDrive (h : P s) (b : BellNo) : P (s.cutDrive b) := by
  unfold State.cutDrive; split
  · exact h
  · next hd =>
    split
    · exact k.cancelWindow (k.releaseCoil h hd) _
    · exact k.quietPoint (k.releaseCoil h hd) _

theorem cutStrikes (h : P s) : P s.cutStrikes := by
  unfold State.cutStrikes
  refine State.forBells_induct (P := P) (fun b s h => ?_) h
  split
  · split
    · exact k.cutDrive h _
    · exact h
  · exact h

theorem cutAll (h : P s) : P s.cutAll := by
  unfold State.cutAll
  exact State.forBells_induct (P := P) (fun b _ h => k.cancelWindow (k.cutDrive h b) b) h

theorem modeCuts (h : P s) (m : Mode) : P (s.modeCuts m) := by
  unfold State.modeCuts; split
  · exact k.cutAll h
  · exact k.cutStrikes h
  · exact h

theorem freshen (h : P s) (b : BellNo) : P (s.freshen b) := by
  unfold State.freshen; split
  · exact k.report _ _ (k.minor _ _ _ ⟨rfl, rfl, rfl, rfl, rfl, rfl, fun _ h => h, id⟩ h)
  · exact h

theorem verify (h : P s) (b : BellNo) (t : Nat) : P (s.verify b t) :=
  k.freshen (k.minor _ _ _ ⟨rfl, rfl, rfl, rfl, rfl, rfl, fun _ h => h, id⟩ h) _

theorem strikeEnd (h : P s) {b : BellNo} {d : Drive} (hd : (s.bell b).drive = some d) (n : Nat) : P (s.strikeEnd b d n) := by
  unfold State.strikeEnd; split
  · exact k.finding (k.cutDrive h _) _ _ _
  · exact k.finding (k.releaseCoil h hd) _ _ _
  · exact k.verify (k.releaseCoil h hd) _ _

theorem pulseEnd (h : P s) {b : BellNo} {d : Drive} (hd : (s.bell b).drive = some d) (n : Nat) : P (s.pulseEnd b d n) := by
  unfold State.pulseEnd; split
  · exact k.quietPoint (k.finding (k.releaseCoil h hd) _ _ _) _
  · exact k.quietPoint (k.finding (k.releaseCoil h hd) _ _ _) _
  · exact k.quietPoint (k.minor _ _ _ ⟨rfl, rfl, rfl, rfl, rfl, rfl, fun _ h => h, id⟩ (k.verify (k.releaseCoil h hd) _ _)) _

theorem rest (h : P s) {b : BellNo} (hb : (s.bell b).hammer = .swing) : P ((s.modBell b fun r => { r with hammer := .idle }).quietPoint b) :=
  k.quietPoint (k.rested _ _ hb h) _

theorem settleDue (h : P s) (b : BellNo) (n : Nat) : P (s.settleDue b n) := by
  unfold State.settleDue
  extract_lets u
  have hP : P u := by
    simp only [u]
    split
    · next hd =>
      split
      · split
        · exact k.strikeEnd h hd _
        · exact h
      · exact h
    · exact h
  split
  · next hb _ =>
    split
    · exact k.rest hP hb
    · exact hP
  · exact hP

theorem dispatchEntry (h : P s) (e : Entry) : P (s.dispatchEntry e) :=
  k.grantSlots (k.counted _ _ _ (.mk' fun _ => ⟨rfl, rfl, rfl, rfl, rfl⟩) (k.taken _ _ h))

theorem energise (h : P s) {e : Entry} (hh : (s.bell e.bell).hammer = .idle)
    (hb : s.drive.inUse + (s.bell e.bell).settings.cls ≤ s.globals.driveBudget) (hq : s.sched.queue ≠ []) : P (s.energise e) := by
  have hs := k.started s e.bell
    { kind := .strike e.original e.noteTime e.dynamic e.playId, start := e.fire.toNat, width := s.widthFor e.bell e.dynamic,
      cls := (s.bell e.bell).settings.cls, sampled := false } (some e.fire.toNat) (some (e.fire.toNat + (s.bell e.bell).settings.recovery))
    hh hb (.inl hq) rfl h
  exact k.accumulate (k.minor _ _ _ ⟨rfl, rfl, rfl, rfl, rfl, rfl, fun _ h => h, id⟩ (k.dispatchEntry hs e)) _ _

theorem earlyClose (h : P s) (b : BellNo) (t : Nat) : P (s.earlyClose b t) :=
  k.closeWindow (k.minor _ _ _ ⟨rfl, rfl, rfl, rfl, rfl, rfl, fun _ h => h, id⟩ h) _

theorem driveStart (h : P s) {e : Entry} (hh : (s.bell e.bell).hammer = .idle)
    (hb : s.drive.inUse + (s.bell e.bell).settings.cls ≤ s.globals.driveBudget) (hq : s.sched.queue ≠ []) : P (s.driveStart e) := by
  have hc := k.earlyClose h e.bell e.fire.toNat
  unfold State.driveStart; dsimp only; split
  · next hs =>
    obtain ⟨h1, h2, h3⟩ := State.earlyClose_inService hs
    exact k.energise hc (h2.trans hh) (by rw [h3]; simpa using hb) (by rw [h1]; exact hq)
  · exact hc

theorem pulseStart (h : P s) {b : BellNo} (ha : s.pulseAllowed b = true) (hm : s.ctl.mode.sweeps = true) : P (s.pulseStart b) := by
  simp only [State.pulseAllowed, Bool.and_eq_true, decide_eq_true_eq] at ha
  have hs := k.started s b { kind := .testPulse, start := s.timer.ms, width := Config.pulseWidth, cls := (s.bell b).settings.cls, sampled := false }
    (s.bell b).lastDriveStart (s.bell b).readyTime ha.1 ha.2 (.inr hm) rfl h
  exact k.accumulate hs _ _

/-! #### Volleys -/

theorem deferEntry (h : P s) {e : Entry} (he : G e) (hq : s.queues e = true) : P (s.deferEntry e) := by
  unfold State.deferEntry; dsimp only; split
  · next hd => exact k.moved _ _ _ he hq (by omega) hd h
  · exact k.removeEntries (k.noteReport h _) _

theorem takeEntry (h : P s) {e : Entry} (he : G e) (n : Nat) : P (s.takeEntry n e) := by
  have hs := k.settleDue h e.bell n
  unfold State.takeEntry; dsimp only; split
  · exact h
  · split
    · exact hs
    · next hq =>
      have hq' : (s.settleDue e.bell n).queues e = true := by simpa using hq
      split
      · exact k.deferEntry hs he hq'
      · next hh =>
        split
        · next hb =>
          refine k.driveStart hs (not_not.mp hh) hb fun hn => ?_
          rw [State.queues, hn] at hq'
          cases hq'
        · exact k.deferEntry hs he hq'

theorem takeEntries (h : P s) (reading : Entry → Nat) {l : List Entry} (hl : ∀ e ∈ l, G e) : P (l.foldl (fun s e => s.takeEntry (reading e) e) s) :=
  foldl_induct (P := P) (fun _ e he h => k.takeEntry h (hl e he) _) h

/-! #### Offers -/

theorem insert (h : P s) {e : Entry} {others removed : List Entry} (hi : s.Inserts e others removed) : P (s.insert e others removed) := by
  unfold State.insert
  exact k.grantSlots (foldl_induct (P := P) (fun _ y _ h => k.noteReport (k.countRemoved h y) _) (k.inserted _ _ _ _ hi h))

theorem offerPlace (h : P s) {e : Entry} (he : s.Offered e) (hm : s.ctl.mode = .active ∨ s.ctl.mode = .commission) : P (s.offerPlace e).2 := by
  have ready (t : Nat) (ht : ¬ (t : Int) ≤ e.fire) (ht' : (t : Int) ≤ e.origFire + (s.bell e.bell).settings.slack) :
      s.Offered { e with fire := t } := ⟨he.number, he.lead, by have := he.early; show e.origFire ≤ (t : Int); omega, ht'⟩
  have placed {x : Entry} (hb : x.bell = e.bell) (hx : s.Offered x) : P
      (match examine (s.bell e.bell).settings.recovery (s.bell e.bell).settings.slack examineFuel (s.entriesOf x.bell) (s.entriesOf x.bell) [] x with
        | .drop o => (OfferOutcome.conflict e.origFire o, s.offerReport (.conflict o) { e with fire := e.origFire })
        | .place y others removed =>
          if s.slotsTaken < Config.queueCap + removed.length then
            (if y.late then .queuedLate y else .queued y, s.insert y others removed)
          else (.noSpace, s)).2 := by
    split
    · exact k.offerReport h _ _
    · next hv =>
      split
      · next hr => exact k.insert h ⟨hm, hr, x, hx, by rw [hb] at hv ⊢; exact hv⟩
      · exact h
  unfold State.offerPlace; dsimp only
  split
  · exact k.offerReport h _ _
  · next x hx =>
    split at hx
    · split at hx
      · cases hx; exact placed rfl he
      · split at hx
        · cases hx; exact placed rfl (ready _ ‹_› ‹_›)
        · cases hx
    · cases hx; exact placed rfl he

theorem offer (h : P s) (o : Offer) : P (s.offer o).2 := by
  unfold State.offer
  split
  · exact h
  · next hm =>
    have hm' : s.ctl.mode = .active ∨ s.ctl.mode = .commission := by
      by_contra k; exact hm (not_or.mp k)
    dsimp only
    split
    · exact h
    · next b original _ =>
      split
      · exact k.offerPlace h ⟨rfl, ⟨clampNat o.dynamic 1 8, by dsimp only; omega⟩, le_refl _, by dsimp only; omega⟩ hm'
      · split
        · exact k.offerPlace h ⟨rfl, ⟨clampNat o.dynamic 1 8, by dsimp only; omega⟩, by dsimp only; omega, by dsimp only; omega⟩ hm'
        · exact k.offerReport h _ _

theorem playerOffer (h : P s) (p : PlayerNo) (b : BellNo) (t : Int) (d pr i : Nat) : P (s.playerOffer p b t d pr i).2 := by
  unfold State.playerOffer; split
  · exact k.held _ _ h
  · exact k.offer h _

theorem discardPlay (h : P s) (i : Nat) : P (s.discardPlay i) := k.removeEntries (k.discardHeld h _) _

/-! #### The Coil Sweep -/

theorem staleTest (h : P s) (b : BellNo) : P (State.staleTest b s) := by
  have minor (x : Bool) : P (s.modBell b fun r => { r with stale := x }) := k.minor _ _ _ ⟨rfl, rfl, rfl, rfl, rfl, rfl, fun _ h => h, id⟩ h
  unfold State.staleTest; dsimp only
  repeat' split
  · exact k.report _ _ (minor _)
  · exact h
  · exact k.report _ _ (minor _)
  · exact h

theorem settleVisit (h : P s) (hm : s.ctl.mode.sweeps = true) (b : BellNo) : P (s.settleVisit b) := by
  unfold State.settleVisit; split
  · exact k.minor _ _ _ ⟨rfl, rfl, rfl, rfl, rfl, rfl, fun _ h => h, id⟩ h
  · split
    · next ha =>
      simp only [Bool.and_eq_true] at ha
      exact k.pulseStart h ha.2 hm
    · exact h

theorem visit (h : P s) (hm : s.ctl.mode.sweeps = true) : P s.visit := by
  have ht : P (s.forBells State.staleTest) := State.forBells_induct (P := P) (fun b _ h => k.staleTest h b) h
  have hv := k.settleVisit ht (by rw [(State.staleTests_frame s).2.2.1]; exact hm) s.sweep.pointer
  unfold State.visit
  exact k.blind _ _ _ _ _ _ _ _ _ hv

end KeptBase

end Sys2Proof.Machine

/-! ### Proofs: what the operations on plays keep

A predicate kept by the few changes `Kept` names is kept by every operation of the Play Engine and the Schedule Scanner. -/

namespace Sys2Proof.Machine

open Sys2Proof

/-- The play is one launched a moment ago: it was made in a state where `P` held, of which no further play has been kept since. -/
structure Launched (P : State → Prop) (s : State) (q : Play) : Prop where
  intro ::
  made : ∃ s₀ l st, P s₀ ∧ (∀ r ∈ s.playRecords, ∃ r₀ ∈ s₀.playRecords, r₀.id = r.id) ∧
    s.engine.nextLaunch = s₀.engine.nextLaunch + 1 ∧ q = { s₀.newPlay l with state := st } ∧ l.kind.unstarted = true

/-- The changes of plays that a predicate has to be kept by, besides those of `KeptBase`. `U` holds of every play that is INCOMING or waits. -/
structure Kept (P : State → Prop) (G : Entry → Prop) (U : Play → Prop) : Prop extends KeptBase P G where
  unstarted : ∀ s, P s → ∀ q, (∃ p, (s.player p).incoming = some q) ∨ q ∈ s.engine.waiting → U q
  fresh : ∀ q, q.kind.unstarted = true → U q
  freed : ∀ s q, U q → P s → P (s.releaseVersion q.kind)
  left : ∀ s p q, (s.player p).play = some q → P s → P ((s.setPlayer p { s.player p with play := none }).releaseVersion q.kind)
  dismissed : ∀ s p, P s → P (s.setPlayer p { s.player p with incoming := none })
  dropped : ∀ s w, w.Sublist s.engine.waiting → P s → P (s.setWaiting w)
  drained : ∀ s p q, (s.player p).play = some q → P s → P (s.setPlayer p { s.player p with play := some { q with state := .draining } })
  begun : ∀ s p q, (s.player p).play = none → (s.player p).incoming = some q → P s → P (s.startPlay p q)
  promoted : ∀ s p q rest, (s.player p).isFree = true → s.engine.waiting = q :: rest → s.ctl.mode = .active → P s →
    P ((s.setWaiting rest).setPlayer p { play := none, incoming := some q })
  numbered : ∀ s i, P s → P { s with engine := { s.engine with lastId := i, nextLaunch := s.engine.nextLaunch + 1 } }
  arrived : ∀ s p q, (s.player p).incoming = none → s.ctl.mode = .active → Launched P s q → P s →
    P (s.setPlayer p { s.player p with incoming := some q })
  waits : ∀ s q, s.ctl.mode = .active → Launched P s q →
    (s.engine.waiting.length < Config.waitingCap ∨ ∃ s₀, P s₀ ∧ s.engine.waiting.length < s₀.engine.waiting.length) → P s →
    P (s.setWaiting (placePlay q s.engine.waiting))

/-- A predicate on the Play Engine, the Tune Store and the mode is kept by everything else. -/
theorem KeptBase.of_engine {P : State → Prop} (congr : ∀ s t : State, P s → t.engine = s.engine → t.tunes = s.tunes → t.ctl = s.ctl → P t)
    (counted : ∀ s i f, Counts f → P s → P (s.modPlay i f)) : KeptBase P fun _ => True where
  blind _ _ _ _ _ _ _ _ _ h := congr _ _ h rfl rfl rfl
  report _ _ h := congr _ _ h (by simp) (by simp) (by simp)
  counted := counted
  good _ _ _ _ := trivial
  taken _ _ h := congr _ _ h rfl rfl rfl
  unheld _ _ h := congr _ _ h rfl rfl rfl
  granted _ h := congr _ _ h (by simp) (by simp) (by simp)
  offered _ _ _ _ h := congr _ _ h rfl rfl rfl
  held _ _ h := congr _ _ h rfl rfl rfl
  inserted _ _ _ _ _ h := congr _ _ h rfl rfl rfl
  moved _ _ _ _ _ _ _ h := congr _ _ h rfl rfl rfl
  minor _ _ _ _ h := congr _ _ h rfl rfl rfl
  served _ _ _ _ h := congr _ _ h rfl rfl rfl
  applied _ _ _ _ _ h := congr _ _ h (by simp) (by simp) (by simp)
  heated _ _ _ h := congr _ _ h rfl rfl rfl
  rested _ _ _ h := congr _ _ h rfl rfl rfl
  released _ _ _ _ _ _ h := congr _ _ h (by simp) (by simp) (by simp)
  started _ _ _ _ _ _ _ _ _ h := congr _ _ h rfl rfl rfl

variable {s : State}

theorem PlayEngine.setPlayer_setPlayer (e : PlayEngine) (p : PlayerNo) (x y : Player) : (e.setPlayer p x).setPlayer p y = e.setPlayer p y := by
  cases p <;> rfl

theorem State.setPlayer_setPlayer (p : PlayerNo) (x y : Player) : (s.setPlayer p x).setPlayer p y = s.setPlayer p y := by
  simp [State.setPlayer, PlayEngine.setPlayer_setPlayer]

/-- A start does not ask what the player held. -/
theorem State.startPlay_setPlayer (p : PlayerNo) (x : Player) (q : Play) : (s.setPlayer p x).startPlay p q = s.startPlay p q := by
  unfold State.startPlay
  cases hk : q.kind with
  | toll b d i n =>
    dsimp only
    rw [State.setPlayer_setPlayer]; rfl
  | tune t v =>
    have hc : (s.setPlayer p x).current t = s.current t := rfl
    dsimp only
    rw [hc]
    cases s.current t with
    | none => dsimp only; rw [State.setPlayer_setPlayer]
    | some v => cases p <;> rfl

theorem Player.isFree_iff {x : Player} : x.isFree = true ↔ x.play = none ∧ x.incoming = none := by
  simp [Player.isFree]

/-- The play cut holds its player alone. -/
theorem State.victim_eq {p : PlayerNo} {v : Play} (h : s.victim = some (p, v)) :
    (s.player p).play = some v ∧ (s.player p).incoming = none ∧ v.fixed = none := by
  have cand {x : Player} {q : Play} (h : x.candidate = some q) : x.play = some q ∧ x.incoming = none ∧ q.fixed = none := by
    unfold Player.candidate at h
    split at h
    · split at h
      · cases h; exact ⟨‹_›, ‹_›, ‹_›⟩
      · cases h
    · cases h
  unfold State.victim at h
  split at h
  · split at h <;> cases h
    · exact cand ‹_›
    · exact cand ‹_›
  · cases h; exact cand ‹_›
  · cases h; exact cand ‹_›
  · cases h

theorem State.freePlayer_eq {p : PlayerNo} (h : s.freePlayer = some p) : (s.player p).isFree = true := by
  unfold State.freePlayer at h
  split at h
  · cases h; assumption
  · split at h
    · cases h; assumption
    · cases h

theorem State.incomingReady_eq {p : PlayerNo} {q : Play} (h : s.incomingReady = some (p, q)) :
    (s.player p).play = none ∧ (s.player p).incoming = some q := by
  unfold State.incomingReady at h
  split at h
  · cases h; exact ⟨‹_›, ‹_›⟩
  · split at h
    · cases h; exact ⟨‹_›, ‹_›⟩
    · cases h

theorem State.ending_eq {p : PlayerNo} {o : PlayOutcome} (h : s.ending = some (p, o)) : ∃ q, (s.player p).play = some q ∧ q.endsNow = some o := by
  unfold State.ending at h
  split at h
  · next h' => cases h; exact Option.bind_eq_some_iff.mp h'
  · simp only [Option.map_eq_some_iff, Prod.mk.injEq] at h
    obtain ⟨o', h', rfl, rfl⟩ := h
    exact Option.bind_eq_some_iff.mp h'

/-- The weakest waiting play waits. -/
theorem weakest_mem : ∀ {w : List Play} {k : Play}, weakest w = some k → k ∈ w
  | q :: rest, k, h => by
    unfold weakest at h
    split at h
    · cases h; exact List.mem_cons_self
    · next k' hk =>
      split at h <;> cases h
      · exact List.mem_cons_self
      · exact List.mem_cons_of_mem _ (weakest_mem hk)

/-! #### What the counts leave of the plays -/

theorem Play.modIf_id {f : Play → Play} (hf : Counts f) (q : Play) (i : Nat) : (q.modIf i f).id = q.id := by
  unfold Play.modIf; split
  · exact hf.id q
  · rfl

theorem State.modPlay_engine (i : Nat) (f : Play → Play) :
    (s.modPlay i f).engine = if i = 0 then s.engine else { s.engine with
      player0 := s.engine.player0.modPlay i f, player1 := s.engine.player1.modPlay i f, waiting := s.engine.waiting.map (·.modIf i f) } := by
  unfold State.modPlay; split <;> rfl

/-- The plays are those of `e` but for their counts, states and outcomes. -/
structure PlayEngine.Alike (e e' : PlayEngine) : Prop where
  made : ∃ g : Play → Play, Counts g ∧
    e' = { e with
      player0 := { play := e.player0.play.map g, incoming := e.player0.incoming.map g }
      player1 := { play := e.player1.play.map g, incoming := e.player1.incoming.map g }
      waiting := e.waiting.map g }

theorem Counts.id_ : Counts fun q => q := .mk' fun _ => ⟨rfl, rfl, rfl, rfl, rfl⟩

theorem Counts.comp {f g : Play → Play} (hf : Counts f) (hg : Counts g) : Counts fun q => f (g q) :=
  .mk' fun q => ⟨(hf.id _).trans (hg.id q), (hf.kind _).trans (hg.kind q), (hf.due _).trans (hg.due q), (hf.priority _).trans (hg.priority q),
    (hf.launchSeq _).trans (hg.launchSeq q)⟩

theorem Counts.modIf {f : Play → Play} (hf : Counts f) (i : Nat) : Counts fun q => q.modIf i f := .mk' fun q => by
  unfold Play.modIf; split
  · exact ⟨hf.id q, hf.kind q, hf.due q, hf.priority q, hf.launchSeq q⟩
  · exact ⟨rfl, rfl, rfl, rfl, rfl⟩

theorem PlayEngine.Alike.refl (e : PlayEngine) : e.Alike e := ⟨fun q => q, Counts.id_, by simp⟩

theorem PlayEngine.Alike.modPlay {e : PlayEngine} (h : e.Alike s.engine) {f : Play → Play} (hf : Counts f) (i : Nat) :
    e.Alike (s.modPlay i f).engine := by
  obtain ⟨g, hg, he⟩ := h
  rw [State.modPlay_engine]
  split
  · exact ⟨g, hg, he⟩
  · refine ⟨fun q => (g q).modIf i f, (hf.modIf i).comp hg, ?_⟩
    rw [he]
    simp [Player.modPlay, Function.comp_def]

theorem State.alike_kept (e : PlayEngine) (c : ModeController) : KeptBase (fun t => e.Alike t.engine ∧ t.ctl = c) fun _ => True :=
  .of_engine (fun _ _ h he _ hc => ⟨he ▸ h.1, hc.trans h.2⟩) fun _ _ _ hf h => ⟨h.1.modPlay hf _, by simp [h.2]⟩

/-- The plays counted otherwise have the ids they had, the same places and the same launches. -/
theorem PlayEngine.Alike.ids {t : State} (h : s.engine.Alike t.engine) :
    (∀ r ∈ t.playRecords, ∃ r₀ ∈ s.playRecords, r₀.id = r.id) ∧ t.engine.nextLaunch = s.engine.nextLaunch ∧
    ∀ p, (s.player p).incoming = none → (t.player p).incoming = none := by
  obtain ⟨g, hg, he⟩ := h
  have hrec : t.playRecords = s.playRecords.map g := by
    simp [State.playRecords, he, Option.toList_map]
  refine ⟨fun r hr => ?_, by rw [he], fun p hp => ?_⟩
  · rw [hrec, List.mem_map] at hr
    obtain ⟨r₀, h₀, rfl⟩ := hr
    exact ⟨r₀, h₀, (hg.id r₀).symm⟩
  · cases p <;> simp_all [State.player, PlayEngine.player]

namespace Kept

variable {P : State → Prop} {G : Entry → Prop} {U : Play → Prop} (k : Kept P G U)

include k

/-! #### Ends, starts and feeding -/

theorem finish (h : P s) {q : Play} (hq : U q) (o : PlayOutcome) : P (s.finish q o) := k.report _ _ (k.freed _ _ hq h)

theorem finishAll (h : P s) {l : List Play} (hl : ∀ q ∈ l, U q) (o : PlayOutcome) : P (l.foldl (fun s q => s.finish q o) s) :=
  foldl_induct (P := P) (fun _ q hq h => k.finish h (hl q hq) o) h

theorem endPlay (h : P s) (p : PlayerNo) (o : PlayOutcome) : P (s.endPlay p o) := by
  unfold State.endPlay; split
  · next hq => exact k.report _ _ (k.left _ _ _ hq h)
  · exact h

theorem drainIfDone (h : P s) (p : PlayerNo) : P (s.drainIfDone p) := by
  unfold State.drainIfDone; split
  · next hq =>
    split
    · exact k.drained _ _ _ hq h
    · exact h
  · exact h

theorem takeOutcome (h : P s) (p : PlayerNo) (i : Nat) (o : OfferOutcome) : P (s.takeOutcome p i o) :=
  k.drainIfDone (k.counted _ _ _ (Play.take_counts o) h) p

theorem feedOne (h : P s) (p : PlayerNo) : P (s.feedOne p).2 := by
  have counted (i : Nat) : P (s.modPlay i fun q => { q with offered := q.offered + 1 }) :=
    k.counted _ _ _ (.mk' fun _ => ⟨rfl, rfl, rfl, rfl, rfl⟩) h
  unfold State.feedOne; split
  · exact h
  · split
    · exact k.drainIfDone h p
    · next q _ _ b t d _ =>
      split
      · exact k.takeOutcome (k.playerOffer (counted q.id) p b t d q.priority q.id) _ _ _
      · exact h

/-- The head of the Pending Play Queue starts on a free player. -/
theorem startWaiting (h : P s) {p : PlayerNo} {q : Play} {rest : List Play} (hp : s.freePlayer = some p) (hw : s.engine.waiting = q :: rest)
    (hm : s.ctl.mode = .active) : P ((s.setWaiting rest).startPlay p q) := by
  have hu := k.begun _ p q (by simp) (by simp) (k.promoted _ _ _ _ (State.freePlayer_eq hp) hw hm h)
  rwa [State.startPlay_setPlayer] at hu

theorem settleFrom (n : Nat) (agenda : List PlayerNo) (h : P s) : P (State.settleFrom n agenda s) := by
  induction n generalizing agenda s with
  | zero => exact h
  | succ n ih =>
    unfold State.settleFrom; split
    · exact ih _ (k.endPlay h _ _)
    · split
      · exact ih _ (k.feedOne h _)
      · split
        · next hr =>
          obtain ⟨h1, h2⟩ := State.incomingReady_eq hr
          exact ih _ (k.begun _ _ _ h1 h2 h)
        · split
          · next hm =>
            split
            · next p q rest hp hw =>
              dsimp only
              have hrest : P (s.setWaiting rest) := k.dropped _ _ (hw ▸ List.sublist_cons_self q rest) h
              split
              · exact ih _ (k.finish hrest (k.unstarted _ h q (.inr (hw ▸ List.mem_cons_self))) _)
              · exact ih _ (k.startWaiting h hp hw hm)
            · exact h
          · exact h

theorem settleWith (h : P s) (agenda : List PlayerNo) : P (s.settleWith agenda) := k.settleFrom _ _ h

theorem settle (h : P s) : P s.settle := k.settleFrom _ _ h

/-! #### Launches -/

theorem enqueue (h : P s) {q : Play} (hm : s.ctl.mode = .active) (hq : Launched P s q) (hu : U q) : P (s.enqueue q).2 := by
  unfold State.enqueue; split
  · next hl => exact k.waits _ _ hm hq (.inl hl) h
  · split
    · next x hx =>
      split
      · have hmem := weakest_mem hx
        have hsub : (s.engine.waiting.filter fun y => decide (y.id ≠ x.id)).Sublist s.engine.waiting := List.filter_sublist
        have hlt : (s.engine.waiting.filter fun y => decide (y.id ≠ x.id)).length < s.engine.waiting.length :=
          List.length_filter_lt_length_iff_exists.mpr ⟨x, hmem, by simp⟩
        have hd := k.dropped _ _ hsub h
        have hw := k.waits (s.setWaiting (s.engine.waiting.filter fun y => decide (y.id ≠ x.id))) q hm ?_ (.inr ⟨s, h, hlt⟩) hd
        · exact k.finish hw (k.unstarted _ h x (.inr hmem)) _
        · obtain ⟨s₀, l, st, h₀, hids, hn, hq, hl⟩ := hq
          refine ⟨s₀, l, st, h₀, fun r hr => hids r ?_, hn, hq, hl⟩
          simp only [State.playRecords, List.mem_append] at hr ⊢
          exact hr.imp_right fun hr => hsub.subset hr
      · exact k.finish h hu _
    · exact k.finish h hu _

theorem preempt (h : P s) {p : PlayerNo} {v q : Play} (hm : s.ctl.mode = .active) (hv : s.victim = some (p, v))
    (hq : ∀ {t : State}, (∀ r ∈ t.playRecords, ∃ r₀ ∈ s.playRecords, r₀.id = r.id) → t.engine.nextLaunch = s.engine.nextLaunch →
      Launched P t { q with state := .incoming }) : P (s.preempt p v q).2 := by
  have hc : Counts fun x => { x with fixed := some (.cut q.id), state := .draining } := .mk' fun _ => ⟨rfl, rfl, rfl, rfl, rfl⟩
  have hd := k.discardPlay (k.counted _ v.id _ hc h) v.id
  have alike := State.alike_kept s.engine s.ctl
  obtain ⟨ha, hctl⟩ := alike.discardPlay (alike.counted _ v.id _ hc ⟨.refl _, rfl⟩) v.id
  obtain ⟨hids, hn, hp⟩ := ha.ids
  exact k.arrived _ p _ (hp p (State.victim_eq hv).2.1) (by rw [hctl]; exact hm) (hq hids hn) hd

theorem launch (h : P s) (hm : s.ctl.mode = .active) (l : Launch) (hl : l.kind.unstarted = true) : P (s.launch l).2.2.2 := by
  have hb := k.numbered s (s.newPlay l).id h
  have made {t : State} {st : PlayState} (hids : ∀ r ∈ t.playRecords, ∃ r₀ ∈ s.playRecords, r₀.id = r.id)
      (hn : t.engine.nextLaunch = s.engine.nextLaunch + 1) : Launched P t { s.newPlay l with state := st } :=
    ⟨s, l, st, h, hids, hn, rfl, hl⟩
  have hq : Launched P { s with engine := { s.engine with lastId := (s.newPlay l).id, nextLaunch := s.engine.nextLaunch + 1 } } (s.newPlay l) :=
    made (st := .waiting) (fun r hr => ⟨r, hr, rfl⟩) rfl
  have waits := k.settle (k.enqueue hb hm hq (k.fresh _ hl))
  unfold State.launch
  dsimp only
  split
  · next p hp =>
    have hfree := Player.isFree_iff.mp (State.freePlayer_eq hp)
    have ha := k.arrived _ p _ hfree.2 hm hq hb
    have hs := k.begun _ p (s.newPlay l) (by simpa using hfree.1) (by simp) ha
    rw [State.startPlay_setPlayer] at hs
    exact k.settleWith hs _
  · split
    · next p v hv =>
      split
      · exact k.settle (k.preempt hb hm hv fun hids hn => made hids hn)
      · exact waits
    · exact waits

/-! #### Stops and flushes -/

theorem stopRunning (h : P s) (p : PlayerNo) (hit : Play → Bool) : P (s.stopRunning p hit).2 := by
  unfold State.stopRunning; split
  · split
    · have hd (i : Nat) := k.discardPlay (k.counted s i (fun v => { v with fixed := some .stopped, state := .draining })
        (.mk' fun _ => ⟨rfl, rfl, rfl, rfl, rfl⟩) h) i
      dsimp only
      split
      · exact k.endPlay (hd _) _ _
      · exact hd _
    · exact h
  · exact h

theorem stopIncoming (h : P s) (p : PlayerNo) (hit : Play → Bool) : P (s.stopIncoming p hit).2 := by
  unfold State.stopIncoming; split
  · next hq =>
    split
    · exact k.finish (k.dismissed _ _ h) (k.unstarted _ h _ (.inl ⟨p, hq⟩)) _
    · exact h
  · exact h

theorem stopWaiting (h : P s) (hit : Play → Bool) : P (s.stopWaiting hit).2 := by
  unfold State.stopWaiting
  exact k.finishAll (k.dropped _ _ List.filter_sublist h) (fun q hq => k.unstarted _ h q (.inr (List.mem_of_mem_filter hq))) _

theorem stopPlays (h : P s) (hit : Play → Bool) : P (s.stopPlays hit).2 :=
  k.settle (k.stopWaiting (k.stopIncoming (k.stopRunning (k.stopIncoming (k.stopRunning h _ _) _ _) _ _) _ _) _)

theorem flushPlayer (h : P s) (p : PlayerNo) (o : PlayOutcome) : P (s.flushPlayer p o) := by
  have hd := k.dismissed _ p h
  have freed (u : State) (hu : P u) : P (match (s.player p).incoming with | some q => u.finish q (.missed .flush) | none => u) := by
    split
    · next hq => exact k.finish hu (k.unstarted _ h _ (.inl ⟨p, hq⟩)) _
    · exact hu
  unfold State.flushPlayer
  dsimp only
  refine freed _ ?_
  split
  · next q hq =>
    have hl := k.left _ p q (by simpa using hq) hd
    rw [State.setPlayer_setPlayer] at hl
    simp only [State.setPlayer_player_self] at hl
    exact k.report _ _ hl
  · next hq =>
    have : ({ s.player p with incoming := none } : Player) = Player.free := by simp [hq, Player.free]
    rwa [this] at hd

theorem flushPlays (h : P s) (o : PlayOutcome) : P (s.flushPlays o) := by
  unfold State.flushPlays
  have hf := k.flushPlayer (k.flushPlayer h .p0 o) .p1 o
  exact k.finishAll (k.dropped _ _ (List.nil_sublist _) hf) (fun q hq => k.unstarted _ hf q (.inr hq)) _

/-! #### The Schedule Scanner -/

theorem comesDue (h : P s) (n : Fin 64) (d : Nat) (late : Bool) : P (s.comesDue n d late) := by
  have hm : P (s.mark n d) := k.blind _ _ _ _ _ _ _ _ _ h
  unfold State.comesDue; dsimp only
  split
  · exact k.report _ _ hm
  · next ha =>
    split
    · exact k.report _ _ hm
    · split
      · exact k.report _ _ hm
      · refine k.launch hm (not_not.mp ha) _ ?_
        unfold SlotFields.playKind; dsimp only
        split <;> rfl

theorem crossing (h : P s) (w : Nat) : P (s.crossing w) := by
  unfold State.crossing; split
  · exact h
  · refine foldl_induct (P := P) (fun s n _ h => ?_) h
    unfold State.crossSlot; dsimp only; split
    · split
      · exact k.comesDue h _ _ _
      · exact h
    · exact h

theorem scanStep (h : P s) (a b : Nat) : P (s.scanStep a b) := by
  unfold State.scanStep; split
  · exact h
  · refine foldl_induct (P := P) (fun s n _ h => ?_) h
    unfold State.stepSlot; dsimp only; split
    · exact k.comesDue h _ _ _
    · exact h

/-! #### Requests -/

theorem returnBell (h : P s) (b : BellNo) : P (s.returnBell b) := by
  unfold State.returnBell
  refine k.changeService (k.minor _ _ _ ⟨rfl, rfl, rfl, rfl, rfl, rfl, fun _ h => h, fun _ => Nat.zero_le _⟩ h) _ _ _ _ ?_
  intro hb
  unfold Bell.backTo at hb
  split at hb
  · simpa
  · cases hb

theorem service (h : P s) (b : BellNo) (a : Nat) : P (s.service b a).2 := by
  unfold State.service; split
  · exact h
  · exact k.settle (k.leaveService (k.minor _ _ _ ⟨rfl, rfl, rfl, rfl, rfl, rfl, fun _ h => h, fun _ => Nat.zero_le _⟩ h) _ _ _ nofun)
  · exact k.settle (k.leaveService h _ _ _ nofun)
  · exact h
  · exact k.returnBell h b
  · exact h
  · exact h
  · exact k.returnBell h b
  · exact h

theorem bellService (h : P s) (b a : Nat) : P (ownBellService b a s).2.2 := by
  unfold ownBellService; split
  · split
    · exact h
    · exact k.service h _ _
  · exact h

theorem playNow (h : P s) (w : PlayNowWire) : P (ownPlayNow w s).2.2 := by
  unfold ownPlayNow; split
  · exact h
  · split
    · exact h
    · next hm =>
      repeat' split
      · exact h
      · exact h
      · refine k.launch h (not_not.mp hm) _ ?_
        unfold State.playNowLaunch; dsimp only; split <;> rfl

theorem stop (h : P s) (sc i : Nat) : P (ownStop sc i s).2.2 := by
  unfold ownStop; split
  · repeat' split
    · exact h
    · exact k.stopPlays h _
    · exact h
  · exact k.stopPlays h _
  · exact h

theorem liveNote (h : P s) (b d m n : Nat) : P (ownLiveNote b d m n s).2.2 := by
  unfold ownLiveNote; split
  · exact h
  · split
    · exact h
    · dsimp only
      unfold OfferOutcome.follow; split
      · exact k.settle (k.offer h _)
      · exact k.settle (k.offer h _)
      · exact k.offer h _

end Kept

end Sys2Proof.Machine

/-! ### Proofs: what every effect keeps

`Sound` adds to `Kept` the changes of the starts, the modes, the settings and the Tune Store. A predicate kept by all of them is kept by every step. -/

namespace Sys2Proof.Machine

open Sys2Proof

variable {s : State}

/-- The changes of mode that occur: into LOADING and COMMISSION the part only returns, and only a mode to return to is remembered. -/
structure State.Enters (s : State) (m : Mode) (r : Option Mode) : Prop where
  loading : m = .loading → s.ctl.back = .loading
  commission : m = .commission → s.ctl.mode ≠ .active
  remembers : ∀ x, r = some x → x.returnable = true ∨ s.ctl.remembered = some x

/-- The upload TUNE OPEN stages over this store. -/
def TuneStore.newUpload (x : TuneStore) (t : Fin 96) (name : List Byte) (stepLength anchorStep declared : Nat) : Upload :=
  { tune := t, name := name, stepLength := stepLength, anchorStep := anchorStep, declared := declared,
    blocks := x.freeBlocks.take (blocksFor declared), events := [], lastStep := none, stepBells := [], crc := 0 }

theorem State.Enters.working {m : Mode} (h : m = .active ∨ m = .silent) : s.Enters m none :=
  ⟨fun hm => by rw [hm] at h; simp at h, fun hm => by rw [hm] at h; simp at h, fun _ hx => by cases hx⟩

/-- The changes of the Tune Store that occur, but for takes and releases. -/
inductive State.TunesMove (s : State) : TuneStore → Prop
  | opened {t : Fin 96} {nm sl a d} {x : Staging} (hx : x = .none ∨ x = s.tunes.staging) (hr : s.tunes.slots[t].retiring = none) (hd : 1 ≤ d)
      (hf : blocksFor d ≤ ({ s.tunes with staging := x } : TuneStore).freeBlocks.length) :
      s.TunesMove { s.tunes with staging := .opened (({ s.tunes with staging := x } : TuneStore).newUpload t nm sl a d) }
  | staged {u v es} (hu : s.tunes.staging = .opened u) (hn : u.events.length + es.length ≤ u.declared) (hv : stageEvents 1 u es = .all v)
      (ha : v.anchorOk = true) : s.TunesMove { s.tunes with staging := .opened v }
  | closed {u c} (hu : s.tunes.staging = .opened u) (hn : u.events.length = u.declared) :
      s.TunesMove { s.tunes with staging := .committing { u with crc := c } }
  | dropped : s.TunesMove { s.tunes with staging := .none }
  | retired {t} : s.TunesMove (s.tunes.retire t)
  | switched {u} (hu : s.tunes.staging = .committing u) : s.TunesMove
      (({ s.tunes with staging := .none, nextSerial := s.tunes.nextSerial + 1 } : TuneStore).retire u.tune |>.setVersions u.tune
        (some (u.version s.tunes.nextSerial))
        ((({ s.tunes with staging := .none, nextSerial := s.tunes.nextSerial + 1 } : TuneStore).retire u.tune).retiringOf u.tune))
  | emptied (hm : s.ctl.mode = .loading) : s.TunesMove TuneStore.start
  | loaded {t e} (hm : s.ctl.mode = .loading) (hs : s.tunes.staging = .none) (hf : StoredTune.failure e s.tunes.usedBlocks = none) : s.TunesMove
      { s.tunes.setVersions t (some { e.version with users := 0, serial := s.tunes.nextSerial }) [] with nextSerial := s.tunes.nextSerial + 1 }

/-- The changes that a predicate has to be kept by to be kept by everything that reaches an owner. -/
structure Steady (P : State → Prop) (G : Entry → Prop) (U : Play → Prop) : Prop extends Kept P G U where
  entered : ∀ s m r c, s.Enters m r → P s → P (s.enterMode m r c)
  steered : ∀ s c, c.mode = s.ctl.mode → (∀ x, c.remembered = some x → x.returnable = true ∨ s.ctl.remembered = some x) → P s → P (s.setCtl c)
  area : ∀ s a, s.ctl.mode = .loading → a = StoredArea.default ∨ a.formOk = true → P s → P (s.loadArea a)
  tunes : ∀ s x, s.TunesMove x → P s → P { s with tunes := x }
  budget : ∀ s g d, d.inUse = s.drive.inUse → g.driveBudget = s.globals.driveBudget ∨ s.coilsFree = true → P s →
    P { s with globals := g, drive := d }
  pended : ∀ s b p, ((s.bell b).settings.over p).wellFormed b = true → P s → P (s.modBell b fun r => { r with pending := some p })
  cooled : ∀ s b, P s → P (s.coolBell b)

/-- With a start and a change of the Link Port, the changes that a predicate has to be kept by to be kept by every step. -/
structure Sound (P : State → Prop) (G : Entry → Prop) (U : Play → Prop) : Prop extends Steady P G U where
  linked : ∀ s t, LinkOnly s t → P s → P t
  start : ∀ strap clock markers nv pending, P (startWith strap clock markers nv pending)

theorem Settings.over_empty (x : Settings) : x.over Patch.empty = x := by
  cases x; rfl

/-- Laying a united patch over settings is laying the old one and then the new. -/
theorem Settings.over_merge (x : Settings) (p q : Patch) : x.over (p.merge q) = (x.over p).over q := by
  have key {α : Type} (a b : Option α) (d : α) : (b <|> a).getD d = b.getD (a.getD d) := by cases b <;> rfl
  simp [Settings.over, Patch.merge]

theorem foldl_modBell (f : BellNo → Bell → Bell) (b : BellNo) : ∀ (l : List BellNo) (s : State), l.Nodup →
    (l.foldl (fun s b => s.modBell b (f b)) s).bell b = if b ∈ l then f b (s.bell b) else s.bell b
  | [], s, _ => by simp
  | c :: l, s, hn => by
    obtain ⟨hc, hl⟩ := List.nodup_cons.mp hn
    rw [List.foldl_cons, foldl_modBell f b l _ hl]
    by_cases hb : c = b
    · subst hb; simp [hc]
    · simp [Ne.symm hb, State.modBell_bell_ne _ hb]

/-- A change of each bell's record in turn. -/
theorem State.forBells_modBell (f : BellNo → Bell → Bell) (b : BellNo) : (s.forBells fun b s => s.modBell b (f b)).bell b = f b (s.bell b) := by
  exact (foldl_modBell f b _ _ (List.nodup_finRange 48)).trans (if_pos (List.mem_finRange b))

theorem State.forBells_modBell_eq (f : BellNo → Bell → Bell) :
    (s.forBells fun b s => s.modBell b (f b)) = { s with bells := Vector.ofFn fun b => f b (s.bell b) } := by
  have rest : (s.forBells fun b s => s.modBell b (f b)) = { s with bells := (s.forBells fun b s => s.modBell b (f b)).bells } := by
    unfold State.forBells
    refine foldl_induct (P := fun t : State => t = { s with bells := t.bells }) (fun t b _ (h : t = _) => ?_) rfl
    exact (show t.modBell b (f b) = { t with bells := (t.modBell b (f b)).bells } from rfl).trans (by rw [h])
  have bells : (s.forBells fun b s => s.modBell b (f b)).bells = Vector.ofFn fun b => f b (s.bell b) := by
    refine Vector.ext fun i hi => ?_
    simpa [State.bell] using State.forBells_modBell (s := s) f ⟨i, hi⟩
  rw [rest, bells]

theorem Bell.sense_minor (r : Bell) (f : Filter) (q : Nat) (level : Bool) : r.Minor (r.sense f q level) :=
  ⟨rfl, rfl, rfl, rfl, rfl, rfl, fun _ h => h, id⟩

theorem State.loadArea_mode (a : StoredArea) : (s.loadArea a).ctl.mode = s.ctl.mode := rfl

theorem State.firstSampleDue_drive {b : BellNo} {d : Drive} (h : s.firstSampleDue b = some d) : (s.bell b).drive = some d := by
  unfold State.firstSampleDue at h
  split at h
  · next hd =>
    split at h
    · split at h <;> cases h
      exact hd
    · cases h
  · cases h

theorem Drive.sampled_minor {r : Bell} {d : Drive} (h : r.drive = some d) : r.Minor { r with drive := some { d with sampled := true } } :=
  ⟨rfl, rfl, rfl, rfl, rfl, by simp [h], fun _ h => h, id⟩

namespace Steady

variable {P : State → Prop} {G : Entry → Prop} {U : Play → Prop} (k : Steady P G U)

include k

/-! #### Starts and modes -/

theorem endLoading (h : P s) (hl : s.ctl.mode = .loading) : P s.endLoading := by
  have ht (a b c : Bool) : (targetMode a b c).1.returnable = true := by
    cases a <;> cases b <;> cases c <;> rfl
  have hs (r : Bool) : P (s.setCtl { s.ctl with resumePending := r }) := k.steered _ _ rfl (fun x hx => .inr hx) h
  have enters {t : State} (m : Mode) (r : Option Mode) (hm : m ≠ .loading) (hr : ∀ x, r = some x → x.returnable = true)
      (htl : t.ctl.mode = .loading) : t.Enters m r :=
    ⟨fun h => absurd h hm, fun _ => by rw [htl]; decide, fun x hx => .inl (hr x hx)⟩
  unfold State.endLoading
  dsimp only
  repeat' split
  · exact k.entered _ _ _ _ (enters _ _ (by decide) (fun x hx => by cases hx; exact ht _ _ _) hl) (hs _)
  · exact k.entered _ _ _ _ (enters _ _ (by decide) (fun x hx => by cases hx; exact ht _ _ _) hl) (hs _)
  · exact k.entered _ _ _ _ (enters _ _ (Mode.returnable_iff.mp (ht _ _ _)).1 nofun hl) (hs _)

theorem keyEvent (h : P s) (a : Bool) : P (s.keyEvent a) := by
  unfold State.keyEvent
  split
  · split
    · next hr => exact k.entered _ _ _ _ ⟨nofun, nofun, fun x hx => by cases hx; exact .inl hr⟩ h
    · exact h
  · split
    · next hc => exact k.entered _ _ _ _ ⟨id, fun _ => by rw [hc]; decide, nofun⟩ h
    · exact h

theorem keySample (h : P s) (high : Bool) : P (s.keySample high) := by
  have hs (x : List Bool) (o : Bool) : P (s.setCtl { s.ctl with keyHist := x, keyOut := o }) := k.steered _ _ rfl (fun x hx => .inr hx) h
  unfold State.keySample
  dsimp only
  split
  · exact k.keyEvent (hs _ _) _
  · exact hs _ _

theorem causeRaised (h : P s) : P s.causeRaised := by
  unfold State.causeRaised; split
  · exact h
  · exact k.report _ _ h
  · exact k.entered _ _ _ _ ⟨nofun, nofun, fun x hx => .inr hx⟩ h
  · next hl hh hc => exact k.entered _ _ _ _ ⟨nofun, nofun, fun x hx => by cases hx; exact .inl (Mode.returnable_iff.mpr ⟨hl, hc, hh⟩)⟩ h

theorem causeCleared (h : P s) : P s.causeCleared := by
  unfold State.causeCleared; split
  · next hh =>
    split
    · split
      · exact k.entered _ _ _ _ ⟨nofun, nofun, fun x hx => .inr hx⟩ h
      · exact k.entered _ _ _ _ ⟨id, fun _ => by rw [hh]; decide, nofun⟩ h
    · exact k.report _ _ h
  · exact h

theorem setCauses (h : P s) (c : Causes) (raised : Bool) : P (s.setCauses c raised) := by
  have hs : P (s.setCtl { s.ctl with causes := c }) := k.steered _ _ rfl (fun x hx => .inr hx) h
  unfold State.setCauses
  dsimp only
  split
  · exact k.causeRaised hs
  · exact k.causeCleared hs

theorem temperature (h : P s) (c : Int) : P (s.temperature c) := by
  have hw (w : Bool) : P { s with warn := w } := k.blind _ _ _ _ _ _ _ _ _ h
  unfold State.temperature
  dsimp only
  split
  · exact k.setCauses (hw _) _ _
  · exact hw _

theorem supplySample (h : P s) (v : Nat) : P (s.supplySample v) := by
  have hv (x : SupplyMonitor) : P { s with supply := x } := k.blind _ _ _ _ _ _ _ _ _ h
  have runs {t : State} (ht : P t) (a b : Nat) : P (t.setRuns a b) := k.blind _ _ _ _ _ _ _ _ _ ht
  have low {t : State} (ht : P t) (x : Bool) : P (t.judgeLow x) := by
    unfold State.judgeLow; extract_lets run; split
    · exact k.setCauses (runs ht _ _) _ _
    · exact runs ht _ _
  have recovery {t : State} (ht : P t) (x : Bool) : P (t.judgeRecovery x) := by
    unfold State.judgeRecovery; extract_lets run; split
    · exact k.setCauses (runs ht _ _) _ _
    · exact runs ht _ _
  unfold State.supplySample
  dsimp only
  split
  · exact recovery (hv _) _
  · exact low (hv _) _

theorem clockBecameValid (h : P s) : P s.clockBecameValid := by
  have hs : P (s.setCtl { s.ctl with resumePending := false }) := k.steered _ _ rfl (fun x hx => .inr hx) h
  have remembers {t : State} (ht : P t) : P (t.setCtl { t.ctl with remembered := some .active }) :=
    k.steered _ _ rfl (fun x hx => by cases hx; exact .inl rfl) ht
  unfold State.clockBecameValid
  split
  · dsimp only
    split
    · exact k.entered _ _ _ _ ⟨nofun, nofun, nofun⟩ hs
    · exact remembers hs
    · exact remembers hs
    · exact hs
  · exact h

theorem setMode (h : P s) (m : Nat) : P (ownSetMode m s).2.2 := by
  have hs : P (s.setCtl { s.ctl with resumePending := false }) := k.steered _ _ rfl (fun x hx => .inr hx) h
  unfold ownSetMode; split
  · exact h
  · split
    · split
      · split
        · exact k.entered (s.setCtl { s.ctl with resumePending := false }) .active none .request (.working (.inl rfl)) hs
        · exact h
      · exact hs
    · split
      · dsimp only
        exact k.entered s .silent none .request (.working (.inr rfl)) h
      · exact h
    · exact h

theorem stored (h : P s) (n : NvStore) : P { s with nv := n } := k.blind _ _ _ _ _ _ _ _ _ h

theorem startWrite (h : P s) (w : Write) : P (s.startWrite w) := k.blind _ _ _ _ _ _ _ _ _ h

theorem commissionEnd (h : P s) : P (ownCommissionEnd s).2.2 := by
  have hs : P (s.setCtl { s.ctl with commissioned := true }) := k.steered _ _ rfl (fun x hx => .inr hx) h
  unfold ownCommissionEnd; split
  · exact h
  · split
    · exact h
    · dsimp only
      exact k.startWrite (k.entered (s.setCtl { s.ctl with commissioned := true }) .silent none .commissionEnd (.working (.inr rfl)) hs) _

/-! #### The clock -/

theorem rangeHold (h : P s) (w : Nat) : P (s.rangeHold w) := k.report _ _ (k.blind _ _ _ _ _ _ _ _ _ h)

theorem clocked (h : P s) (c : WallClock) : P { s with clock := c } := k.blind _ _ _ _ _ _ _ _ _ h

theorem advanceWall (h : P s) (n : Nat) : P (s.advanceWall n) := by
  unfold State.advanceWall
  dsimp only
  repeat' split
  · exact k.rangeHold h _
  · exact k.crossing (k.clocked h _) _
  · exact k.clocked h _

theorem setTime (h : P s) (y mo d ms : Nat) : P (ownSetTime y mo d ms s).2.2 := by
  have hc (w : Nat) : P { s.stepTo w with clock := { (s.stepTo w).clock with valid := true } } := k.clocked h _
  unfold ownSetTime
  split
  · exact h
  · dsimp only
    split
    · exact k.scanStep (hc _) _ _
    · exact k.clockBecameValid (hc _)

theorem pulseAccepted (h : P s) (edge : Nat) : P (s.pulseAccepted edge) := by
  unfold State.pulseAccepted State.pulseStep
  dsimp only
  repeat' split
  · exact k.clocked h _
  · exact k.rangeHold (k.clocked h _) _
  · exact k.rangeHold (k.clocked h _) _
  · exact k.scanStep (k.report _ _ (k.clocked h _)) _ _

theorem pulseSample (h : P s) (high : Bool) : P (s.pulseSample high) := by
  unfold State.pulseSample State.judgeEdge State.clockReport
  dsimp only
  repeat' split
  · exact k.report _ _ (k.clocked h _)
  · exact k.pulseAccepted (k.clocked h _) _
  · exact k.pulseAccepted (k.clocked h _) _
  · exact k.clocked h _

/-! #### Settings -/

theorem bellSet (h : P s) (b : Nat) (fs : List (Nat × Nat)) : P (ownBellSet b fs s).2.2 := by
  unfold ownBellSet
  split
  · next b p _ _ =>
    dsimp only
    split
    · exact h
    · next hw =>
      have hw' : ((s.bell b).settings.over (((s.bell b).pending.getD Patch.empty).merge p)).wellFormed b = true := by
        rw [Settings.over_merge]; simpa [Bell.prospective] using hw
      split
      · next hq => exact k.applied _ _ _ hq (.inr hw') h
      · exact k.pended _ _ _ hw' h
  · exact h

theorem settingsSet (h : P s) (fs : List (Nat × Nat)) : P (ownSettingsSet fs s).2.2 := by
  have globals {t : State} (ht : P t) (g : Globals) (hg : g.driveBudget = t.globals.driveBudget) : P { t with globals := g } :=
    k.budget t g t.drive rfl (.inl hg) ht
  have sup {t : State} (ht : P t) (x : SupplyMonitor) (y : CoilSweep) : P { t with supply := x, sweep := y } := k.blind _ _ _ _ _ _ _ _ _ ht
  have laid (p : GlobalPatch) : P { s with globals := s.globals.over p } := globals h _ rfl
  have took {t : State} (ht : P t) (v : Nat) : P (t.takeBudget v).2 := by
    unfold State.takeBudget
    split
    · next hc => exact k.budget t _ _ (by rfl) (.inr hc) ht
    · exact k.budget t _ _ (by rfl) (.inl rfl) ht
  unfold ownSettingsSet State.applyGlobals
  split
  · dsimp only
    repeat' split
    · exact took (sup (laid _) _ _) _
    · exact took (sup (laid _) _ _) _
    · exact took (sup (laid _) _ _) _
    · exact took (laid _) _
    · exact sup (laid _) _ _
    · exact sup (laid _) _ _
    · exact sup (laid _) _ _
    · exact laid _
  · exact h

theorem save (h : P s) : P (ownSave s).2.2 := by
  unfold ownSave; split
  · exact h
  · exact k.startWrite h _

theorem endSettingsWrite (h : P s) (c : StoredArea) (op : StoreOp) (m : Bool) : P (s.endSettingsWrite c op m) := by
  unfold State.endSettingsWrite; split
  · exact k.report _ _ (k.stored (k.stored h _) _)
  · exact k.report _ _ (k.stored h _)

theorem program (h : P s) (x : Vector Slot 64) : P { s with slots := x } := k.blind _ _ _ _ _ _ _ _ _ h

theorem programSet (h : P s) (n : Nat) (w : SlotWire) : P (ownProgramSet n w s).2.2 := by
  unfold ownProgramSet; split
  · exact k.program h _
  · exact h

theorem programClear (h : P s) (n : Nat) : P (ownProgramClear n s).2.2 := by
  unfold ownProgramClear; split
  · exact k.program h _
  · exact h

/-! #### The Tune Store -/

theorem tuneOpen (h : P s) (t sl a d : Nat) (nm : List Byte) : P (ownTuneOpen t sl a d nm s).2.2 := by
  unfold ownTuneOpen
  split
  · exact h
  · next t _ =>
    split
    · exact h
    · next hf =>
      split
      · exact h
      · split
        · exact h
        · next hr =>
          have hr' : s.tunes.slots[t].retiring = none := by simpa using hr
          have hd : 1 ≤ d := by
            simp only [Bool.not_eq_true, Bool.not_eq_false', Bool.and_eq_true, within] at hf
            have := hf.1.2
            simp at this
            exact this.1
          dsimp only
          split
          · split
            · exact h
            · next hn => exact k.tunes s _ (.opened (.inl rfl) hr' hd (Nat.not_lt.mp hn)) h
          · split
            · exact h
            · next hn => exact k.tunes s _ (.opened (.inr rfl) hr' hd (Nat.not_lt.mp hn)) h

theorem tuneEvents (h : P s) (t f : Nat) (es : List EventRec) : P (ownTuneEvents t f es s).2.2 := by
  unfold ownTuneEvents
  split
  · next hu =>
    split
    · exact h
    · next hn =>
      split
      · exact h
      · next hv =>
        split
        · next ha => exact k.tunes s _ (.staged hu (Nat.not_lt.mp fun hx => hn (.inr (.inr hx))) hv ha) h
        · exact h
  · exact h
  · exact h

theorem tuneClose (h : P s) (t c x : Nat) : P (ownTuneClose t c x s).2.2 := by
  unfold ownTuneClose
  split
  · next u hu =>
    split
    · exact h
    · next hn =>
      have hn' : u.events.length = u.declared := by
        have h1 := not_not.mp fun hx => hn (.inr (.inl hx))
        have h2 := not_not.mp fun hx => hn (.inr (.inr hx))
        exact h1.symm.trans h2
      split
      · exact h
      · split
        · exact h
        · exact k.startWrite (k.stored (k.tunes s _ (.closed (c := eventCrc u.events) hu hn') h) _) _
  · exact h
  · exact h

theorem tuneAbort (h : P s) : P (ownTuneAbort s).2.2 := by
  unfold ownTuneAbort
  split
  · exact k.tunes s _ .dropped h
  · exact h
  · exact h

theorem tuneDelete (h : P s) (t : Nat) : P (ownTuneDelete t s).2.2 := by
  unfold ownTuneDelete
  split
  · exact h
  · split
    · exact h
    · split
      · exact h
      · exact k.startWrite (k.tunes s _ .retired h) _

theorem tuneReport (h : P s) (x : StoreKind) (t : Fin 96) (op : StoreOp) (c n : Nat) (r : Option StoreReason) : P (s.tuneReport x t op c n r) :=
  k.report _ _ h

theorem switchDirectory (h : P s) {u : Upload} (hu : s.tunes.staging = .committing u) : P (s.switchDirectory u) := by
  unfold State.switchDirectory
  exact k.tuneReport (k.blind _ _ _ _ _ _ _ _ _ (k.tunes s _ (.switched hu) h)) _ _ _ _ _ _

theorem loadEntry (h : P s) (hm : s.ctl.mode = .loading) (hs : s.tunes.staging = .none) (g : List (Fin 96 × StoredTune × StoreReason))
    (t : Fin 96) : P (loadEntry s g t).1 ∧ (Machine.loadEntry s g t).1.ctl.mode = .loading ∧ (Machine.loadEntry s g t).1.tunes.staging = .none := by
  unfold Machine.loadEntry
  split
  · exact ⟨h, hm, hs⟩
  · dsimp only
    split
    · next hf => exact ⟨k.tunes s _ (.loaded hm hs hf) h, hm, hs⟩
    · exact ⟨k.blind _ _ _ _ _ _ _ _ _ h, hm, hs⟩

theorem loadDirectory (h : P s) (hm : s.ctl.mode = .loading) : P s.loadDirectory := by
  unfold State.loadDirectory
  dsimp only
  refine foldl_induct (P := P) (fun s _ _ h => k.tuneReport h _ _ _ _ _ _) ?_
  exact (foldl_induct (P := fun a : State × List (Fin 96 × StoredTune × StoreReason) => P a.1 ∧ a.1.ctl.mode = .loading ∧
    a.1.tunes.staging = .none) (fun a t _ ha => k.loadEntry ha.1 ha.2.1 ha.2.2 _ _) ⟨k.tunes s _ (.emptied hm) h, hm, rfl⟩).1

theorem loaded (h : P s) (hm : s.ctl.mode = .loading) : P (s.loadDirectory.loadSettings.resetRuns.restartSweep.endLoading) := by
  have hd := k.loadDirectory h hm
  have hdm : s.loadDirectory.ctl.mode = .loading := by simpa using hm
  have hl : P s.loadDirectory.loadSettings := by
    unfold State.loadSettings
    split
    · next hf =>
      refine k.area _ _ hdm (.inr ?_) hd
      unfold NvStore.areaFailure at hf
      repeat' split at hf
      · cases hf
      · cases hf
      · next hx => simpa using hx
    · exact k.report _ _ (k.area _ _ hdm (.inl rfl) hd)
  have hr : P s.loadDirectory.loadSettings.resetRuns.restartSweep := k.blind _ _ _ _ _ _ _ _ _ (k.blind _ _ _ _ _ _ _ _ _ hl)
  refine k.endLoading hr ?_
  simp only [State.restartSweep_frame, State.resetRuns_frame]
  unfold State.loadSettings
  split
  · rw [State.loadArea_mode]; exact hdm
  · rw [State.settingsReport, (State.report_frame _ _).2.2.1, State.loadArea_mode]; exact hdm

/-! #### Every effect -/

theorem timed (h : P s) (n : Nat) : P (s.atTenth n) := by
  rw [State.atTenth_eq]; exact k.blind _ _ _ _ _ _ _ _ _ h

theorem sensed (h : P s) (f : Filter) (q : Nat) (timer : RunTimer) (levels : BitVec 48) : P { s with
    timer := timer, bells := s.bells.mapFinIdx fun b r _ => r.sense f q (BitVec.getLsbD levels b) } := by
  have ht : P { s with timer := timer } := k.blind _ _ _ _ _ _ _ _ _ h
  have hf := State.forBells_induct (P := P) (f := fun b s => s.modBell b fun r => r.sense f q (levels.getLsbD b))
    (fun b s hs => k.minor s b _ (Bell.sense_minor _ _ _ _) hs) ht
  rw [State.forBells_modBell_eq fun (b : BellNo) r => r.sense f q (levels.getLsbD b)] at hf
  have : (s.bells.mapFinIdx fun b r _ => r.sense f q (levels.getLsbD b)) =
      Vector.ofFn fun b : BellNo => (({ s with timer := timer } : State).bell b).sense f q (levels.getLsbD b) := by
    refine Vector.ext fun i hi => ?_
    simp only [Vector.getElem_mapFinIdx, Vector.getElem_ofFn]
    rfl
  rwa [this]

end Steady

namespace Sound

variable {P : State → Prop} {G : Entry → Prop} {U : Play → Prop} (k : Sound P G U)
include k

theorem effect {t : State} (h : P s) (e : Effect s t) : P t := by
  cases e with
  | idle => exact h
  | linked hl => exact k.linked _ _ hl h
  | started => exact k.start _ _ _ _ _
  | loaded hm => exact k.loaded h hm
  | setMode => exact k.setMode h _
  | commissionEnd => exact k.commissionEnd h
  | setTime => exact k.setTime h _ _ _ _
  | bellSet => exact k.bellSet h _ _
  | bellService => exact k.bellService h _ _
  | settingsSet => exact k.settingsSet h _
  | save => exact k.save h
  | tuneOpen => exact k.tuneOpen h _ _ _ _ _
  | tuneEvents => exact k.tuneEvents h _ _ _
  | tuneClose => exact k.tuneClose h _ _ _
  | tuneAbort => exact k.tuneAbort h
  | tuneDelete => exact k.tuneDelete h _
  | programSet => exact k.programSet h _ _
  | programClear => exact k.programClear h _
  | playNow => exact k.playNow h _
  | stop => exact k.stop h _ _
  | liveNote => exact k.liveNote h _ _ _ _
  | grantedNote hg => exact k.settleWith (k.grantSlots (k.takeOutcome (k.offer (k.offered _ _ _ hg h) _) _ _ _)) _
  | volley => exact k.settle (k.takeEntries h _ fun e he => k.good s h e (List.mem_of_mem_filter he))
  | sampled hd => exact k.minor _ _ _ (Drive.sampled_minor (State.firstSampleDue_drive hd)) h
  | sampledHigh hd =>
    exact k.settle (k.finding (k.cutDrive (k.minor _ _ _ (Drive.sampled_minor (State.firstSampleDue_drive hd)) h) _) _ _ _)
  | driveEnd hd _ => exact k.settle (k.strikeEnd (k.timed h _) hd _)
  | rested hb => exact k.rest h hb
  | pulseEnd hd _ => exact k.settle (k.pulseEnd (k.timed h _) hd _)
  | sensed => exact k.sensed h _ _ _ _
  | windowClosed => exact k.settle (k.closeWindow h _)
  | cooled =>
    refine State.forBells_induct (P := P) (fun b s hs => k.cooled s b hs) ?_
    exact k.blind _ _ _ _ _ _ _ _ _ h
  | temperature => exact k.temperature (k.blind _ _ _ _ _ _ _ _ _ h) _
  | supply => exact k.supplySample (k.blind _ _ _ _ _ _ _ _ _ h) _
  | swept hm => exact k.settle (k.visit (k.blind _ _ _ _ _ _ _ _ _ h) hm)
  | timerRuns => exact k.settle (k.blind _ _ _ _ _ _ _ _ _ h)
  | switched hu => exact k.switchDirectory h hu
  | commitFailed => exact k.tuneReport (k.blind _ _ _ _ _ _ _ _ _ (k.tunes s _ .dropped h)) _ _ _ _ _ _
  | erased => exact k.tuneReport (k.blind _ _ _ _ _ _ _ _ _ h) _ _ _ _ _ _
  | eraseFailed => exact k.tuneReport (k.blind _ _ _ _ _ _ _ _ _ h) _ _ _ _ _ _
  | settingsWritten => exact k.endSettingsWrite h _ _ _
  | ticked => exact k.blind _ _ _ _ _ _ _ _ _ h
  | advanced => exact k.advanceWall (k.blind _ _ _ _ _ _ _ _ _ h) _
  | slewed => exact k.advanceWall (k.blind _ _ _ _ _ _ _ _ _ h) _
  | minutePulse => exact k.pulseSample (k.blind _ _ _ _ _ _ _ _ _ h) _
  | horizon => exact k.settleWith h _
  | keySample => exact k.keySample (k.blind _ _ _ _ _ _ _ _ _ h) _

/-- What is kept by the changes named is kept by every step. -/
theorem step (blind : LinkBlind P) {t : State} (h : P s) (hs : Machine.step s = .next t) : P t :=
  step_keeps blind (fun _ _ h e => k.effect h e) h hs

end Sound

end Sys2Proof.Machine

/-! ### Proofs: predicates that see little of the state

The changes that such a predicate does not see need no argument of their own. -/

namespace Sys2Proof.Machine

open Sys2Proof

variable {s : State} {P : State → Prop} {G : Entry → Prop} {U : Play → Prop}

theorem State.releaseVersion_eq (q : PlayKind) : s.releaseVersion q = { s with tunes := (s.releaseVersion q).tunes } := by
  unfold State.releaseVersion; split <;> rfl

/-- A predicate that sees neither the plays nor the versions is kept by what happens to them. -/
theorem Kept.of_base (k : KeptBase P G) (unplayed : ∀ s e x, P s → P { s with engine := e, tunes := x }) : Kept P G fun _ => True where
  toKeptBase := k
  unstarted _ _ _ _ := trivial
  fresh _ _ := trivial
  freed s q _ h := by rw [State.releaseVersion_eq]; exact unplayed s _ _ h
  left s p q _ h := by rw [State.releaseVersion_eq]; exact unplayed s _ _ h
  dismissed s p h := unplayed s _ _ h
  dropped s w _ h := unplayed s _ _ h
  drained s p q _ h := unplayed s _ _ h
  begun s p q _ _ h := by
    unfold State.startPlay
    dsimp only
    repeat' split
    · exact unplayed s _ _ h
    · exact unplayed s _ _ h
    · refine k.report _ _ ?_
      rw [State.releaseVersion_eq]
      exact unplayed s _ _ h
  promoted s p q rest _ _ _ h := unplayed s _ _ h
  numbered s i h := unplayed s _ _ h
  arrived s p q _ _ _ h := unplayed s _ _ h
  waits s q _ _ _ h := unplayed s _ _ h

/-- A predicate that does not see the Mode Controller is kept by every change of mode. -/
theorem Kept.enterMode (k : Kept P G U) (steered : ∀ s c, P s → P (s.setCtl c)) (h : P s) (m : Mode) (r : Option Mode) (c : ModeCause) :
    P (s.enterMode m r c) := by
  have hm := k.modeCuts (k.report _ (.mode s.ctl.mode m c s.ctl.causes r (if m.flushes then s.sched.queue.length else 0)) (steered s
    { s.ctl with mode := m, remembered := r } h)) m
  unfold State.enterMode
  dsimp only
  split
  · next hf => rw [if_pos hf] at hm; exact k.quietPoints (k.flushPlays (k.flushQueue hm) _)
  · next hf => rw [if_neg hf] at hm; exact hm

/-- A predicate that does not see the heat is kept by the cooling. -/
theorem KeptBase.coolBell (k : KeptBase P G) (unheated : ∀ s b n, P s → P (s.modBell b fun r => { r with heat := n })) (h : P s) (b : BellNo) :
    P (s.coolBell b) := by
  have hc := unheated s b (Machine.cooled (s.bell b).heat (s.bell b).settings.cooling) h
  unfold State.coolBell; split
  · exact h
  · exact k.heatTest hc b

/-- What keeps two predicates keeps both at once. -/
theorem KeptBase.and {P Q : State → Prop} {G H : Entry → Prop} (k : KeptBase P G) (l : KeptBase Q H) :
    KeptBase (fun s => P s ∧ Q s) fun e => G e ∧ H e where
  blind _ _ _ _ _ _ _ _ _ h := ⟨k.blind _ _ _ _ _ _ _ _ _ h.1, l.blind _ _ _ _ _ _ _ _ _ h.2⟩
  report _ _ h := ⟨k.report _ _ h.1, l.report _ _ h.2⟩
  counted _ _ _ hf h := ⟨k.counted _ _ _ hf h.1, l.counted _ _ _ hf h.2⟩
  good _ h _ he := ⟨k.good _ h.1 _ he, l.good _ h.2 _ he⟩
  taken _ _ h := ⟨k.taken _ _ h.1, l.taken _ _ h.2⟩
  unheld _ _ h := ⟨k.unheld _ _ h.1, l.unheld _ _ h.2⟩
  granted _ h := ⟨k.granted _ h.1, l.granted _ h.2⟩
  offered _ _ _ hg h := ⟨k.offered _ _ _ hg h.1, l.offered _ _ _ hg h.2⟩
  held _ _ h := ⟨k.held _ _ h.1, l.held _ _ h.2⟩
  inserted _ _ _ _ hi h := ⟨k.inserted _ _ _ _ hi h.1, l.inserted _ _ _ _ hi h.2⟩
  moved _ _ _ hg he hf hd h := ⟨k.moved _ _ _ hg.1 he hf hd h.1, l.moved _ _ _ hg.2 he hf hd h.2⟩
  minor _ _ _ hm h := ⟨k.minor _ _ _ hm h.1, l.minor _ _ _ hm h.2⟩
  served _ _ _ hs h := ⟨k.served _ _ _ hs h.1, l.served _ _ _ hs h.2⟩
  applied _ _ _ hq hp h := ⟨k.applied _ _ _ hq hp h.1, l.applied _ _ _ hq hp h.2⟩
  heated _ _ _ h := ⟨k.heated _ _ _ h.1, l.heated _ _ _ h.2⟩
  rested _ _ hb h := ⟨k.rested _ _ hb h.1, l.rested _ _ hb h.2⟩
  released _ _ _ _ hd hx h := ⟨k.released _ _ _ _ hd hx h.1, l.released _ _ _ _ hd hx h.2⟩
  started _ _ _ _ _ hi hn hm hc h := ⟨k.started _ _ _ _ _ hi hn hm hc h.1, l.started _ _ _ _ _ hi hn hm hc h.2⟩

theorem Launched.imp {P Q : State → Prop} (hpq : ∀ s, P s → Q s) {q : Play} (h : Launched P s q) : Launched Q s q := by
  obtain ⟨s₀, l, st, h₀, rest⟩ := h
  exact ⟨s₀, l, st, hpq _ h₀, rest⟩

theorem Kept.and {P Q : State → Prop} {G H : Entry → Prop} {U V : Play → Prop} (k : Kept P G U) (l : Kept Q H V) :
    Kept (fun s => P s ∧ Q s) (fun e => G e ∧ H e) fun q => U q ∧ V q where
  toKeptBase := k.toKeptBase.and l.toKeptBase
  unstarted _ h _ hq := ⟨k.unstarted _ h.1 _ hq, l.unstarted _ h.2 _ hq⟩
  fresh _ hq := ⟨k.fresh _ hq, l.fresh _ hq⟩
  freed _ _ hq h := ⟨k.freed _ _ hq.1 h.1, l.freed _ _ hq.2 h.2⟩
  left _ _ _ hq h := ⟨k.left _ _ _ hq h.1, l.left _ _ _ hq h.2⟩
  dismissed _ _ h := ⟨k.dismissed _ _ h.1, l.dismissed _ _ h.2⟩
  dropped _ _ hw h := ⟨k.dropped _ _ hw h.1, l.dropped _ _ hw h.2⟩
  drained _ _ _ hq h := ⟨k.drained _ _ _ hq h.1, l.drained _ _ _ hq h.2⟩
  begun _ _ _ hp hq h := ⟨k.begun _ _ _ hp hq h.1, l.begun _ _ _ hp hq h.2⟩
  promoted _ _ _ _ hp hw hm h := ⟨k.promoted _ _ _ _ hp hw hm h.1, l.promoted _ _ _ _ hp hw hm h.2⟩
  numbered _ _ h := ⟨k.numbered _ _ h.1, l.numbered _ _ h.2⟩
  arrived _ _ _ hp hm hl h := ⟨k.arrived _ _ _ hp hm (hl.imp fun _ => And.left) h.1, l.arrived _ _ _ hp hm (hl.imp fun _ => And.right) h.2⟩
  waits _ _ hm hl hw h :=
    ⟨k.waits _ _ hm (hl.imp fun _ => And.left) (hw.imp_right fun ⟨s₀, h₀, hs⟩ => ⟨s₀, h₀.1, hs⟩) h.1,
      l.waits _ _ hm (hl.imp fun _ => And.right) (hw.imp_right fun ⟨s₀, h₀, hs⟩ => ⟨s₀, h₀.2, hs⟩) h.2⟩

/-! ### Proofs: the queues of the Link Port stay within their capacities (R170, R173) -/

/-- At most n replies and a queueful of reports wait. -/
def State.LinkWithin (n : Nat) (s : State) : Prop := s.link.replies.length ≤ n ∧ s.link.reports.length ≤ Config.reportCap

theorem State.LinkWithin.report {n : Nat} (h : s.LinkWithin n) (r : Report) : (s.report r).LinkWithin n := by
  unfold State.report
  split
  · next hl => exact ⟨h.1, by simpa using hl⟩
  · exact h

/-- Of the Link Port the other blocks touch no more than a report does. -/
theorem KeptBase.of_link {F : LinkPort → Prop} (report : ∀ (s : State) r, F s.link → F (s.report r).link) :
    KeptBase (fun s => F s.link) fun _ => True where
  blind _ _ _ _ _ _ _ _ _ h := h
  report s r h := report s r h
  counted s i f _ h := by unfold State.modPlay; split <;> exact h
  good _ _ _ _ := trivial
  taken _ _ h := h
  unheld _ _ h := h
  granted s h := by unfold State.grantOne; repeat' split
                    all_goals exact h
  offered _ _ _ _ h := h
  held _ _ h := h
  inserted _ _ _ _ _ h := h
  moved _ _ _ _ _ _ _ h := h
  minor _ _ _ _ h := h
  served _ _ _ _ h := h
  applied s b p _ _ h := by
    unfold State.applySettings State.changeService; dsimp only; split
    · exact report _ _ h
    · exact h
  heated _ _ _ h := h
  rested _ _ _ h := h
  released s b d x _ _ h := by
    unfold State.freeClass State.applyBudget; repeat' split
    all_goals exact h
  started _ _ _ _ _ _ _ _ _ h := h

theorem Steady.of_link {F : LinkPort → Prop} (report : ∀ (s : State) r, F s.link → F (s.report r).link) :
    Steady (fun s => F s.link) (fun _ => True) fun _ => True where
  toKept := .of_base (.of_link report) fun _ _ _ h => h
  entered _ m r c _ h := (Kept.of_base (.of_link report) fun _ _ _ h => h).enterMode (fun _ _ h => h) h m r c
  steered _ _ _ _ h := h
  area _ _ _ _ h := h
  tunes _ _ _ h := h
  budget _ _ _ _ _ h := h
  pended _ _ _ _ h := h
  cooled _ b h := (Kept.of_base (.of_link report) fun _ _ _ h => h).coolBell (fun _ _ _ h => h) h b

theorem State.linkWithin_sound (n : Nat) : Sound (State.LinkWithin n) (fun _ => True) fun _ => True where
  toSteady := .of_link (F := fun l => l.replies.length ≤ n ∧ l.reports.length ≤ Config.reportCap) fun _ r h => State.LinkWithin.report h r
  linked _ _ hl h := ⟨by rw [hl.replies]; exact h.1, by rw [hl.reports]; exact h.2⟩
  start _ _ _ _ _ := ⟨Nat.zero_le _, Nat.zero_le _⟩

/-- Serving the transmitter makes no queue longer. -/
theorem State.LinkWithin.transmit {n : Nat} (h : s.LinkWithin n) : s.transmit.LinkWithin n := by
  obtain ⟨hr, hp⟩ := h
  unfold State.transmit
  split
  · exact ⟨hr, hp⟩
  · split
    · next hq => rw [hq] at hr; exact ⟨Nat.le_of_succ_le hr, hp⟩
    · split
      · next hq => rw [hq] at hp; exact ⟨hr, Nat.le_of_succ_le hp⟩
      · exact ⟨hr, hp⟩

/-- Settles O4: a request is answered only while fewer than four replies wait. -/
theorem stepKeepsTheLinkQueuesBounded : Obligations.StepKeepsTheLinkQueuesBounded := by
  intro s t ⟨hp, hr⟩ hs
  rcases step_effect hs with rfl | ⟨rest, ⟨u, v, hu, he, ht⟩⟩
  · exact ⟨hp, hr⟩
  · have hn : u.link.replies.length ≤ Config.replyCap := by rw [hu.replies]; exact hr
    obtain ⟨hv, hq⟩ := (State.linkWithin_sound u.link.replies.length).effect ⟨Nat.le_refl _, by rw [hu.reports]; exact hp⟩ he
    rcases ht with rfl | ⟨r, hlt, rfl⟩
    · have := State.LinkWithin.transmit ⟨hv.trans hn, hq⟩
      exact ⟨this.2, this.1⟩
    · have : (v.reply r).LinkWithin Config.replyCap := ⟨by simpa [State.reply] using Nat.lt_of_le_of_lt hv hlt, hq⟩
      exact ⟨this.transmit.2, this.transmit.1⟩

end Sys2Proof.Machine

/-! ### Proofs: every bell's record stays well formed (R1 to R3, R14, R15, R63, R65, R70, R73) -/

namespace Sys2Proof.Machine

open Sys2Proof

variable {s : State}

theorem Settings.wellFormed_leads {b : BellNo} {x : Settings} (h : x.wellFormed b = true) : x.leadMin < x.leadMax := by
  simp only [Settings.wellFormed, Bool.and_eq_true, decide_eq_true_eq] at h
  obtain ⟨⟨⟨⟨⟨-, hl⟩, -⟩, -⟩, -⟩, -⟩ := h
  exact hl

theorem Settings.wellFormed_heats {b : BellNo} {x : Settings} (h : x.wellFormed b = true) : x.heatRelease ≤ x.heatRest := by
  simp only [Settings.wellFormed, Bool.and_eq_true, decide_eq_true_eq] at h
  obtain ⟨⟨⟨-, h1⟩, h2⟩, -⟩ := h
  exact Nat.le_of_lt (Nat.lt_trans h1 h2)

theorem Settings.wellFormed_leadMax {b : BellNo} {x : Settings} (h : x.wellFormed b = true) : x.leadMax ≤ 400 := by
  simp only [Settings.wellFormed, Bool.and_eq_true, decide_eq_true_eq] at h
  omega

theorem Settings.clampLead_within {x : Settings} (h : x.leadMin < x.leadMax) (l : Nat) :
    16 * x.leadMin ≤ x.clampLead l ∧ x.clampLead l ≤ 16 * x.leadMax := by
  unfold Settings.clampLead clampNat
  split <;> [skip; split] <;> omega

theorem Bell.heatOutcome_resting {r : Bell} (h : r.heatOutcome = some .resting) : r.settings.heatRest ≤ r.heat := by
  unfold Bell.heatOutcome at h
  split at h
  · split at h
    · assumption
    · cases h
  · split at h <;> cases h
  · cases h

theorem Bell.heatOutcome_none {r : Bell} (h : r.heatOutcome = none) (hr : r.service = .resting) : r.settings.heatRelease ≤ r.heat := by
  simpa [Bell.heatOutcome, hr] using h

theorem Settings.over_release (x : Settings) {p : Patch} (h : p.namesHeat = false) : (x.over p).heatRelease = x.heatRelease := by
  simp only [Patch.namesHeat, Bool.or_eq_false_iff, Option.isSome_eq_false_iff, Option.isNone_iff_eq_none] at h
  simp [Settings.over, h.2]

theorem Bell.Law.minor {b : BellNo} {r r' : Bell} (h : r.Law b) (m : r.Minor r') : r'.Law b where
  formed := by rw [m.settings]; exact h.formed
  pending p hp := by rw [m.settings]; exact h.pending p (m.pending ▸ hp)
  lead := by rw [m.settings]; exact m.lead (Nat.le_of_lt (Settings.wellFormed_leads h.formed)) h.lead
  misses := m.misses h.misses
  heat := by rw [m.heat]; exact h.heat
  resting hr := by rw [m.settings, m.heat]; exact h.resting (m.service ▸ hr)

theorem Bell.Law.recast {b : BellNo} {r r' : Bell} (h : r.Law b) (hs : r'.settings = r.settings) (hp : r'.pending = r.pending)
    (hl : r'.lead16 = r.lead16) (hm : r'.missRun = r.missRun) (hh : r'.heat ≤ Config.heatMax)
    (hr : r'.service = .resting → r.settings.heatRelease ≤ r'.heat) : r'.Law b where
  formed := by rw [hs]; exact h.formed
  pending p hq := by rw [hs]; exact h.pending p (hp ▸ hq)
  lead := by rw [hs, hl]; exact h.lead
  misses := by rw [hm]; exact h.misses
  heat := hh
  resting hq := by rw [hs]; exact hr hq

theorem Bell.Law.served {b : BellNo} {r : Bell} (h : r.Law b) {st : Service} (hs : st = .resting → r.settings.heatRelease ≤ r.heat) :
    Bell.Law b { r with service := st } :=
  ⟨h.formed, h.pending, h.lead, h.misses, h.heat, hs⟩

/-- What the settings laid over a record leave, but for the service state. -/
theorem Bell.Law.apply {b : BellNo} {r : Bell} (h : r.Law b) {p : Patch} (hp : (r.settings.over p).wellFormed b = true) {st : Service}
    (hs : st = .resting → (r.settings.over p).heatRelease ≤ r.heat) : Bell.Law b { r.apply p with service := st } :=
  ⟨hp, (fun _ hq => by cases hq), Settings.clampLead_within (Settings.wellFormed_leads hp) _, h.misses, h.heat, hs⟩

theorem State.BellsLaw.modBell (h : s.BellsLaw) (b : BellNo) {f : Bell → Bell} (hb : (f (s.bell b)).Law b) : (s.modBell b f).BellsLaw := by
  intro c
  rw [State.modBell_bell]
  split
  · next hc => rw [← hc]; exact hb
  · exact h c

/-- The law speaks of the Bell Table alone. -/
theorem State.BellsLaw.congr {t : State} (h : s.BellsLaw) (ht : t.bells = s.bells) : t.BellsLaw := by
  intro b
  have : t.bell b = s.bell b := by simp [State.bell, ht]
  rw [this]; exact h b

theorem State.BellsLaw.applySettings (h : s.BellsLaw) (b : BellNo) {p : Patch} (hp : ((s.bell b).settings.over p).wellFormed b = true) :
    (s.applySettings b p).BellsLaw := by
  unfold State.applySettings State.changeService
  dsimp only
  split
  · next st hn ho =>
    simp only [State.modBell_bell_self] at ho
    refine State.BellsLaw.congr (s := s.modBell b fun r => { r.apply p with service := st }) ?_ ?_
    · exact h.modBell b ((h b).apply hp fun hs => Nat.le_trans (Settings.wellFormed_heats hp) (Bell.heatOutcome_resting (hs ▸ ho)))
    · simp
  · next hno =>
    have hl := (h b).apply hp (st := (s.bell b).service) fun hs => ?_
    · exact h.modBell b hl
    · cases hn : p.namesHeat with
      | true =>
        cases ho : ((s.bell b).apply p).heatOutcome with
        | some st => exact absurd (by simpa using ho) (hno st hn)
        | none => exact Bell.heatOutcome_none ho hs
      | false => rw [Settings.over_release _ hn]; exact (h b).resting hs

theorem State.bellsLaw_keptBase : KeptBase State.BellsLaw fun _ => True where
  blind _ _ _ _ _ _ _ _ _ h := h
  report _ _ h := h.congr (by simp)
  counted _ _ _ _ h := h.congr (by simp)
  good _ _ _ _ := trivial
  taken _ _ h := h
  unheld _ _ h := h
  granted _ h := h.congr (by simp)
  offered _ _ _ _ h := h
  held _ _ h := h
  inserted _ _ _ _ _ h := h
  moved _ _ _ _ _ _ _ h := h
  minor _ b _ m h := h.modBell b ((h b).minor m)
  served _ b _ hs h := h.modBell b ((h b).served fun hr => Nat.le_trans (Settings.wellFormed_heats (h b).formed) (hs hr))
  applied _ b p _ hp h := h.applySettings b (hp.elim ((h b).pending p) id)
  heated s b n h := by
    refine h.modBell b ((h b).recast rfl rfl rfl rfl (Nat.min_le_right ((s.bell b).heat + n) Config.heatMax) fun hr => ?_)
    exact Nat.le_min.mpr ⟨Nat.le_trans ((h b).resting hr) (Nat.le_add_right _ _), Nat.le_trans ((h b).resting hr) (h b).heat⟩
  rested _ b _ h := h.modBell b ((h b).recast rfl rfl rfl rfl (h b).heat (h b).resting)
  released _ b d x _ _ h := by
    refine State.BellsLaw.congr (h.modBell b (f := fun r => { r with hammer := x, drive := none }) ?_) (by simp)
    exact (h b).recast rfl rfl rfl rfl (h b).heat (h b).resting
  started s b d start ready _ _ _ _ h := by
    refine State.BellsLaw.modBell ?_ b ?_
    · exact h
    · exact (h b).recast rfl rfl rfl rfl (h b).heat (h b).resting

theorem State.bellsLaw_kept : Kept State.BellsLaw (fun _ => True) fun _ => True := .of_base State.bellsLaw_keptBase fun _ _ _ h => h

/-- The state with a bell one cooling step cooler, before its heat test. -/
def State.cooler (s : State) (b : BellNo) : State := s.modBell b fun r => { r with heat := Machine.cooled r.heat r.settings.cooling }

/-- Cooling takes a RESTING bell below heat_release back into service in the same event, and leaves any other bell's record lawful for its heat test. -/
theorem State.BellsLaw.coolBell_cases (h : s.BellsLaw) (b : BellNo) :
    s.coolBell b = s ∨ s.coolBell b = (s.cooler b).changeService b .inService .heat 0 ∨
    (s.cooler b).BellsLaw ∧ s.coolBell b = (s.cooler b).heatTest b := by
  unfold State.coolBell
  split
  · exact .inl rfl
  · right
    by_cases hr : (s.bell b).service = .resting ∧ Machine.cooled (s.bell b).heat (s.bell b).settings.cooling < (s.bell b).settings.heatRelease
    · left
      have ho : ((s.cooler b).bell b).heatOutcome = some .inService := by
        simp [State.cooler, Bell.heatOutcome, hr.1, hr.2]
      show (s.cooler b).heatTest b = _
      unfold State.heatTest
      rw [ho]
    · right
      refine ⟨h.modBell b ((h b).recast rfl rfl rfl rfl (Nat.le_trans (Nat.sub_le _ _) (h b).heat) fun hs => ?_), rfl⟩
      exact Nat.not_lt.mp fun hx => hr ⟨hs, hx⟩

theorem State.BellsLaw.coolBell (h : s.BellsLaw) (b : BellNo) : (s.coolBell b).BellsLaw := by
  rcases h.coolBell_cases b with hc | hc | ⟨hl, hc⟩
  · rw [hc]; exact h
  · rw [hc]
    refine State.BellsLaw.congr (s := s.modBell b fun r => { r with heat := Machine.cooled r.heat r.settings.cooling, service := .inService }) ?_ ?_
    · exact h.modBell b ((h b).recast rfl rfl rfl rfl (Nat.le_trans (Nat.sub_le _ _) (h b).heat) fun hs => by cases hs)
    · simp [State.changeService, State.cooler]
  · rw [hc]; exact State.bellsLaw_kept.heatTest hl b

theorem StoredArea.formOk_bell {a : StoredArea} (h : a = StoredArea.default ∨ a.formOk = true) (b : BellNo) :
    a.bells[b].settings.wellFormed b = true := by
  rcases h with rfl | h
  · simp only [StoredArea.default, Fin.getElem_fin, Vector.getElem_replicate]
    revert b; decide
  · simp only [StoredArea.formOk, Bool.and_eq_true, List.all_eq_true, List.mem_finRange, forall_const, decide_eq_true_eq] at h
    exact (h.1.2 b).1

theorem State.loadArea_bell (a : StoredArea) (b : BellNo) : (s.loadArea a).bell b = a.bells[b].record (s.bell b) := by
  simp [State.bell, State.loadArea]

theorem State.BellsLaw.loadArea (h : s.BellsLaw) {a : StoredArea} (ha : a = StoredArea.default ∨ a.formOk = true) :
    (s.loadArea a).BellsLaw := by
  intro b
  have hw := StoredArea.formOk_bell ha b
  rw [State.loadArea_bell]
  refine ⟨hw, (fun _ hq => by cases hq), Settings.clampLead_within (Settings.wellFormed_leads hw) _, Nat.zero_le _, (h b).heat, fun hr => ?_⟩
  unfold StoredBell.record at hr
  dsimp only at hr
  split at hr <;> cases hr

theorem State.reset_bells : State.reset.BellsLaw := by
  intro b
  have hb : State.reset.bell b = Bell.start := by simp [State.bell, State.reset]
  have formed : ∀ b : BellNo, Settings.default.wellFormed b = true := by decide
  rw [hb]
  exact ⟨formed b, (fun _ hq => by cases hq), by decide, by decide, by decide, (fun hs => by cases hs)⟩

theorem State.bellsLaw_sound : Sound State.BellsLaw (fun _ => True) fun _ => True where
  toKept := State.bellsLaw_kept
  linked _ _ hl h := h.congr (by rw [hl.rest])
  start _ _ _ _ _ b := by
    revert b
    exact State.reset_bells
  entered _ m r c _ h := State.bellsLaw_kept.enterMode (fun _ _ h => h) h m r c
  steered _ _ _ _ h := h
  area _ _ _ ha h := h.loadArea ha
  tunes _ _ _ h := h
  budget _ _ _ _ _ h := h
  pended _ b p hp h := h.modBell b ⟨(h b).formed, fun q hq => by cases hq; exact hp, (h b).lead, (h b).misses, (h b).heat, (h b).resting⟩
  cooled _ b h := h.coolBell b

/-- Settles O6. -/
theorem stepKeepsTheBellRecords : Obligations.StepKeepsTheBellRecords :=
  fun _ _ h hs => State.bellsLaw_sound.step (fun _ _ _ h => h) h hs

end Sys2Proof.Machine

/-! ### Proofs: what a quiet point, a cut and the entry to a mode leave of each bell and each queue -/

namespace Sys2Proof.Machine

open Sys2Proof

variable {s : State}

/-- The two records differ in what pending settings and service states decide. -/
structure Bell.SameCoil (r r' : Bell) : Prop where
  rest : r' = { r with settings := r'.settings, lead16 := r'.lead16, pending := r'.pending, service := r'.service }

namespace Bell.SameCoil

variable {r r' r'' : Bell}

theorem refl (r : Bell) : r.SameCoil r := ⟨rfl⟩

theorem trans (h : r.SameCoil r') (k : r'.SameCoil r'') : r.SameCoil r'' := by
  obtain ⟨h⟩ := h
  obtain ⟨k⟩ := k
  exact ⟨by rw [k, h]⟩

theorem hammer (h : r.SameCoil r') : r'.hammer = r.hammer := by rw [h.rest]
theorem drive (h : r.SameCoil r') : r'.drive = r.drive := by rw [h.rest]
theorem window (h : r.SameCoil r') : r'.window = r.window := by rw [h.rest]
theorem readyTime (h : r.SameCoil r') : r'.readyTime = r.readyTime := by rw [h.rest]
theorem missRun (h : r.SameCoil r') : r'.missRun = r.missRun := by rw [h.rest]
theorem heat (h : r.SameCoil r') : r'.heat = r.heat := by rw [h.rest]
theorem verified (h : r.SameCoil r') : r'.verified = r.verified := by rw [h.rest]
theorem lastVerified (h : r.SameCoil r') : r'.lastVerified = r.lastVerified := by rw [h.rest]
theorem stale (h : r.SameCoil r') : r'.stale = r.stale := by rw [h.rest]

end Bell.SameCoil

/-- A change at one bell seen from all of them. -/
theorem State.sameCoil_of_bell {t : State} {b : BellNo} (hb : (s.bell b).SameCoil (t.bell b)) (hc : ∀ c, b ≠ c → t.bell c = s.bell c)
    (c : BellNo) : (s.bell c).SameCoil (t.bell c) := by
  by_cases h : b = c
  · exact h ▸ hb
  · rw [hc c h]; exact .refl _

theorem State.bell_congr {t : State} (h : t.bells = s.bells) (b : BellNo) : t.bell b = s.bell b := by simp [State.bell, h]

theorem State.modBell_sameCoil (b : BellNo) {f : Bell → Bell} (h : (s.bell b).SameCoil (f (s.bell b))) (c : BellNo) :
    (s.bell c).SameCoil ((s.modBell b f).bell c) :=
  State.sameCoil_of_bell (by rwa [State.modBell_bell_self]) (fun c hc => State.modBell_bell_ne _ hc f) c

theorem State.changeService_sameCoil (b : BellNo) (st : Service) (k : BellCause) (n : Nat) (c : BellNo) :
    (s.bell c).SameCoil ((s.changeService b st k n).bell c) := by
  unfold State.changeService
  rw [State.report_bell]
  exact State.modBell_sameCoil b (f := fun r => { r with service := st }) ⟨rfl⟩ c

theorem State.applySettings_sameCoil (b : BellNo) (p : Patch) (c : BellNo) : (s.bell c).SameCoil ((s.applySettings b p).bell c) := by
  have hp := State.modBell_sameCoil (s := s) b (f := fun r => r.apply p) ⟨rfl⟩ c
  unfold State.applySettings; dsimp only; split
  · exact hp.trans (State.changeService_sameCoil _ _ _ _ c)
  · exact hp

theorem State.applySettings_ne {b c : BellNo} (h : b ≠ c) (p : Patch) : (s.applySettings b p).bell c = s.bell c := by
  unfold State.applySettings State.changeService; dsimp only; split
  · rw [State.report_bell, State.modBell_bell_ne _ h, State.modBell_bell_ne _ h]
  · rw [State.modBell_bell_ne _ h]

theorem State.quietPoint_sameCoil (b c : BellNo) : (s.bell c).SameCoil ((s.quietPoint b).bell c) := by
  unfold State.quietPoint; split
  · exact State.applySettings_sameCoil _ _ _
  · exact .refl _

theorem State.quietPoint_ne {b c : BellNo} (h : b ≠ c) : (s.quietPoint b).bell c = s.bell c := by
  unfold State.quietPoint; split
  · exact State.applySettings_ne h _
  · rfl

theorem State.quietPoints_sameCoil (c : BellNo) : (s.bell c).SameCoil (s.quietPoints.bell c) := by
  unfold State.quietPoints
  exact State.forBells_induct (P := fun t => (s.bell c).SameCoil (t.bell c)) (fun b t h => h.trans (State.quietPoint_sameCoil b c)) (.refl _)

/-! #### Cuts -/

@[simp] theorem State.freeClass_bell (n : Nat) (c : BellNo) : (s.freeClass n).bell c = s.bell c := by simp [State.bell]
@[simp] theorem State.driveNotice_bell (i : Nat) (c : BellNo) : (s.driveNotice i).bell c = s.bell c := by simp [State.bell]

theorem State.releaseCoil_bell_self (b : BellNo) (d : Drive) : (s.releaseCoil b d).bell b = { s.bell b with
    hammer := (match d.kind with | .strike .. => .swing | .testPulse => .idle), drive := none } := by
  unfold State.releaseCoil; split
  · simp_all
  · simp_all

theorem State.releaseCoil_bell_ne {b c : BellNo} (h : b ≠ c) (d : Drive) : (s.releaseCoil b d).bell c = s.bell c := by
  unfold State.releaseCoil; split
  · simp [State.modBell_bell_ne _ h]
  · simp [State.modBell_bell_ne _ h]

theorem State.cutDrive_bell_ne {b c : BellNo} (h : b ≠ c) : (s.cutDrive b).bell c = s.bell c := by
  unfold State.cutDrive; split
  · rfl
  · split
    · rw [State.modBell_bell_ne _ h, State.releaseCoil_bell_ne h]
    · rw [State.quietPoint_ne h, State.releaseCoil_bell_ne h]

/-- A cut leaves no drive. -/
theorem State.cutDrive_drive (b : BellNo) : ((s.cutDrive b).bell b).drive = none := by
  unfold State.cutDrive; split
  · assumption
  · split
    · simp [State.releaseCoil_bell_self]
    · rw [(State.quietPoint_sameCoil b b).drive]; simp [State.releaseCoil_bell_self]

/-- After all drives are cut there is no drive and no window. -/
theorem State.cutAll_coils (c : BellNo) : (s.cutAll.bell c).drive = none ∧ (s.cutAll.bell c).window = none := by
  have step (b : BellNo) (t : State) : (((t.cutDrive b).modBell b fun r => { r with window := none }).bell c) =
      if b = c then { (t.cutDrive c).bell c with window := none } else t.bell c := by
    rw [State.modBell_bell]
    split
    · next h => rw [h]
    · next h => exact State.cutDrive_bell_ne h
  have key : ∀ (l : List BellNo) (t : State), c ∈ l ∨ ((t.bell c).drive = none ∧ (t.bell c).window = none) →
      ((l.foldl (fun t b => (t.cutDrive b).modBell b fun r => { r with window := none }) t).bell c).drive = none ∧
      ((l.foldl (fun t b => (t.cutDrive b).modBell b fun r => { r with window := none }) t).bell c).window = none := by
    intro l
    induction l with
    | nil => intro t h; exact h.resolve_left (List.not_mem_nil)
    | cons b l ih =>
      intro t h
      rw [List.foldl_cons]
      refine ih _ ?_
      by_cases hb : b = c
      · right; rw [step, if_pos hb]; exact ⟨State.cutDrive_drive c, rfl⟩
      · rw [step, if_neg hb]
        exact h.imp (fun h => (List.mem_cons.mp h).resolve_left fun hx => hb hx.symm) id
  exact key _ s (.inl (List.mem_finRange c))

/-! #### The flush -/

theorem State.takeOut_sched (p : Entry → Bool) : (s.takeOut p).sched = { s.sched with queue := s.sched.queue.filter fun e => !p e } := by
  unfold State.takeOut
  exact foldl_keeps (fun s : State => s.sched) (fun s a => by simp) _ _

theorem State.discardHeld_sched (p : Held → Bool) : (s.discardHeld p).sched = { s.sched with
    held := s.sched.held.filter fun h => !p h, granted := s.sched.granted.filter fun g => !p g.note } := by
  unfold State.discardHeld
  exact foldl_keeps (fun s : State => s.sched) (fun s a => by simp) _ _

theorem State.flushQueue_sched : s.flushQueue.sched = { s.sched with queue := [], held := [], granted := [] } := by
  simp [State.flushQueue, State.takeOut_sched, State.discardHeld_sched]

theorem State.finish_engine (q : Play) (o : PlayOutcome) : (s.finish q o).engine = s.engine := by simp

theorem State.flushPlays_engine (o : PlayOutcome) :
    (s.flushPlays o).engine = { s.engine with player0 := Player.free, player1 := Player.free, waiting := [] } := by
  have player (t : State) (p : PlayerNo) : (t.flushPlayer p o).engine = (t.setPlayer p Player.free).engine := by
    unfold State.flushPlayer; dsimp only
    repeat' split
    all_goals simp
  unfold State.flushPlays
  rw [foldl_keeps (fun s : State => s.engine) (fun s a => by simp)]
  simp [State.setWaiting, player, State.setPlayer, PlayEngine.setPlayer]

theorem PlayEngine.playRecords_empty {t : State} (h : t.engine = { s.engine with player0 := Player.free, player1 := Player.free, waiting := [] }) :
    t.playRecords = [] := by
  simp [State.playRecords, h, Player.free]

/-! #### Entry to a mode -/

/-- The state in which the part enters a mode, after its MODE report and its cuts. -/
def State.turned (s : State) (m : Mode) (r : Option Mode) (c : ModeCause) : State :=
  ((s.setCtl { s.ctl with mode := m, remembered := r }).report
    (.mode s.ctl.mode m c s.ctl.causes r (if m.flushes then s.sched.queue.length else 0))).modeCuts m

theorem State.enterMode_eq (m : Mode) (r : Option Mode) (c : ModeCause) : s.enterMode m r c =
    if m.flushes then ((s.turned m r c).flushQueue.flushPlays m.playOutcome).quietPoints else s.turned m r c := rfl

@[simp] theorem State.turned_sched (m : Mode) (r : Option Mode) (c : ModeCause) : (s.turned m r c).sched = s.sched := by simp [State.turned]

/-- A mode that flushes leaves the Firing Queue, the waiting list and the players empty. -/
theorem State.enterMode_sched (m : Mode) (r : Option Mode) (c : ModeCause) :
    (s.enterMode m r c).sched = if m.flushes then { s.sched with queue := [], held := [], granted := [] } else s.sched := by
  rw [State.enterMode_eq]; split
  · simp [State.flushQueue_sched]
  · simp

theorem State.enterMode_flushed {m : Mode} (h : m.flushes = true) (r : Option Mode) (c : ModeCause) :
    (s.enterMode m r c).engine =
      { (s.turned m r c).flushQueue.engine with player0 := Player.free, player1 := Player.free, waiting := [] } := by
  rw [State.enterMode_eq, if_pos h]
  simp [State.flushPlays_engine]

theorem State.enterMode_playRecords {m : Mode} (h : m.flushes = true) (r : Option Mode) (c : ModeCause) :
    (s.enterMode m r c).playRecords = [] := PlayEngine.playRecords_empty (State.enterMode_flushed h r c)

/-- A mode entered without a flush leaves the plays as they are. -/
theorem State.enterMode_kept {m : Mode} (h : m.flushes = false) (r : Option Mode) (c : ModeCause) :
    (s.enterMode m r c).engine = s.engine ∧ (s.enterMode m r c).tunes = s.tunes ∧ (s.enterMode m r c).bells = s.bells ∧
    (s.enterMode m r c).drive = s.drive ∧ (s.enterMode m r c).globals = s.globals := by
  rw [State.enterMode_eq, if_neg (by simp [h])]
  have hm : m = .commission ∨ m = .active := by cases m <;> simp_all [Mode.flushes]
  rcases hm with rfl | rfl <;> simp [State.turned, State.modeCuts]

theorem State.turned_halt (r : Option Mode) (c : ModeCause) (b : BellNo) :
    ((s.turned .halt r c).bell b).drive = none ∧ ((s.turned .halt r c).bell b).window = none := by
  unfold State.turned State.modeCuts
  exact State.cutAll_coils b

/-- HALT leaves no drive and no window. -/
theorem State.enterMode_halt_coils (r : Option Mode) (c : ModeCause) (b : BellNo) :
    ((s.enterMode .halt r c).bell b).drive = none ∧ ((s.enterMode .halt r c).bell b).window = none := by
  rw [State.enterMode_eq, if_pos (show Mode.halt.flushes = true from rfl)]
  have hq := State.quietPoints_sameCoil (s := (s.turned .halt r c).flushQueue.flushPlays Mode.halt.playOutcome) b
  rw [hq.drive, hq.window, State.bell_congr (s := s.turned .halt r c) (by simp)]
  exact State.turned_halt r c b

end Sys2Proof.Machine

/-! ### Proofs: the budget in use is the sum of the classes held (R45, R52, R53, R57) -/

namespace Sys2Proof.Machine

open Sys2Proof

variable {s : State}

/-- The drive budget's law apart from the modes in which nothing is driven. -/
structure State.Budgeted (s : State) : Prop where
  recorded : ∀ b, (s.bell b).hammer = .drive ↔ (s.bell b).drive.isSome = true
  summed : s.drive.inUse = (s.bells.toList.map Bell.heldClass).sum
  bounded : s.drive.inUse ≤ s.globals.driveBudget

/-- In LOADING and HALT the Firing Queue is empty and no coil is driven; and a mode to return to is a working mode. -/
structure State.Stopped (s : State) : Prop where
  stopped : s.ctl.mode = .loading ∨ s.ctl.mode = .halt → s.sched.queue = [] ∧ ∀ b, (s.bell b).drive = none
  returns : ∀ m, s.ctl.remembered = some m → m.returnable = true

/-- The sum over the Bell Table after one record is replaced. -/
theorem sum_map_set {α : Type} {n : Nat} (v : Vector α n) (i : Fin n) (a : α) (f : α → Nat) :
    ((v.set i a).toList.map f).sum + f v[i] = (v.toList.map f).sum + f a := by
  have key : ∀ (l : List α) (i : Nat) (h : i < l.length), ((l.set i a).map f).sum + f l[i] = (l.map f).sum + f a := by
    intro l
    induction l with
    | nil => intro i h; simp at h
    | cons x l ih =>
      intro i h
      cases i with
      | zero => simp only [List.set_cons_zero, List.map_cons, List.sum_cons, List.getElem_cons_zero]; omega
      | succ i =>
        have := ih i (by simpa using h)
        simp only [List.set_cons_succ, List.map_cons, List.sum_cons, List.getElem_cons_succ]; omega
  have := key v.toList i.val (by simp)
  simpa [Vector.toList_set] using this

theorem State.heldClass_sum_modBell (b : BellNo) (f : Bell → Bell) :
    ((s.modBell b f).bells.toList.map Bell.heldClass).sum + (s.bell b).heldClass =
      (s.bells.toList.map Bell.heldClass).sum + (f (s.bell b)).heldClass := by
  have := sum_map_set s.bells b (f (s.bell b)) Bell.heldClass
  simpa [State.bell] using this

namespace State.Budgeted

theorem congr {t : State} (h : s.Budgeted) (hb : t.bells = s.bells) (hd : t.drive.inUse = s.drive.inUse) (hg : t.globals = s.globals) :
    t.Budgeted where
  recorded b := by rw [State.bell_congr hb]; exact h.recorded b
  summed := by rw [hd, hb]; exact h.summed
  bounded := by rw [hd, hg]; exact h.bounded

/-- A change of a bell that leaves its hammer in DRIVE or out of it, and the class held. -/
theorem modBell (h : s.Budgeted) (b : BellNo) {f : Bell → Bell} (hm : (f (s.bell b)).hammer = .drive ↔ (s.bell b).hammer = .drive)
    (hd : (f (s.bell b)).drive.map (·.cls) = (s.bell b).drive.map (·.cls)) : (s.modBell b f).Budgeted where
  recorded c := by
    rw [State.modBell_bell]
    split
    · have hs : (f (s.bell b)).drive.isSome = (s.bell b).drive.isSome := by
        simpa only [Option.isSome_map] using congrArg Option.isSome hd
      rw [hm, hs]; exact h.recorded b
    · exact h.recorded c
  summed := by
    have hsum := State.heldClass_sum_modBell (s := s) b f
    have hc : (f (s.bell b)).heldClass = (s.bell b).heldClass := by simp [Bell.heldClass, hd]
    have := h.summed
    simp only [State.modBell_drive]
    omega
  bounded := h.bounded

/-- With no coil in DRIVE the budget in use is 0. -/
theorem inUse_zero (h : s.Budgeted) (hc : ∀ b, (s.bell b).drive = none) : s.drive.inUse = 0 := by
  rw [h.summed]
  refine List.sum_eq_zero fun n hn => ?_
  obtain ⟨r, hr, rfl⟩ := List.mem_map.mp hn
  obtain ⟨i, hi, rfl⟩ := List.mem_iff_getElem.mp hr
  have := hc ⟨i, by simpa using hi⟩
  simp only [State.bell, Fin.getElem_fin] at this
  simp [Bell.heldClass, this]

theorem drives_none (h : s.Budgeted) (hc : s.coilsFree = true) (b : BellNo) : (s.bell b).drive = none := by
  have hb : (s.bell b).hammer ≠ .drive := by
    simp only [State.coilsFree, List.all_eq_true, decide_eq_true_eq] at hc
    exact hc _ (by simp [State.bell])
  rw [Ne, h.recorded b] at hb
  simpa using hb

theorem applyBudget (h : s.Budgeted) : s.applyBudget.Budgeted := by
  unfold State.applyBudget
  split
  · split
    · next hc =>
      have hz := h.inUse_zero (h.drives_none hc)
      exact ⟨h.recorded, h.summed, by simp [hz]⟩
    · exact h
  · exact h

theorem released (h : s.Budgeted) {b : BellNo} {d : Drive} {x : Hammer} (hd : (s.bell b).drive = some d) (hx : x ≠ .drive) :
    ((s.modBell b fun r => { r with hammer := x, drive := none }).freeClass d.cls).Budgeted := by
  refine applyBudget ⟨fun c => ?_, ?_, Nat.le_trans (Nat.sub_le _ _) h.bounded⟩
  · have : (({ s.modBell b fun r => { r with hammer := x, drive := none } with
        drive := { (s.modBell b fun r => { r with hammer := x, drive := none }).drive with
          inUse := (s.modBell b fun r => { r with hammer := x, drive := none }).drive.inUse - d.cls } } : State).bell c) =
        (s.modBell b fun r => { r with hammer := x, drive := none }).bell c := rfl
    rw [this, State.modBell_bell]
    split
    · simp [hx]
    · exact h.recorded c
  · have hsum := State.heldClass_sum_modBell (s := s) b fun r => { r with hammer := x, drive := none }
    have h0 : Bell.heldClass { s.bell b with hammer := x, drive := none } = 0 := rfl
    have h1 : (s.bell b).heldClass = d.cls := by simp [Bell.heldClass, hd]
    have := h.summed
    show s.drive.inUse - d.cls = _
    simp only [h0, h1] at hsum
    dsimp only
    omega

theorem started (h : s.Budgeted) {b : BellNo} {d : Drive} {start ready : Option Nat} (hi : (s.bell b).hammer = .idle)
    (hn : s.drive.inUse + d.cls ≤ s.globals.driveBudget) :
    (({ s with drive := { s.drive with inUse := s.drive.inUse + d.cls } } : State).modBell b fun r =>
      { r with hammer := .drive, drive := some d, lastDriveStart := start, readyTime := ready }).Budgeted where
  recorded c := by
    rw [State.modBell_bell]
    split
    · simp
    · exact h.recorded c
  summed := by
    have hsum := State.heldClass_sum_modBell (s := ({ s with drive := { s.drive with inUse := s.drive.inUse + d.cls } } : State)) b fun r =>
      { r with hammer := .drive, drive := some d, lastDriveStart := start, readyTime := ready }
    have hnone : (s.bell b).drive = none := by
      have := (h.recorded b).not.mp (by rw [hi]; decide)
      simpa using this
    have h0 : (({ s with drive := { s.drive with inUse := s.drive.inUse + d.cls } } : State).bell b).heldClass = 0 := by
      show (s.bell b).heldClass = 0
      simp [Bell.heldClass, hnone]
    have := h.summed
    simp only [h0] at hsum
    have h1 (r : Bell) : Bell.heldClass { r with hammer := .drive, drive := some d, lastDriveStart := start, readyTime := ready } = d.cls := rfl
    simp only [h1] at hsum
    show s.drive.inUse + d.cls = _
    dsimp only at hsum ⊢
    omega
  bounded := hn

end State.Budgeted

theorem State.budgeted_keptBase : KeptBase State.Budgeted fun _ => True where
  blind _ _ _ _ _ _ _ _ _ h := ⟨h.recorded, h.summed, h.bounded⟩
  report _ _ h := h.congr (by simp) (by simp) (by simp)
  counted _ _ _ _ h := h.congr (by simp) (by simp) (by simp)
  good _ _ _ _ := trivial
  taken _ _ h := ⟨h.recorded, h.summed, h.bounded⟩
  unheld _ _ h := ⟨h.recorded, h.summed, h.bounded⟩
  granted _ h := h.congr (by simp) (by simp) (by simp)
  offered _ _ _ _ h := ⟨h.recorded, h.summed, h.bounded⟩
  held _ _ h := ⟨h.recorded, h.summed, h.bounded⟩
  inserted _ _ _ _ _ h := ⟨h.recorded, h.summed, h.bounded⟩
  moved _ _ _ _ _ _ _ h := ⟨h.recorded, h.summed, h.bounded⟩
  minor _ b _ m h := h.modBell b (by rw [m.hammer]) m.drive
  served _ b _ _ h := h.modBell b Iff.rfl rfl
  applied s b p _ _ h := by
    have ha : (s.modBell b fun r => r.apply p).Budgeted := h.modBell b Iff.rfl rfl
    unfold State.applySettings State.changeService; dsimp only; split
    · next st _ _ =>
      have hs := ha.modBell b (f := fun r => { r with service := st }) Iff.rfl rfl
      exact hs.congr (by simp) (by simp) (by simp)
    · exact ha
  heated _ b _ h := h.modBell b Iff.rfl rfl
  rested _ b hs h := h.modBell b (by simp [hs]) rfl
  released _ _ _ _ hd hx h := h.released hd hx
  started _ _ _ _ _ hi hn _ hc h := h.started hi (by rw [hc]; exact hn)

theorem State.budgeted_kept : Kept State.Budgeted (fun _ => True) fun _ => True :=
  .of_base State.budgeted_keptBase fun _ _ _ h => ⟨h.recorded, h.summed, h.bounded⟩

theorem State.Stopped.congr {t : State} (h : s.Stopped) (hc : t.ctl = s.ctl) (hq : s.sched.queue = [] → t.sched.queue = [])
    (hb : ∀ b, (s.bell b).drive = none → (t.bell b).drive = none) : t.Stopped where
  stopped hm := by
    rw [hc] at hm
    obtain ⟨h1, h2⟩ := h.stopped hm
    exact ⟨hq h1, fun b => hb b (h2 b)⟩
  returns m hm := h.returns m (by rw [← hc]; exact hm)

theorem State.Stopped.modBell (h : s.Stopped) (b : BellNo) {f : Bell → Bell} (hd : (s.bell b).drive = none → (f (s.bell b)).drive = none) :
    (s.modBell b f).Stopped := by
  refine h.congr rfl id fun c hc => ?_
  rw [State.modBell_bell]
  split
  · next he => exact hd (he ▸ hc)
  · exact hc

theorem State.stopped_keptBase : KeptBase State.Stopped fun _ => True where
  blind _ _ _ _ _ _ _ _ _ h := ⟨h.stopped, h.returns⟩
  report _ _ h := h.congr (by simp) (by simp) (by simp)
  counted s _ _ _ h := h.congr (by simp) (by simp) fun b hb => by rwa [State.bell_congr (s := s) (by simp)]
  good _ _ _ _ := trivial
  taken _ _ h := h.congr rfl (fun hq => by simp [State.setQueue, hq]) fun _ hb => hb
  unheld _ _ h := h.congr rfl id fun _ hb => hb
  granted s h := h.congr (by simp) (by simp) fun b hb => by rwa [State.bell_congr (s := s) (by simp)]
  offered _ _ _ _ h := h.congr rfl id fun _ hb => hb
  held _ _ h := h.congr rfl id fun _ hb => hb
  inserted _ _ _ _ hi h := ⟨fun hm => by rcases hi.mode with h1 | h1 <;> rcases hm with h2 | h2 <;> simp [h1] at h2, h.returns⟩
  moved s e _ _ he _ _ h := ⟨fun hm => by simp [State.queues, (h.stopped hm).1] at he, h.returns⟩
  minor _ b _ m h := h.modBell b fun hb => by have := m.drive; simpa [hb] using this
  served _ b _ _ h := h.modBell b id
  applied _ b p _ _ h := h.congr (by simp) (by simp) fun c hc => by rw [(State.applySettings_sameCoil b p c).drive]; exact hc
  heated _ b _ h := h.modBell b id
  rested _ b _ h := h.modBell b id
  released _ b d x _ _ h := (h.modBell b (f := fun r => { r with hammer := x, drive := none }) fun _ => rfl).congr (by simp) (by simp) (by simp)
  started s b d start ready _ _ hm _ h := ⟨fun hs => by
    exfalso
    rcases hm with hm | hm
    · exact hm (h.stopped hs).1
    · rcases hs with hs | hs <;> simp_all [Mode.sweeps], h.returns⟩

theorem State.stopped_kept : Kept State.Stopped (fun _ => True) fun _ => True :=
  .of_base State.stopped_keptBase fun _ _ _ h => ⟨h.stopped, h.returns⟩

/-- The drive budget's law, with the modes in which nothing is driven. -/
def State.DriveSound (s : State) : Prop := s.Budgeted ∧ s.Stopped

theorem State.driveSound_kept : Kept State.DriveSound (fun _ => True ∧ True) fun _ => True ∧ True := State.budgeted_kept.and State.stopped_kept

/-- A mode entered keeps the stop: LOADING is not entered, and HALT cuts every drive and flushes the queue. -/
theorem State.Stopped.enterMode (h : s.Stopped) {m : Mode} {r : Option Mode} (c : ModeCause) (he : s.Enters m r) :
    (s.enterMode m r c).Stopped where
  stopped hm := by
    simp only [State.enterMode_ctl] at hm
    rcases hm with rfl | rfl
    · exfalso
      have hb := he.loading rfl
      unfold ModeController.back at hb
      cases hr : s.ctl.remembered with
      | none => simp [hr] at hb
      | some x =>
        have := h.returns x hr
        simp only [hr, Option.getD_some] at hb
        rw [hb] at this
        exact Bool.noConfusion this
    · exact ⟨by simp [State.enterMode_sched, Mode.flushes], fun b => (State.enterMode_halt_coils r c b).1⟩
  returns x hx := by
    simp only [State.enterMode_ctl] at hx
    exact (he.remembers x hx).elim id (h.returns x)

theorem State.loadArea_drive (a : StoredArea) (b : BellNo) : ((s.loadArea a).bell b).drive = (s.bell b).drive ∧
    ((s.loadArea a).bell b).hammer = (s.bell b).hammer := by
  rw [State.loadArea_bell]; exact ⟨rfl, rfl⟩

theorem State.DriveSound.loadArea (h : s.DriveSound) (hm : s.ctl.mode = .loading) (a : StoredArea) : (s.loadArea a).DriveSound := by
  obtain ⟨hq, hd⟩ := h.2.stopped (.inl hm)
  have hz := h.1.inUse_zero hd
  have hn (b : BellNo) : ((s.loadArea a).bell b).drive = none := (State.loadArea_drive a b).1.trans (hd b)
  refine ⟨⟨fun b => ?_, ?_, ?_⟩, fun _ => ⟨hq, hn⟩, h.2.returns⟩
  · rw [(State.loadArea_drive a b).1, (State.loadArea_drive a b).2]; exact h.1.recorded b
  · have : (s.loadArea a).drive.inUse = 0 := hz
    rw [this]
    symm
    refine List.sum_eq_zero fun n hn' => ?_
    obtain ⟨r, hr, rfl⟩ := List.mem_map.mp hn'
    obtain ⟨i, hi, rfl⟩ := List.mem_iff_getElem.mp hr
    have := hn ⟨i, by simpa using hi⟩
    simp only [State.bell, Fin.getElem_fin] at this
    simp [Bell.heldClass, this]
  · have : (s.loadArea a).drive.inUse = 0 := hz
    rw [this]; exact Nat.zero_le _

theorem State.reset_driveSound : State.reset.DriveSound := by
  have hb (b : BellNo) : State.reset.bell b = Bell.start := by simp [State.bell, State.reset]
  refine ⟨⟨fun b => ?_, by decide +kernel, by decide⟩, fun _ => ⟨rfl, fun b => ?_⟩, fun _ hm => by cases hm⟩
  · rw [hb]; decide
  · rw [hb]; rfl

theorem State.driveSound_sound : Sound State.DriveSound (fun _ => True ∧ True) fun _ => True ∧ True where
  toKept := State.driveSound_kept
  linked s t hl h := by
    rw [hl.rest]
    exact ⟨⟨h.1.recorded, h.1.summed, h.1.bounded⟩, h.2.stopped, h.2.returns⟩
  start _ _ _ _ _ := by
    have h := State.reset_driveSound
    exact ⟨⟨h.1.recorded, h.1.summed, h.1.bounded⟩, h.2.stopped, h.2.returns⟩
  entered s m r c he h :=
    ⟨State.budgeted_kept.enterMode (fun _ _ h => ⟨h.recorded, h.summed, h.bounded⟩) h.1 m r c, h.2.enterMode c he⟩
  steered s c hc hr h :=
    ⟨⟨h.1.recorded, h.1.summed, h.1.bounded⟩, fun hm => h.2.stopped (by rw [← hc]; exact hm), fun x hx => (hr x hx).elim id (h.2.returns x)⟩
  area _ a hm _ h := h.loadArea hm a
  tunes _ _ _ h := ⟨⟨h.1.recorded, h.1.summed, h.1.bounded⟩, h.2.stopped, h.2.returns⟩
  budget s g d hd hg h := by
    refine ⟨⟨h.1.recorded, hd.trans h.1.summed, ?_⟩, h.2.stopped, h.2.returns⟩
    show d.inUse ≤ g.driveBudget
    rw [hd]
    rcases hg with hg | hc
    · rw [hg]; exact h.1.bounded
    · rw [h.1.inUse_zero (h.1.drives_none hc)]; exact Nat.zero_le _
  pended _ b _ _ h := ⟨h.1.modBell b Iff.rfl rfl, h.2.modBell b id⟩
  cooled _ b h := State.driveSound_kept.coolBell (fun _ b _ h => ⟨h.1.modBell b Iff.rfl rfl, h.2.modBell b id⟩) h b

/-- Settles O7: the law of the modes gives that only working modes are remembered, so that LOADING is never returned to. -/
theorem stepKeepsTheDriveBudget : Obligations.StepKeepsTheDriveBudget := by
  intro s t hm hd hs
  have h : s.DriveSound := ⟨⟨hd.recorded, hd.summed, hd.bounded⟩, hd.stopped, hm.returns⟩
  obtain ⟨h1, h2⟩ := State.driveSound_sound.step
    (fun _ _ _ h => ⟨⟨h.1.recorded, h.1.summed, h.1.bounded⟩, h.2.stopped, h.2.returns⟩) h hs
  exact ⟨h1.recorded, h1.summed, h1.bounded, h2.stopped⟩

end Sys2Proof.Machine

/-! ### Proofs: the plays kept, their order and their ids (R140, R143, R152) -/

namespace Sys2Proof.Machine

open Sys2Proof

variable {s t : State}

/-- What tells plays from one another. -/
def Play.key (q : Play) : Nat × Nat := (q.id, q.launchSeq)

/-- The other player's plays and those that wait. -/
def State.othersOf (s : State) (p : PlayerNo) : List Play :=
  let x := match p with | .p0 => s.player .p1 | .p1 => s.player .p0
  x.play.toList ++ x.incoming.toList ++ s.engine.waiting

theorem State.playRecords_perm (p : PlayerNo) :
    s.playRecords.Perm ((s.player p).play.toList ++ (s.player p).incoming.toList ++ s.othersOf p) := by
  cases p with
  | p0 => simp [State.playRecords, State.othersOf, State.player, PlayEngine.player]
  | p1 =>
    simp only [State.playRecords, State.othersOf, State.player, PlayEngine.player, ← List.append_assoc]
    refine List.Perm.append_right _ ?_
    simp only [List.append_assoc]
    exact (List.perm_append_comm (l₁ := s.engine.player0.play.toList ++ s.engine.player0.incoming.toList)
      (l₂ := s.engine.player1.play.toList ++ s.engine.player1.incoming.toList)) |>.trans (by simp) |> (by simpa using ·)

theorem State.othersOf_setPlayer (p : PlayerNo) (x : Player) : (s.setPlayer p x).othersOf p = s.othersOf p := by
  cases p <;> rfl

@[simp] theorem PlayEngine.setPlayer_waiting (e : PlayEngine) (p : PlayerNo) (x : Player) : (e.setPlayer p x).waiting = e.waiting := by
  cases p <;> rfl

@[simp] theorem PlayEngine.setPlayer_nextLaunch (e : PlayEngine) (p : PlayerNo) (x : Player) :
    (e.setPlayer p x).nextLaunch = e.nextLaunch := by
  cases p <;> rfl

/-- The plays of `t` are some of those of `s`, perhaps with other counts, in the same order, under the same Mode Controller. -/
structure State.PlaysFewer (s t : State) : Prop where
  records : (t.playRecords.map Play.key).Subperm (s.playRecords.map Play.key)
  waiting : ∃ g, Counts g ∧ t.engine.waiting.Sublist (s.engine.waiting.map g)
  launch : s.engine.nextLaunch ≤ t.engine.nextLaunch
  ctl : t.ctl = s.ctl

namespace State.PlaysFewer

theorem of_engine (h : t.engine = s.engine) (hc : t.ctl = s.ctl) : s.PlaysFewer t :=
  ⟨by rw [show t.playRecords = s.playRecords by simp [State.playRecords, h]], ⟨id, Counts.id_, by simp [h]⟩, by rw [h], hc⟩

theorem setPlayer (p : PlayerNo) {x : Player} (h : ((x.play.toList ++ x.incoming.toList).map Play.key).Subperm
    (((s.player p).play.toList ++ (s.player p).incoming.toList).map Play.key)) : s.PlaysFewer (s.setPlayer p x) where
  records := by
    have h1 := (s.playRecords_perm p).map Play.key
    have h2 := ((s.setPlayer p x).playRecords_perm p).map Play.key
    rw [State.setPlayer_player_self, State.othersOf_setPlayer] at h2
    rw [List.map_append] at h1 h2
    exact h2.subperm.trans (((List.subperm_append_right _).mpr h).trans h1.symm.subperm)
  waiting := ⟨id, Counts.id_, by simp⟩
  launch := by simp
  ctl := rfl

theorem trans {u : State} (h : s.PlaysFewer t) (k : t.PlaysFewer u) : s.PlaysFewer u := by
  obtain ⟨f, hf, hw⟩ := h.waiting
  obtain ⟨g, hg, kw⟩ := k.waiting
  refine ⟨k.records.trans h.records, ⟨fun q => g (f q), hg.comp hf, kw.trans ?_⟩, h.launch.trans k.launch, k.ctl.trans h.ctl⟩
  simpa [Function.comp_def] using hw.map g

end State.PlaysFewer

theorem Counts.key {f : Play → Play} (h : Counts f) (q : Play) : (f q).key = q.key := by
  simp [Play.key, h.id, h.launchSeq]

theorem Counts.before {f : Play → Play} (h : Counts f) (a b : Play) : (f a).before (f b) = a.before b := by
  simp [Play.before, h.due, h.priority, h.launchSeq]

theorem PlayEngine.Alike.fewer (h : s.engine.Alike t.engine) (hc : t.ctl = s.ctl) : s.PlaysFewer t := by
  obtain ⟨g, hg, he⟩ := h
  refine ⟨?_, ⟨g, hg, by rw [he]⟩, by rw [he], hc⟩
  have hrec : t.playRecords = s.playRecords.map g := by
    simp [State.playRecords, he, Option.toList_map]
  rw [hrec, List.map_map]
  refine List.Perm.subperm (.of_eq (List.map_congr_left fun q _ => ?_))
  exact hg.key q

theorem State.PlaysFewer.dropped {w : List Play} (h : w.Sublist s.engine.waiting) : s.PlaysFewer (s.setWaiting w) where
  records := ((List.Sublist.append_left h _).map Play.key).subperm
  waiting := ⟨id, Counts.id_, by simpa using h⟩
  launch := Nat.le_refl _
  ctl := rfl

theorem State.PlaysFewer.begun {p : PlayerNo} {q : Play} (hp : (s.player p).play = none) (hq : (s.player p).incoming = some q) :
    s.PlaysFewer (s.startPlay p q) := by
  have placed (u : State) (hu : u.engine = s.engine) (hc : u.ctl = s.ctl) (x : Player)
      (hx : ((x.play.toList ++ x.incoming.toList).map Play.key).Subperm [q.key]) : s.PlaysFewer (u.setPlayer p x) := by
    have he : ∀ p, u.player p = s.player p := fun p => by simp [State.player, hu]
    refine (State.PlaysFewer.of_engine hu hc).trans (State.PlaysFewer.setPlayer p ?_)
    rw [he, hp, hq]
    exact hx
  unfold State.startPlay
  dsimp only
  repeat' split
  · refine placed s rfl rfl _ ?_
    exact List.Subperm.refl _
  · refine placed (s.modTunes _) rfl rfl _ ?_
    exact List.Subperm.refl _
  · exact (placed s rfl rfl Player.free (List.nil_subperm)).trans (.of_engine (by simp) (by simp))

theorem State.PlaysFewer.promoted {p : PlayerNo} {q : Play} {rest : List Play} (hp : (s.player p).isFree = true) (hw : s.engine.waiting = q :: rest) :
    s.PlaysFewer ((s.setWaiting rest).setPlayer p { play := none, incoming := some q }) where
  records := by
    obtain ⟨h1, h2⟩ := Player.isFree_iff.mp hp
    have hs := s.playRecords_perm p
    have ht := ((s.setWaiting rest).setPlayer p { play := none, incoming := some q }).playRecords_perm p
    rw [h1, h2] at hs
    rw [State.setPlayer_player_self, State.othersOf_setPlayer] at ht
    refine ((ht.trans ?_).map Play.key).subperm.trans (hs.symm.map Play.key).subperm
    have ho : s.othersOf p = (match p with | .p0 => s.player .p1 | .p1 => s.player .p0).play.toList ++
        (match p with | .p0 => s.player .p1 | .p1 => s.player .p0).incoming.toList ++ q :: rest := by rw [← hw]; rfl
    have ho' : (s.setWaiting rest).othersOf p = (match p with | .p0 => s.player .p1 | .p1 => s.player .p0).play.toList ++
        (match p with | .p0 => s.player .p1 | .p1 => s.player .p0).incoming.toList ++ rest := by cases p <;> rfl
    rw [ho, ho']
    simp only [Option.toList_none, Option.toList_some, List.nil_append, List.cons_append]
    exact List.perm_middle.symm
  waiting := ⟨id, Counts.id_, by
    have : ((s.setWaiting rest).setPlayer p { play := none, incoming := some q }).engine.waiting = rest := by cases p <;> rfl
    rw [this, hw, List.map_id]; exact List.sublist_cons_self _ _⟩
  launch := by simp
  ctl := rfl

/-- A predicate on the plays kept, kept when plays are fewer and when one is launched. -/
theorem Kept.of_plays {P : State → Prop} (fewer : ∀ s t, s.PlaysFewer t → P s → P t)
    (arrived : ∀ s p q, (s.player p).incoming = none → s.ctl.mode = .active → Launched P s q → P s →
      P (s.setPlayer p { s.player p with incoming := some q }))
    (waits : ∀ s q, s.ctl.mode = .active → Launched P s q →
      (s.engine.waiting.length < Config.waitingCap ∨ ∃ s₀, P s₀ ∧ s.engine.waiting.length < s₀.engine.waiting.length) → P s →
      P (s.setWaiting (placePlay q s.engine.waiting))) : Kept P (fun _ => True) fun _ => True where
  toKeptBase := .of_engine (fun s t h he _ hc => fewer s t (.of_engine he hc) h) fun s i f hf h =>
    fewer s _ (((PlayEngine.Alike.refl s.engine).modPlay hf i).fewer (by simp)) h
  unstarted _ _ _ _ := trivial
  fresh _ _ := trivial
  freed s q _ h := fewer s _ (.of_engine (by simp) (by simp)) h
  left s p q hq h := by
    have hs : s.PlaysFewer (s.setPlayer p { s.player p with play := none }) :=
      .setPlayer p ((List.sublist_append_right (s.player p).play.toList (s.player p).incoming.toList).map Play.key).subperm
    exact fewer s _ (hs.trans (.of_engine (by simp) (by simp))) h
  dismissed s p h := fewer s _ (.setPlayer p ((List.Sublist.map Play.key (by simp)).subperm)) h
  dropped s w hw h := fewer s _ (.dropped hw) h
  drained s p q hq h := fewer s _ (.setPlayer p (List.Perm.of_eq (by simp [hq, Play.key])).subperm) h
  begun s p q hp hq h := fewer s _ (.begun hp hq) h
  promoted s p q rest hp hw _ h := fewer s _ (.promoted hp hw) h
  numbered s i h := fewer s _ ⟨.refl _, ⟨id, Counts.id_, by simp⟩, Nat.le_succ _, rfl⟩ h
  arrived := arrived
  waits := waits

/-! #### The order of the waiting plays -/

theorem Play.before_total (a b : Play) : a.before b = true ∨ b.before a = true := by
  simp only [Play.before, Bool.or_eq_true, Bool.and_eq_true, decide_eq_true_eq]
  omega

theorem Play.before_trans {a b c : Play} (h : a.before b = true) (k : b.before c = true) : a.before c = true := by
  simp only [Play.before, Bool.or_eq_true, Bool.and_eq_true, decide_eq_true_eq] at *
  omega

/-- A play placed keeps the order of those that wait. -/
theorem placePlay_ordered {q : Play} : ∀ {w : List Play}, (w.Pairwise fun a b => a.before b = true) →
    (placePlay q w).Pairwise fun a b => a.before b = true
  | [], _ => List.pairwise_singleton _ _
  | x :: rest, h => by
    obtain ⟨hx, hr⟩ := List.pairwise_cons.mp h
    unfold placePlay
    split
    · next hq =>
      refine List.pairwise_cons.mpr ⟨fun y hy => ?_, h⟩
      rcases List.mem_cons.mp hy with rfl | hy
      · exact hq
      · exact Play.before_trans hq (hx y hy)
    · next hq =>
      refine List.pairwise_cons.mpr ⟨fun y hy => ?_, placePlay_ordered hr⟩
      rcases List.mem_cons.mp ((placePlay_perm q rest).mem_iff.mp hy) with rfl | hy
      · exact (Play.before_total x y).resolve_right hq
      · exact hx y hy

theorem State.playRecords_arrived {p : PlayerNo} (hp : (s.player p).incoming = none) (q : Play) :
    (s.setPlayer p { s.player p with incoming := some q }).playRecords.Perm (q :: s.playRecords) := by
  have h1 := s.playRecords_perm p
  have h2 := (s.setPlayer p { s.player p with incoming := some q }).playRecords_perm p
  rw [State.setPlayer_player_self, State.othersOf_setPlayer] at h2
  rw [hp] at h1
  refine h2.trans (List.Perm.trans ?_ (h1.symm.cons q))
  simp

theorem State.playRecords_waits (q : Play) : (s.setWaiting (placePlay q s.engine.waiting)).playRecords.Perm (q :: s.playRecords) := by
  refine ((placePlay_perm q s.engine.waiting).append_left _).trans ?_
  exact List.perm_middle

/-- The plays' law apart from the mode. -/
structure State.PlaysOrdered (s : State) : Prop where
  bounded : s.engine.waiting.length ≤ Config.waitingCap
  ordered : s.engine.waiting.Pairwise fun a b => a.before b = true
  launched : ∀ q ∈ s.playRecords, q.launchSeq < s.engine.nextLaunch

theorem State.PlaysOrdered.fewer (h : s.PlaysOrdered) (f : s.PlaysFewer t) : t.PlaysOrdered := by
  obtain ⟨g, hg, hw⟩ := f.waiting
  refine ⟨?_, ?_, fun q hq => ?_⟩
  · exact Nat.le_trans (by simpa using hw.length_le) h.bounded
  · refine List.Pairwise.sublist hw (List.pairwise_map.mpr (h.ordered.imp fun hb => ?_))
    rwa [hg.before]
  · obtain ⟨r, hr, hk⟩ := List.mem_map.mp (f.records.subset (List.mem_map_of_mem hq))
    have hl : r.launchSeq = q.launchSeq := congrArg Prod.snd hk
    exact Nat.lt_of_lt_of_le (hl ▸ h.launched r hr) f.launch

theorem Launched.launchSeq {P : State → Prop} {q : Play} (h : Launched P s q) : q.launchSeq < s.engine.nextLaunch := by
  obtain ⟨s₀, l, st, -, -, hn, rfl, -⟩ := h
  rw [hn]; exact Nat.lt_succ_self _

theorem State.playsOrdered_kept : Kept State.PlaysOrdered (fun _ => True) fun _ => True :=
  .of_plays (fun _ _ f h => h.fewer f)
    (fun s p q hp _ hq h => ⟨by simpa using h.bounded, by simpa using h.ordered, fun r hr => by
      rcases List.mem_cons.mp ((State.playRecords_arrived hp q).mem_iff.mp hr) with rfl | hr
      · simpa using hq.launchSeq
      · simpa using h.launched r hr⟩)
    (fun s q _ hq hw h => by
      refine ⟨?_, placePlay_ordered h.ordered, fun r hr => ?_⟩
      · have hl : (placePlay q s.engine.waiting).length = s.engine.waiting.length + 1 := (placePlay_perm q s.engine.waiting).length_eq
        show (placePlay q s.engine.waiting).length ≤ _
        rw [hl]
        rcases hw with hw | ⟨s₀, h₀, hw⟩
        · exact hw
        · exact Nat.le_trans hw h₀.bounded
      · rcases List.mem_cons.mp ((State.playRecords_waits q).mem_iff.mp hr) with rfl | hr
        · exact hq.launchSeq
        · exact h.launched r hr)

/-- No play outside ACTIVE. -/
def State.PlaysActive (s : State) : Prop := s.ctl.mode ≠ .active → s.playRecords = []

theorem State.PlaysActive.fewer (h : s.PlaysActive) (f : s.PlaysFewer t) : t.PlaysActive := fun hm => by
  have hs := h (by rw [← f.ctl]; exact hm)
  have := f.records.length_le
  simpa [hs] using this

theorem State.playsActive_kept : Kept State.PlaysActive (fun _ => True) fun _ => True :=
  .of_plays (fun _ _ f h => h.fewer f) (fun _ _ _ _ hm _ _ hn => absurd hm hn) (fun _ _ hm _ _ _ hn => absurd hm hn)

theorem State.PlaysActive.enterMode (h : s.PlaysActive) {m : Mode} {r : Option Mode} (c : ModeCause) (he : s.Enters m r) :
    (s.enterMode m r c).PlaysActive := by
  intro hm
  simp only [State.enterMode_ctl] at hm
  by_cases hf : m.flushes = true
  · exact State.enterMode_playRecords hf r c
  · have hc : m = .commission := by cases m <;> simp_all [Mode.flushes]
    have hs := h (he.commission hc)
    have := (State.enterMode_kept (s := s) (Bool.eq_false_iff.mpr hf) r c).1
    simpa [State.playRecords, this] using hs

/-- A predicate on the plays kept and the mode, kept by every change of mode, is kept by every step. -/
theorem Sound.of_plays {P : State → Prop} (k : Kept P (fun _ => True) fun _ => True) (fewer : ∀ s t, s.PlaysFewer t → P s → P t)
    (start : ∀ t : State, t.playRecords = [] → t.engine = PlayEngine.start → P t) (entered : ∀ s m r c, s.Enters m r → P s → P (s.enterMode m r c))
    (steered : ∀ s c, c.mode = s.ctl.mode → P s → P (s.setCtl c)) : Sound P (fun _ => True) fun _ => True where
  toKept := k
  linked s t hl h := fewer s t (by rw [hl.rest]; exact .of_engine rfl rfl) h
  start _ _ _ _ _ := start _ rfl rfl
  entered := entered
  steered s c hc _ h := steered s c hc h
  area s a _ _ h := fewer (s.setCtl { s.ctl with commissioned := a.commissioned }) _ (.of_engine rfl rfl) (steered s _ rfl h)
  tunes s x _ h := fewer s _ (.of_engine rfl rfl) h
  budget s g d _ _ h := fewer s _ (.of_engine rfl rfl) h
  pended s b p _ h := fewer s _ (.of_engine rfl rfl) h
  cooled s b h := k.coolBell (fun s b n h => fewer s _ (.of_engine rfl rfl) h) h b

theorem State.playsOrdered_sound : Sound State.PlaysOrdered (fun _ => True) fun _ => True :=
  .of_plays State.playsOrdered_kept (fun _ _ f h => h.fewer f)
    (fun t ht he => ⟨by rw [he]; exact Nat.zero_le _, by rw [he]; exact .nil, fun q hq => by simp [ht] at hq⟩)
    (fun s m r c _ h => State.playsOrdered_kept.enterMode (fun _ _ h => ⟨h.bounded, h.ordered, h.launched⟩) h m r c)
    fun _ _ _ h => ⟨h.bounded, h.ordered, h.launched⟩

theorem State.playsActive_sound : Sound State.PlaysActive (fun _ => True) fun _ => True :=
  .of_plays State.playsActive_kept (fun _ _ f h => h.fewer f) (fun _ ht _ _ => ht) (fun _ _ _ c he h => h.enterMode c he)
    fun _ _ hc h hm => h (by rw [← hc]; exact hm)

/-- Settles O9. -/
theorem stepKeepsThePlays : Obligations.StepKeepsThePlays := by
  intro s t h hs
  obtain ⟨h1, h2, h3⟩ := State.playsOrdered_sound.step (fun _ _ _ h => ⟨h.bounded, h.ordered, h.launched⟩)
    ⟨h.bounded, h.ordered, h.launched⟩ hs
  exact ⟨h1, h2, h3, State.playsActive_sound.step (fun _ _ _ h => h) h.active hs⟩

end Sys2Proof.Machine

/-! ### Proofs: play ids are distinct (R140)

At most twelve records are kept and at most 48 drives name a play, so of the 255 ids one is free. -/

namespace Sys2Proof.Machine

open Sys2Proof

variable {s t : State}

/-- The id of the play whose note the bell's coil strikes. -/
def Bell.drivenFor (r : Bell) : Option Nat :=
  r.drive.bind fun d => match d.kind with | .strike _ _ _ id => some id | .testPulse => none

/-- The ids in use. -/
def State.takenIds (s : State) : List Nat := s.playRecords.map (·.id) ++ s.bells.toList.filterMap Bell.drivenFor

theorem State.idTaken_iff (i : Nat) : s.idTaken i = true ↔ i ∈ s.takenIds := by
  have drive (r : Bell) : (match r.drive with
      | some d => (match d.kind with | .strike _ _ _ id => decide (id = i) | .testPulse => false)
      | none => false) = true ↔ r.drivenFor = some i := by
    unfold Bell.drivenFor
    cases r.drive with
    | none => simp
    | some d => cases hk : d.kind <;> simp [hk]
  simp only [State.idTaken, State.takenIds, Bool.or_eq_true, List.any_eq_true, decide_eq_true_eq, List.mem_append, List.mem_map,
    List.mem_filterMap]
  exact or_congr Iff.rfl (exists_congr fun r => and_congr_right fun _ => drive r)

theorem State.takenIds_length (h : s.engine.waiting.length ≤ Config.waitingCap) : s.takenIds.length ≤ 60 := by
  have ho (o : Option Play) : o.toList.length ≤ 1 := by cases o <;> simp
  have hb : (s.bells.toList.filterMap Bell.drivenFor).length ≤ 48 := (List.length_filterMap_le _ _).trans (by simp)
  have hw : s.engine.waiting.length ≤ 8 := h
  have := ho s.engine.player0.play
  have := ho s.engine.player0.incoming
  have := ho s.engine.player1.play
  have := ho s.engine.player1.incoming
  simp only [State.takenIds, State.playRecords, List.length_append, List.length_map]
  omega

/-- The ids met on the way round from i. -/
def idsFrom (i : Nat) : Nat → List Nat
  | 0 => []
  | n + 1 => i :: idsFrom (i % 255 + 1) n

/-- The search ends at a free id, or every id it met is taken. -/
theorem State.freeIdFrom_free : ∀ (n i : Nat), s.idTaken (s.freeIdFrom n i) = false ∨ ∀ j ∈ idsFrom i n, s.idTaken j = true
  | 0, i => .inr (by simp [idsFrom])
  | n + 1, i => by
    unfold State.freeIdFrom
    split
    · next h =>
      refine (State.freeIdFrom_free n (i % 255 + 1)).imp_right fun hn j hj => ?_
      rcases List.mem_cons.mp hj with rfl | hj
      · exact h
      · exact hn j hj
    · next h => exact .inl (by simpa using h)

theorem State.freeIdFrom_range : ∀ (n i : Nat), 1 ≤ i → i ≤ 255 → 1 ≤ s.freeIdFrom n i ∧ s.freeIdFrom n i ≤ 255
  | 0, i, h1, h2 => ⟨h1, h2⟩
  | n + 1, i, h1, h2 => by
    unfold State.freeIdFrom
    split
    · exact State.freeIdFrom_range n _ (by omega) (by omega)
    · exact ⟨h1, h2⟩

/-- The k-th id met from i. -/
theorem getElem_idsFrom : ∀ (n i k : Nat) (h : k < (idsFrom i n).length), 1 ≤ i → i ≤ 255 → (idsFrom i n)[k] = (i - 1 + k) % 255 + 1
  | n + 1, i, 0, _, h1, h2 => by simp only [idsFrom, List.getElem_cons_zero]; omega
  | n + 1, i, k + 1, h, h1, h2 => by
    simp only [idsFrom, List.getElem_cons_succ]
    rw [getElem_idsFrom n _ k (by simpa [idsFrom] using h) (by omega) (by omega)]
    omega

theorem length_idsFrom : ∀ (i n : Nat), (idsFrom i n).length = n
  | _, 0 => rfl
  | i, n + 1 => by simp [idsFrom, length_idsFrom]

/-- Once round, all ids are met once. -/
theorem idsFrom_nodup {i : Nat} (h1 : 1 ≤ i) (h2 : i ≤ 255) : (idsFrom i 255).Nodup := by
  rw [List.nodup_iff_injective_get]
  intro a b hab
  simp only [List.get_eq_getElem] at hab
  rw [getElem_idsFrom _ _ _ a.isLt h1 h2, getElem_idsFrom _ _ _ b.isLt h1 h2] at hab
  have ha : a.val < 255 := by simpa [length_idsFrom] using a.isLt
  have hb : b.val < 255 := by simpa [length_idsFrom] using b.isLt
  exact Fin.ext (by omega)

/-- The next id is free, and one of the 255. -/
theorem State.nextId_free (h : s.engine.waiting.length ≤ Config.waitingCap) : s.nextId ∉ s.takenIds := by
  have hr : 1 ≤ s.engine.lastId % 255 + 1 ∧ s.engine.lastId % 255 + 1 ≤ 255 := by omega
  rcases State.freeIdFrom_free (s := s) 255 (s.engine.lastId % 255 + 1) with hf | hall
  · rw [← State.idTaken_iff, State.nextId, hf]; decide
  · exfalso
    have hsub : idsFrom (s.engine.lastId % 255 + 1) 255 ⊆ s.takenIds := fun j hj => State.idTaken_iff j |>.mp (hall j hj)
    have hl := ((idsFrom_nodup hr.1 hr.2).subperm hsub).length_le
    rw [length_idsFrom] at hl
    have := State.takenIds_length h
    omega

theorem State.nextId_range : 1 ≤ s.nextId ∧ s.nextId ≤ 255 := State.freeIdFrom_range _ _ (by omega) (by omega)

/-- The plays kept have ids of their own, 1 to 255, and at most eight wait. -/
structure State.IdsDistinct (s : State) : Prop where
  bounded : s.engine.waiting.length ≤ Config.waitingCap
  distinct : (s.playRecords.map (·.id)).Nodup
  range : ∀ q ∈ s.playRecords, 1 ≤ q.id ∧ q.id ≤ 255

theorem State.PlaysFewer.ids (f : s.PlaysFewer t) : (t.playRecords.map (·.id)).Subperm (s.playRecords.map (·.id)) := by
  obtain ⟨l, hl, hs⟩ := f.records
  refine ⟨l.map Prod.fst, ?_, ?_⟩
  · simpa [Play.key, Function.comp_def] using hl.map Prod.fst
  · simpa [Play.key, Function.comp_def] using hs.map Prod.fst

theorem State.IdsDistinct.fewer (h : s.IdsDistinct) (f : s.PlaysFewer t) : t.IdsDistinct := by
  obtain ⟨g, hg, hw⟩ := f.waiting
  refine ⟨Nat.le_trans (by simpa using hw.length_le) h.bounded, ?_, fun q hq => ?_⟩
  · obtain ⟨l, hl, hs⟩ := f.ids
    exact hl.nodup_iff.mp (h.distinct.sublist hs)
  · obtain ⟨r, hr, hk⟩ := List.mem_map.mp (f.ids.subset (List.mem_map_of_mem hq))
    have := h.range r hr
    rwa [hk] at this

theorem Launched.id_fresh {q : Play} (h : Launched State.IdsDistinct s q) : (q.id ∉ s.playRecords.map (·.id)) ∧ 1 ≤ q.id ∧ q.id ≤ 255 := by
  obtain ⟨s₀, l, st, h₀, hids, -, rfl, -⟩ := h
  refine ⟨fun hq => ?_, s₀.nextId_range⟩
  obtain ⟨r, hr, hk⟩ := List.mem_map.mp hq
  obtain ⟨r₀, hr₀, hk₀⟩ := hids r hr
  exact s₀.nextId_free h₀.bounded (List.mem_append_left _ (List.mem_map.mpr ⟨r₀, hr₀, hk₀.trans hk⟩))

/-- One more play, launched a moment ago. -/
theorem State.IdsDistinct.launched {q : Play} (h : s.IdsDistinct) (hq : Launched State.IdsDistinct s q)
    (hb : t.engine.waiting.length ≤ Config.waitingCap) (hp : t.playRecords.Perm (q :: s.playRecords)) : t.IdsDistinct := by
  obtain ⟨hn, hr⟩ := hq.id_fresh
  refine ⟨hb, ?_, fun r hr' => ?_⟩
  · refine (hp.map (·.id)).nodup_iff.mpr ?_
    exact List.nodup_cons.mpr ⟨hn, h.distinct⟩
  · rcases List.mem_cons.mp (hp.mem_iff.mp hr') with rfl | hr'
    · exact hr
    · exact h.range r hr'

theorem State.idsDistinct_kept : Kept State.IdsDistinct (fun _ => True) fun _ => True :=
  .of_plays (fun _ _ f h => h.fewer f)
    (fun s p q hp _ hq h => h.launched hq (by simpa using h.bounded) (State.playRecords_arrived hp q))
    (fun s q _ hq hw h => by
      refine h.launched hq ?_ (State.playRecords_waits q)
      have hl : (placePlay q s.engine.waiting).length = s.engine.waiting.length + 1 := (placePlay_perm q s.engine.waiting).length_eq
      show (placePlay q s.engine.waiting).length ≤ _
      rw [hl]
      rcases hw with hw | ⟨s₀, h₀, hw⟩
      · exact hw
      · exact Nat.le_trans hw h₀.bounded)

theorem State.idsDistinct_sound : Sound State.IdsDistinct (fun _ => True) fun _ => True :=
  .of_plays State.idsDistinct_kept (fun _ _ f h => h.fewer f)
    (fun t ht he => ⟨by rw [he]; exact Nat.zero_le _, by simp [ht], fun q hq => by simp [ht] at hq⟩)
    (fun s m r c _ h => State.idsDistinct_kept.enterMode (fun _ _ h => ⟨h.bounded, h.distinct, h.range⟩) h m r c)
    fun _ _ _ h => ⟨h.bounded, h.distinct, h.range⟩

/-- Settles O10. -/
theorem stepKeepsThePlayIds : Obligations.StepKeepsThePlayIds := by
  intro s t hp hi hs
  obtain ⟨-, h2, h3⟩ := State.idsDistinct_sound.step (fun _ _ _ h => ⟨h.bounded, h.distinct, h.range⟩)
    ⟨hp.bounded, hi.distinct, hi.range⟩ hs
  exact ⟨h2, h3⟩

end Sys2Proof.Machine

/-! ### Proofs: no block of the event pool is held twice (R99), and the staged upload keeps its law (R97, R100 to R102) -/

namespace Sys2Proof.Machine

open Sys2Proof

variable {s t : State}

/-! #### The versions of a tune after each change of the Tune Store -/

namespace TuneStore

variable (x : TuneStore) {i j : Fin 96}

theorem versionsOf_setVersions (c : Option Version) (l : List Version) :
    (x.setVersions i c l).versionsOf j = if j = i then c.toList ++ l else x.versionsOf j := by
  split
  · next h => subst h; rw [versionsOf, setVersions_self, setVersions_retiringOf]
  · next h => simp [versionsOf, setVersions_other x h, setVersions_retiringOf_other x h]

theorem take_retiringOf : (x.take i).retiringOf j = x.retiringOf j := by
  unfold take retiringOf
  congr 1
  by_cases h : i = j
  · subst h; simp
  · have : (i : Nat) ≠ j := fun k => h (Fin.ext k)
    simp [this]

theorem take_current : (x.take i).slots[j].current =
    if j = i then x.slots[i].current.map fun v => { v with users := v.users + 1 } else x.slots[j].current := by
  split
  · next h => subst h; simp [take]
  · next h =>
    have : (i : Nat) ≠ j := fun k => h (Fin.ext k.symm)
    simp [take, this]

theorem retire_versionsOf : (x.retire i).versionsOf j =
    if j = i then (x.slots[i].current.toList.filter fun v => decide (0 < v.users)) ++ x.retiringOf i else x.versionsOf j := by
  unfold retire
  rw [versionsOf_setVersions]
  simp

@[simp] theorem take_staging : (x.take i).staging = x.staging := rfl
@[simp] theorem release_staging (n : Nat) : (x.release i n).staging = x.staging := rfl
@[simp] theorem retire_staging : (x.retire i).staging = x.staging := rfl

end TuneStore

/-- A predicate on the Tune Store, kept by takes and releases. -/
theorem Kept.of_tunes {P : State → Prop} (congr : ∀ s t : State, P s → t.tunes = s.tunes → P t) (take : ∀ s i, P s → P (s.modTunes (·.take i)))
    (release : ∀ s i n, P s → P (s.modTunes (·.release i n))) : Kept P (fun _ => True) fun _ => True where
  toKeptBase := .of_engine (fun _ _ h _ ht _ => congr _ _ h ht) fun _ _ _ _ h => congr _ _ h (by simp)
  unstarted _ _ _ _ := trivial
  fresh _ _ := trivial
  freed s q _ h := by unfold State.releaseVersion; split; exacts [release _ _ _ h, h]
  left s p q _ h := by
    have hs : P (s.setPlayer p { s.player p with play := none }) := congr _ _ h rfl
    unfold State.releaseVersion; split; exacts [release _ _ _ hs, hs]
  dismissed _ _ h := congr _ _ h rfl
  dropped _ _ _ h := congr _ _ h rfl
  drained _ _ _ _ h := congr _ _ h rfl
  begun s p q _ _ h := by
    have hs : P (s.setPlayer p Player.free) := congr _ _ h rfl
    unfold State.startPlay
    dsimp only
    repeat' split
    · exact congr _ _ h rfl
    · exact congr _ _ (take s _ h) rfl
    · refine congr _ _ ?_ (State.report_frame _ _).2.2.2.2.2.2.2.2.2.2.2.2.1
      unfold State.releaseVersion; split; exacts [release _ _ _ hs, hs]
  promoted _ _ _ _ _ _ _ h := congr _ _ h rfl
  numbered _ _ h := congr _ _ h rfl
  arrived _ _ _ _ _ _ h := congr _ _ h rfl
  waits _ _ _ _ _ h := congr _ _ h rfl

theorem Sound.of_tunes {P : State → Prop} (k : Kept P (fun _ => True) fun _ => True) (congr : ∀ s t : State, P s → t.tunes = s.tunes → P t)
    (moves : ∀ s x, s.TunesMove x → P s → P { s with tunes := x }) (start : ∀ s : State, s.tunes = TuneStore.start → P s) :
    Sound P (fun _ => True) fun _ => True where
  toKept := k
  linked s t hl h := congr s t h (by rw [hl.rest])
  start _ _ _ _ _ := start _ rfl
  entered _ m r c _ h := k.enterMode (fun _ _ h => congr _ _ h rfl) h m r c
  steered _ _ _ _ h := congr _ _ h rfl
  area _ _ _ _ h := congr _ _ h rfl
  tunes := moves
  budget _ _ _ _ _ h := congr _ _ h rfl
  pended _ _ _ _ h := congr _ _ h rfl
  cooled _ b h := k.coolBell (fun _ _ _ h => congr _ _ h rfl) h b

/-! #### The pool -/

/-- How often a block is held by the versions of a tune. -/
def TuneStore.heldBy (x : TuneStore) (b : Nat) (i : Fin 96) : Nat := ((x.versionsOf i).flatMap (·.blocks)).count b

theorem count_displaced (b : Nat) : ∀ d : List (Fin 96 × Version),
    (d.flatMap (·.2.blocks)).count b = ∑ i, (((d.filter (·.1 = i)).map (·.2)).flatMap (·.blocks)).count b
  | [] => by simp
  | (j, v) :: d => by
    have key (i : Fin 96) : (((((j, v) :: d).filter (·.1 = i)).map (·.2)).flatMap (·.blocks)).count b =
        (if i = j then v.blocks.count b else 0) + (((d.filter (·.1 = i)).map (·.2)).flatMap (·.blocks)).count b := by
      by_cases h : j = i
      · subst h; simp
      · simp [h, Ne.symm h]
    simp only [key, Finset.sum_add_distrib, Finset.sum_ite_eq', Finset.mem_univ, if_true]
    rw [← count_displaced b d]
    simp

theorem toList_eq_ofFn {α : Type} {n : Nat} (v : Vector α n) : v.toList = List.ofFn fun i : Fin n => v[i] :=
  List.ext_getElem (by simp) fun i h1 h2 => by simp

theorem TuneStore.count_usedBlocks (x : TuneStore) (b : Nat) : x.usedBlocks.count b = (∑ i, x.heldBy b i) + x.staging.blocks.count b := by
  have hslots : (x.slots.toList.flatMap fun y => (y.current.toList ++ y.retiring.toList).flatMap (·.blocks)).count b =
      ∑ i : Fin 96, ((x.slots[i].current.toList ++ x.slots[i].retiring.toList).flatMap (·.blocks)).count b := by
    rw [List.count_flatMap]
    rw [toList_eq_ofFn, List.map_ofFn, List.sum_ofFn]
    rfl
  have hsum (i : Fin 96) : ((x.slots[i].current.toList ++ x.slots[i].retiring.toList).flatMap (·.blocks)).count b +
      (((x.displaced.filter (·.1 = i)).map (·.2)).flatMap (·.blocks)).count b = x.heldBy b i := by
    simp only [TuneStore.heldBy, TuneStore.versionsOf, TuneStore.retiringOf, List.flatMap_append, List.count_append]
    omega
  rw [TuneStore.usedBlocks, List.count_append, List.count_append, hslots, count_displaced, ← Finset.sum_add_distrib,
    Finset.sum_congr rfl fun i _ => hsum i]

/-- The law of the pool, block by block. -/
def TuneStore.Unshared (x : TuneStore) : Prop := ∀ b, x.usedBlocks.count b ≤ if b < Config.poolBlocks then 1 else 0

theorem State.poolLaw_iff : s.PoolLaw ↔ s.tunes.Unshared := by
  constructor
  · intro h b
    split
    · exact List.nodup_iff_count_le_one.mp h.distinct b
    · next hb => exact Nat.le_of_eq (List.count_eq_zero.mpr fun hm => hb (h.range b hm))
  · intro h
    refine ⟨List.nodup_iff_count_le_one.mpr fun b => (h b).trans (by split <;> decide), fun b hb => ?_⟩
    by_contra hn
    have := h b
    rw [if_neg hn, Nat.le_zero, List.count_eq_zero] at this
    exact this hb

/-- No block is held more often than before. -/
theorem TuneStore.Unshared.mono {x y : TuneStore} (h : x.Unshared) (hv : ∀ b i, y.heldBy b i ≤ x.heldBy b i)
    (hs : ∀ b, y.staging.blocks.count b ≤ x.staging.blocks.count b) : y.Unshared := by
  intro b
  refine Nat.le_trans ?_ (h b)
  rw [TuneStore.count_usedBlocks, TuneStore.count_usedBlocks]
  exact Nat.add_le_add (Finset.sum_le_sum fun i _ => hv b i) (hs b)

/-- One tune's versions changed: no block is held more often there. -/
theorem TuneStore.heldBy_le {x y : TuneStore} {i : Fin 96} (ho : ∀ j, j ≠ i → y.versionsOf j = x.versionsOf j)
    (hi : ∀ b, y.heldBy b i ≤ x.heldBy b i) (b : Nat) (j : Fin 96) : y.heldBy b j ≤ x.heldBy b j := by
  by_cases h : j = i
  · exact h ▸ hi b
  · rw [heldBy, heldBy, ho j h]

theorem TuneStore.take_heldBy (x : TuneStore) (i : Fin 96) (b : Nat) (j : Fin 96) : (x.take i).heldBy b j = x.heldBy b j := by
  unfold heldBy versionsOf
  rw [take_retiringOf, take_current]
  split
  · next h => subst h; cases x.slots[j].current <;> rfl
  · rfl

theorem TuneStore.release_heldBy (x : TuneStore) (i : Fin 96) (n b : Nat) (j : Fin 96) : (x.release i n).heldBy b j ≤ x.heldBy b j := by
  have lowered (l : List Version) : (l.map fun v => if v.serial = n then { v with users := v.users - 1 } else v).flatMap (·.blocks) =
      l.flatMap (·.blocks) := by
    rw [List.flatMap_map]
    exact List.flatMap_congr fun v _ => by split <;> rfl
  refine TuneStore.heldBy_le (i := i) (fun k hk => ?_) (fun b => ?_) b j
  · unfold release; rw [versionsOf_setVersions, if_neg hk]
  · unfold heldBy release
    rw [versionsOf_setVersions, if_pos rfl, versionsOf, List.flatMap_append, List.flatMap_append, List.count_append, List.count_append]
    refine Nat.add_le_add (Nat.le_of_eq ?_) ?_
    · cases x.slots[i].current with
      | none => rfl
      | some v => simp only [Option.map_some, Option.toList_some, List.flatMap_cons, List.flatMap_nil]; split <;> rfl
    · refine ((List.filter_sublist (p := fun v : Version => decide (0 < v.users))).flatMap (fun v : Version => v.blocks)).count_le b |>.trans ?_
      rw [lowered]

theorem TuneStore.retire_heldBy (x : TuneStore) (i : Fin 96) (b : Nat) (j : Fin 96) : (x.retire i).heldBy b j ≤ x.heldBy b j := by
  unfold heldBy
  rw [retire_versionsOf]
  split
  · next h =>
    subst h
    exact ((List.Sublist.append_right List.filter_sublist _).flatMap (fun v : Version => v.blocks)).count_le b
  · exact Nat.le_refl _

theorem stageEvents_fixed : ∀ {es : List EventRec} {pos : Nat} {u v : Upload}, stageEvents pos u es = .all v →
    v.blocks = u.blocks ∧ v.tune = u.tune ∧ v.declared = u.declared ∧ v.anchorStep = u.anchorStep
  | [], _, _, _, h => by cases h; exact ⟨rfl, rfl, rfl, rfl⟩
  | r :: es, pos, u, v, h => by
    unfold stageEvents at h
    split at h
    · cases h
    · split at h
      · cases h
      · exact stageEvents_fixed (u := u.append _) h

/-- A block to be taken is free. -/
theorem TuneStore.mem_freeBlocks {x : TuneStore} {b : Nat} : b ∈ x.freeBlocks ↔ b < Config.poolBlocks ∧ x.usedBlocks.count b = 0 := by
  simp [freeBlocks, List.count_eq_zero]

theorem TuneStore.freeBlocks_nodup (x : TuneStore) : x.freeBlocks.Nodup := List.nodup_range.filter _

theorem TuneStore.Unshared.opened {x : TuneStore} (h : x.Unshared) {y : Staging} {u : Upload} {n : Nat}
    (hu : u.blocks = ({ x with staging := y } : TuneStore).freeBlocks.take n) : ({ x with staging := .opened u } : TuneStore).Unshared := by
  intro b
  have hx := h b
  rw [count_usedBlocks] at hx ⊢
  have hsame : (∑ i, ({ x with staging := .opened u } : TuneStore).heldBy b i) = ∑ i, x.heldBy b i := rfl
  have hst : ({ x with staging := .opened u } : TuneStore).staging.blocks = u.blocks := rfl
  rw [hsame, hst]
  by_cases hb : b ∈ u.blocks
  · rw [hu] at hb
    obtain ⟨hp, hc⟩ := mem_freeBlocks.mp (List.mem_of_mem_take hb)
    rw [count_usedBlocks] at hc
    have hz : (∑ i, x.heldBy b i) = 0 := by
      have : (∑ i, ({ x with staging := y } : TuneStore).heldBy b i) = ∑ i, x.heldBy b i := rfl
      omega
    have h1 : u.blocks.count b ≤ 1 := by
      rw [hu]; exact List.nodup_iff_count_le_one.mp ((freeBlocks_nodup _).sublist (List.take_sublist _ _)) b
    rw [hz, if_pos hp]; omega
  · rw [List.count_eq_zero.mpr hb]
    exact Nat.le_trans (Nat.add_le_add_left (Nat.zero_le _) _) hx

/-- One tune's versions set to some whose blocks are free of the others' and of the staging area's. -/
theorem TuneStore.Unshared.setVersions {x y : TuneStore} {i : Fin 96} (h : x.Unshared) (ho : ∀ j, j ≠ i → y.versionsOf j = x.versionsOf j)
    (hi : ∀ b, y.heldBy b i + y.staging.blocks.count b ≤ x.heldBy b i + x.staging.blocks.count b ∨
      y.heldBy b i + y.staging.blocks.count b ≤ (if b < Config.poolBlocks then 1 else 0) ∧ ∀ j, j ≠ i → x.heldBy b j = 0) : y.Unshared := by
  intro b
  have split (z : TuneStore) : (∑ j, z.heldBy b j) = z.heldBy b i + ∑ j ∈ Finset.univ.erase i, z.heldBy b j :=
    (Finset.add_sum_erase _ _ (Finset.mem_univ i)).symm
  have hothers : (∑ j ∈ Finset.univ.erase i, y.heldBy b j) = ∑ j ∈ Finset.univ.erase i, x.heldBy b j :=
    Finset.sum_congr rfl fun j hj => by rw [heldBy, heldBy, ho j (Finset.ne_of_mem_erase hj)]
  have hx := h b
  rw [count_usedBlocks, split] at hx ⊢
  rw [hothers]
  rcases hi b with hle | ⟨hle, hz⟩
  · omega
  · have : (∑ j ∈ Finset.univ.erase i, x.heldBy b j) = 0 := Finset.sum_eq_zero fun j hj => hz j (Finset.ne_of_mem_erase hj)
    omega

theorem TuneStore.Unshared.switched {x : TuneStore} {u : Upload} {n m : Nat} (h : x.Unshared) (hu : x.staging = .committing u) :
    ((({ x with staging := .none, nextSerial := m } : TuneStore).retire u.tune).setVersions u.tune (some (u.version n))
      ((({ x with staging := .none, nextSerial := m } : TuneStore).retire u.tune).retiringOf u.tune)).Unshared := by
  refine h.setVersions (i := u.tune) (fun j hj => ?_) fun b => .inl ?_
  · rw [versionsOf_setVersions, if_neg hj, retire_versionsOf, if_neg hj]; rfl
  · have hr : (({ x with staging := .none, nextSerial := m } : TuneStore).retire u.tune).retiringOf u.tune =
        (x.slots[u.tune].current.toList.filter fun v => decide (0 < v.users)) ++ x.retiringOf u.tune := retire_retiringOf _ _
    have hs : ((({ x with staging := .none, nextSerial := m } : TuneStore).retire u.tune).setVersions u.tune (some (u.version n))
      ((({ x with staging := .none, nextSerial := m } : TuneStore).retire u.tune).retiringOf u.tune)).staging.blocks = [] := rfl
    have hb : x.staging.blocks = u.blocks := by rw [hu]; rfl
    rw [hs, hb, heldBy, versionsOf_setVersions, if_pos rfl, hr]
    have hle := ((List.Sublist.append_right (List.filter_sublist (l := x.slots[u.tune].current.toList) (p := fun v => decide (0 < v.users)))
      (x.retiringOf u.tune)).flatMap (fun v : Version => v.blocks)).count_le b
    simp only [Option.toList_some, List.cons_append, List.nil_append, List.flatMap_cons, List.count_append, List.count_nil]
    have hv : (u.version n).blocks = u.blocks := rfl
    have hx : x.heldBy b u.tune = ((x.slots[u.tune].current.toList ++ x.retiringOf u.tune).flatMap (·.blocks)).count b := rfl
    rw [hv, hx]
    omega

/-- What passes the load check holds blocks of the pool that no other version holds. -/
theorem StoredTune.failure_none {e : StoredTune} {used : List Nat} (h : e.failure used = none) :
    e.version.formOk = true ∧ ∀ b ∈ e.version.blocks, b ∉ used := by
  unfold failure at h
  split at h
  · cases h
  · split at h
    · cases h
    · next hf => simpa using hf

theorem Version.formOk_blocks {v : Version} (h : v.formOk = true) : v.blocks.Nodup ∧ ∀ b ∈ v.blocks, b < Config.poolBlocks := by
  simp only [formOk, Bool.and_eq_true, List.all_eq_true, decide_eq_true_eq] at h
  exact ⟨h.1.2, h.2⟩

theorem TuneStore.Unshared.loaded {x : TuneStore} {i : Fin 96} {e : StoredTune} {n m : Nat} (h : x.Unshared)
    (hf : e.failure x.usedBlocks = none) (hs : x.staging = .none) :
    ({ x.setVersions i (some { e.version with users := 0, serial := n }) [] with nextSerial := m } : TuneStore).Unshared := by
  obtain ⟨hform, hfree⟩ := StoredTune.failure_none hf
  obtain ⟨hnodup, hrange⟩ := Version.formOk_blocks hform
  have hv (j : Fin 96) : ({ x.setVersions i (some { e.version with users := 0, serial := n }) [] with nextSerial := m } : TuneStore).versionsOf j =
      if j = i then [{ e.version with users := 0, serial := n }] else x.versionsOf j := by
    rw [← List.append_nil [_]]
    exact versionsOf_setVersions x _ _
  refine h.setVersions (i := i) (fun j hj => by rw [hv, if_neg hj]) fun b => ?_
  have hb : ({ x.setVersions i (some { e.version with users := 0, serial := n }) [] with nextSerial := m } : TuneStore).heldBy b i =
      e.version.blocks.count b := by
    rw [heldBy, hv, if_pos rfl]; simp
  have hst : ({ x.setVersions i (some { e.version with users := 0, serial := n }) [] with nextSerial := m } : TuneStore).staging.blocks = [] := by
    show x.staging.blocks = []
    rw [hs]; rfl
  rw [hb, hst]
  by_cases hm : b ∈ e.version.blocks
  · refine .inr ⟨?_, fun j _ => ?_⟩
    · rw [if_pos (hrange b hm)]; simpa using List.nodup_iff_count_le_one.mp hnodup b
    · have hz := List.count_eq_zero.mpr (hfree b hm)
      rw [count_usedBlocks] at hz
      have := Finset.sum_eq_zero_iff.mp (Nat.eq_zero_of_add_eq_zero_right hz) j (Finset.mem_univ j)
      exact this
  · left; rw [List.count_eq_zero.mpr hm]; simp

theorem TuneStore.start_unshared : TuneStore.start.Unshared := by
  have : TuneStore.start.usedBlocks = [] := by decide +kernel
  intro b; rw [this]; simp

theorem State.TunesMove.unshared {x : TuneStore} (h : s.tunes.Unshared) (m : s.TunesMove x) : x.Unshared := by
  cases m with
  | opened => exact h.opened rfl
  | staged hu _ hv _ =>
    refine h.mono (fun _ _ => Nat.le_refl _) fun b => Nat.le_of_eq ?_
    rw [hu]
    exact congrArg (List.count b) (stageEvents_fixed hv).1
  | closed hu _ => exact h.mono (fun _ _ => Nat.le_refl _) fun b => Nat.le_of_eq (by rw [hu]; rfl)
  | dropped => exact h.mono (fun _ _ => Nat.le_refl _) fun b => Nat.zero_le _
  | retired => exact h.mono (fun b i => s.tunes.retire_heldBy _ b i) fun _ => Nat.le_refl _
  | switched hu => exact h.switched hu
  | emptied _ => exact TuneStore.start_unshared
  | loaded _ hs hf => exact h.loaded hf hs

theorem State.unshared_kept : Kept (fun s => s.tunes.Unshared) (fun _ => True) fun _ => True :=
  .of_tunes (fun _ _ h ht => by rw [ht]; exact h)
    (fun s i h => h.mono (fun b j => Nat.le_of_eq (s.tunes.take_heldBy i b j)) fun _ => Nat.le_refl _)
    (fun s i n h => h.mono (fun b j => s.tunes.release_heldBy i n b j) fun _ => Nat.le_refl _)

theorem State.unshared_sound : Sound (fun s => s.tunes.Unshared) (fun _ => True) fun _ => True :=
  .of_tunes State.unshared_kept (fun _ _ h ht => by rw [ht]; exact h) (fun _ _ m h => m.unshared h)
    fun _ ht => by rw [ht]; exact TuneStore.start_unshared

/-- Settles O11. -/
theorem stepKeepsThePoolUnshared : Obligations.StepKeepsThePoolUnshared := fun _ _ h hs =>
  State.poolLaw_iff.mpr (State.unshared_sound.step (fun _ _ _ h => h) (State.poolLaw_iff.mp h) hs)

end Sys2Proof.Machine

/-! ### Proofs: the staged upload stays in order and within its declared count (R97, R100 to R102) -/

namespace Sys2Proof.Machine

open Sys2Proof

variable {s : State}

/-- One event may stand before another in a list. -/
def Event.precedes (e f : Event) : Prop := e.step ≤ f.step ∧ ¬ (e.step = f.step ∧ e.bell = f.bell)

theorem eventsOrdered_iff : ∀ {l : List Event}, eventsOrdered l = true ↔ l.Pairwise Event.precedes
  | [] => by simp [eventsOrdered]
  | e :: l => by
    rw [List.pairwise_cons, ← eventsOrdered_iff (l := l)]
    simp only [eventsOrdered, Bool.and_eq_true, List.all_eq_true, decide_eq_true_eq, Bool.not_eq_true', Bool.and_eq_false_iff,
      decide_eq_false_iff_not, Event.precedes, not_and_or]

/-- In an ordered list the last event has the latest step. -/
theorem step_le_last {l : List Event} (h : l.Pairwise Event.precedes) {e f : Event} (hf : l.getLast? = some f) (he : e ∈ l) : e.step ≤ f.step := by
  obtain ⟨l', rfl⟩ := List.getLast?_eq_some_iff.mp hf
  rcases List.mem_append.mp he with he | he
  · exact ((List.pairwise_append.mp h).2.2 e he f (List.mem_singleton_self f)).1
  · rw [List.mem_singleton.mp he]

theorem keepIf_eq {α : Type} {c : Bool} {a b : α} : keepIf c a = some b ↔ c = true ∧ a = b := by
  cases c <;> simp [keepIf]

theorem eventOf_ranged {r : EventRec} {e : Event} (h : eventOf r = some e) : 1 ≤ e.dynamic ∧ e.dynamic ≤ 8 ∧ -50 ≤ e.nudge ∧ e.nudge ≤ 50 := by
  unfold eventOf at h
  split at h
  · obtain ⟨hr, he⟩ := keepIf_eq.mp h
    simp only [within, Bool.and_eq_true, decide_eq_true_eq] at hr
    rw [← he]
    exact ⟨hr.1.1, hr.1.2, hr.2⟩
  · cases h

/-- What the examination of a frame's events keeps of an upload. -/
structure Upload.Growing (u : Upload) : Prop where
  ordered : u.events.Pairwise Event.precedes
  ranged : ∀ e ∈ u.events, 1 ≤ e.dynamic ∧ e.dynamic ≤ 8 ∧ -50 ≤ e.nudge ∧ e.nudge ≤ 50
  last : u.lastStep = u.events.getLast?.map (·.step)
  bells : ∀ b, b ∈ u.stepBells ↔ ∃ e ∈ u.events, u.lastStep = some e.step ∧ e.bell = b

theorem Upload.Law.growing {u : Upload} (h : u.Law) : u.Growing := ⟨eventsOrdered_iff.mp h.ordered, h.ranged, h.last, h.bells⟩

/-- An event in its place may follow all events staged. -/
theorem Upload.Growing.follows {u : Upload} (h : u.Growing) {e : Event} (hb : u.breaksOrder e = false) : ∀ f ∈ u.events, f.precedes e := by
  intro f hf
  cases hl : u.events.getLast? with
  | none => rw [List.getLast?_eq_none_iff.mp hl] at hf; cases hf
  | some g =>
    have hlast : u.lastStep = some g.step := by rw [h.last, hl]; rfl
    have hle := step_le_last h.ordered hl hf
    simp only [Upload.breaksOrder, hlast, Bool.or_eq_false_iff, Bool.and_eq_false_iff, decide_eq_false_iff_not] at hb
    obtain ⟨h1, h2⟩ := hb
    refine ⟨by omega, fun ⟨hs, hbell⟩ => ?_⟩
    have hg : f.step = g.step := by omega
    have hm : e.bell ∈ u.stepBells := (h.bells e.bell).mpr ⟨f, hf, by rw [hlast, hg], hbell⟩
    rcases h2 with h2 | h2
    · exact h2 (by omega)
    · simp [hm] at h2

theorem Upload.Growing.append {u : Upload} (h : u.Growing) {e : Event} (hb : u.breaksOrder e = false)
    (he : 1 ≤ e.dynamic ∧ e.dynamic ≤ 8 ∧ -50 ≤ e.nudge ∧ e.nudge ≤ 50) : (u.append e).Growing where
  ordered := List.pairwise_append.mpr ⟨h.ordered, List.pairwise_singleton _ _, fun f hf g hg => by
    rw [List.mem_singleton.mp hg]; exact h.follows hb f hf⟩
  ranged f hf := by
    rcases List.mem_append.mp hf with hf | hf
    · exact h.ranged f hf
    · rw [List.mem_singleton.mp hf]; exact he
  last := by simp [Upload.append]
  bells b := by
    have hev : (u.append e).events = u.events ++ [e] := rfl
    have hls : (u.append e).lastStep = some e.step := rfl
    have hst : (u.append e).stepBells = if u.lastStep = some e.step then u.stepBells ++ [e.bell] else [e.bell] := rfl
    rw [hev, hls, hst]
    have hnew : (∃ f ∈ u.events ++ [e], some e.step = some f.step ∧ f.bell = b) ↔
        (∃ f ∈ u.events, some e.step = some f.step ∧ f.bell = b) ∨ e.bell = b := by
      simp only [List.mem_append, List.mem_singleton, or_and_right, exists_or, exists_eq_left, true_and]
    rw [hnew]
    split
    · next hs =>
      rw [List.mem_append, List.mem_singleton, h.bells b, hs]
      exact or_congr Iff.rfl eq_comm
    · next hs =>
      have hno : ¬ ∃ f ∈ u.events, some e.step = some f.step ∧ f.bell = b := by
        rintro ⟨f, hf, hfs, -⟩
        cases hl : u.events.getLast? with
        | none => rw [List.getLast?_eq_none_iff.mp hl] at hf; cases hf
        | some g =>
          have hlast : u.lastStep = some g.step := by rw [h.last, hl]; rfl
          have h1 := step_le_last h.ordered hl hf
          have h2 := (h.follows hb g (List.mem_of_getLast? hl)).1
          injection hfs with hfs
          exact hs (by rw [hlast]; congr 1; omega)
      rw [List.mem_singleton, eq_comm]
      exact ⟨.inr, fun hx => hx.resolve_left hno⟩

theorem stageEvents_growing : ∀ {es : List EventRec} {pos : Nat} {u v : Upload}, u.Growing → stageEvents pos u es = .all v →
    v.Growing ∧ v.events.length = u.events.length + es.length
  | [], _, _, _, h, hv => by cases hv; exact ⟨h, rfl⟩
  | r :: es, pos, u, v, h, hv => by
    unfold stageEvents at hv
    split at hv
    · cases hv
    · next e he =>
      split at hv
      · cases hv
      · next hb =>
        obtain ⟨h1, h2⟩ := stageEvents_growing (h.append (Bool.eq_false_iff.mpr hb) (eventOf_ranged he)) hv
        refine ⟨h1, h2.trans ?_⟩
        simp [Upload.append]
        omega

/-- The law of the staging area. -/
def Staging.Law : Staging → Prop
  | .none => True
  | .opened u => u.Law
  | .committing u => u.Law ∧ u.events.length = u.declared

theorem State.uploadLaw_iff : s.UploadLaw ↔ s.tunes.staging.Law := by
  unfold State.UploadLaw Staging.Law
  cases s.tunes.staging <;> rfl

theorem State.TunesMove.uploads {x : TuneStore} (h : s.tunes.staging.Law) (m : s.TunesMove x) : x.staging.Law := by
  cases m with
  | opened _ _ hd =>
    refine ⟨Nat.zero_le _, rfl, (fun e he => by cases he), rfl, fun b => by simp [TuneStore.newUpload], hd, ?_⟩
    exact Bool.or_eq_true _ _ |>.mpr (.inl (decide_eq_true (Nat.ne_of_lt hd)))
  | staged hu hn hv ha =>
    rw [hu] at h
    obtain ⟨hg, hl⟩ := stageEvents_growing (Upload.Law.growing h) hv
    obtain ⟨-, -, hd, -⟩ := stageEvents_fixed hv
    refine ⟨by rw [hl, hd]; exact hn, eventsOrdered_iff.mpr hg.ordered, hg.ranged, hg.last, hg.bells, ?_, ha⟩
    rw [hd]; exact h.anchored.1
  | closed hu hn =>
    rw [hu] at h
    exact ⟨⟨h.counted, h.ordered, h.ranged, h.last, h.bells, h.anchored⟩, hn⟩
  | dropped => trivial
  | retired => exact h
  | switched => trivial
  | emptied => trivial
  | loaded => exact h

theorem State.uploads_kept : Kept (fun s => s.tunes.staging.Law) (fun _ => True) fun _ => True :=
  .of_tunes (fun _ _ h ht => by rw [ht]; exact h) (fun _ _ h => h) (fun _ _ _ h => h)

theorem State.uploads_sound : Sound (fun s => s.tunes.staging.Law) (fun _ => True) fun _ => True :=
  .of_tunes State.uploads_kept (fun _ _ h ht => by rw [ht]; exact h) (fun _ _ m h => m.uploads h) fun _ ht => by rw [ht]; trivial

/-- Settles O13. -/
theorem stepKeepsTheUpload : Obligations.StepKeepsTheUpload := fun _ _ h hs =>
  State.uploadLaw_iff.mpr (State.uploads_sound.step (fun _ _ _ h => h) (State.uploadLaw_iff.mp h) hs)

end Sys2Proof.Machine

/-! ### Proofs: the user count of a version is the number of running plays that hold it (R96, R97, R107, R108) -/

namespace Sys2Proof.Machine

open Sys2Proof

variable {s t : State}

/-- The law of one tune's versions: its CURRENT one, those RETIRING, the running plays that hold each serial number, the next serial number and
the uploads staged for it. -/
structure TuneSound (current : Option Version) (former : List Version) (holders : Nat → Nat) (next uploads : Nat) : Prop where
  serials : ((current.toList ++ former).map (·.serial)).Nodup
  past : ∀ v ∈ current.toList ++ former, v.serial < next
  users : ∀ v ∈ current.toList ++ former, v.users = holders v.serial
  retiring : ∀ v ∈ former, 0 < v.users
  kept : ∀ n, 0 < holders n → ∃ v ∈ current.toList ++ former, v.serial = n
  two : (current.toList ++ former).length + uploads ≤ 2
  ranged : ∀ v ∈ current.toList ++ former, ∀ e ∈ v.events, 1 ≤ e.dynamic ∧ e.dynamic ≤ 8 ∧ -50 ≤ e.nudge ∧ e.nudge ≤ 50

/-- The law of the versions, tune by tune. -/
structure State.VersionsSound (s : State) : Prop where
  tune : ∀ i : Fin 96, TuneSound s.tunes.slots[i].current (s.tunes.retiringOf i) (s.holders i) s.tunes.nextSerial (s.tunes.staging.uploadsFor i)
  placed : ∀ i : Fin 96, s.tunes.slots[i].retiring = none → s.tunes.retiringOf i = []
  unstarted : ∀ q ∈ s.engine.player0.incoming.toList ++ s.engine.player1.incoming.toList ++ s.engine.waiting, q.kind.unstarted = true

theorem State.versionsLaw_iff : s.VersionsLaw ↔ s.VersionsSound :=
  ⟨fun h => ⟨fun i => ⟨h.serials i, h.past i, h.users i, h.retiring i, h.kept i, h.two i, h.ranged i⟩, h.placed, h.unstarted⟩,
   fun h => ⟨fun i => (h.tune i).serials, fun i => (h.tune i).past, fun i => (h.tune i).users, fun i => (h.tune i).retiring,
     fun i => (h.tune i).kept, h.placed, fun i => (h.tune i).two, h.unstarted, fun i => (h.tune i).ranged⟩⟩

namespace TuneSound

variable {c : Option Version} {l : List Version} {f g : Nat → Nat} {n m k k' : Nat}

/-- A later serial number and no more uploads. -/
theorem weaken (h : TuneSound c l f n k) (hn : n ≤ m) (hk : k' ≤ k) : TuneSound c l f m k' :=
  ⟨h.serials, fun v hv => Nat.lt_of_lt_of_le (h.past v hv) hn, h.users, h.retiring, h.kept, by have := h.two; omega, h.ranged⟩

/-- The CURRENT version is taken by one more play. -/
theorem take {v : Version} (h : TuneSound (some v) l f n k) (hg : ∀ x, g x = f x + if x = v.serial then 1 else 0) :
    TuneSound (some { v with users := v.users + 1 }) l g n k := by
  have hd : ∀ w ∈ l, w.serial ≠ v.serial := by
    have := h.serials
    simp only [Option.toList_some, List.cons_append, List.nil_append, List.map_cons, List.nodup_cons] at this
    exact fun w hw hs => this.1 (List.mem_map.mpr ⟨w, hw, hs⟩)
  refine ⟨by simpa using h.serials, ?_, ?_, h.retiring, fun x hx => ?_, by simpa using h.two, ?_⟩
  · intro w hw
    rcases List.mem_cons.mp hw with rfl | hw
    · exact h.past v (by simp)
    · exact h.past w (by simp [show w ∈ l from hw])
  · intro w hw
    rcases List.mem_cons.mp hw with rfl | hw
    · simp [hg, h.users v (by simp)]
    · rw [hg, if_neg (hd w hw), Nat.add_zero]; exact h.users w (by simp [show w ∈ l from hw])
  · by_cases hs : x = v.serial
    · exact ⟨_, List.mem_cons_self, hs.symm⟩
    · rw [hg, if_neg hs, Nat.add_zero] at hx
      obtain ⟨w, hw, hwx⟩ := h.kept x hx
      rcases List.mem_cons.mp hw with rfl | hw
      · exact absurd hwx.symm hs
      · exact ⟨w, List.mem_cons_of_mem _ hw, hwx⟩
  · intro w hw
    rcases List.mem_cons.mp hw with rfl | hw
    · exact h.ranged v (by simp)
    · exact h.ranged w (by simp [show w ∈ l from hw])

/-- A user less. -/
def lower (x : Nat) (v : Version) : Version := if v.serial = x then { v with users := v.users - 1 } else v

@[simp] theorem lower_serial (x : Nat) (v : Version) : (lower x v).serial = v.serial := by unfold lower; split <;> rfl
@[simp] theorem lower_events (x : Nat) (v : Version) : (lower x v).events = v.events := by unfold lower; split <;> rfl

/-- A play that held a version no longer does. -/
theorem release {x : Nat} (h : TuneSound c l f n k) (hg : ∀ y, g y = f y - if y = x then 1 else 0) :
    TuneSound (c.map (lower x)) ((l.map (lower x)).filter fun v => decide (0 < v.users)) g n k := by
  have hsub : ((c.map (lower x)).toList ++ (l.map (lower x)).filter fun v => decide (0 < v.users)).Sublist ((c.toList ++ l).map (lower x)) := by
    rw [List.map_append, Option.toList_map]
    exact List.Sublist.append_left List.filter_sublist _
  have of_mem {w : Version} (hw : w ∈ (c.map (lower x)).toList ++ (l.map (lower x)).filter fun v => decide (0 < v.users)) :
      ∃ v ∈ c.toList ++ l, lower x v = w := List.mem_map.mp (hsub.subset hw)
  have users {v : Version} (hv : v ∈ c.toList ++ l) : (lower x v).users = g v.serial := by
    rw [hg, ← h.users v hv]
    unfold lower; split <;> rfl
  refine ⟨?_, ?_, ?_, ?_, ?_, ?_, ?_⟩
  · refine List.Nodup.sublist (hsub.map _) ?_
    have hl : ((fun v : Version => v.serial) ∘ lower x) = fun v => v.serial := funext (lower_serial x)
    rw [List.map_map, hl]
    exact h.serials
  · intro w hw
    obtain ⟨v, hv, rfl⟩ := of_mem hw
    rw [lower_serial]; exact h.past v hv
  · intro w hw
    obtain ⟨v, hv, rfl⟩ := of_mem hw
    rw [lower_serial]; exact users hv
  · intro w hw
    simpa using (List.mem_filter.mp hw).2
  · intro y hy
    obtain ⟨v, hv, rfl⟩ := h.kept y (by rw [hg] at hy; omega)
    refine ⟨lower x v, ?_, lower_serial x v⟩
    rcases List.mem_append.mp hv with hc | hl
    · exact List.mem_append_left _ (by rw [Option.toList_map]; exact List.mem_map_of_mem hc)
    · refine List.mem_append_right _ (List.mem_filter.mpr ⟨List.mem_map_of_mem hl, decide_eq_true ?_⟩)
      rw [users hv]; exact hy
  · have := hsub.length_le
    rw [List.length_map] at this
    exact Nat.le_trans (Nat.add_le_add_right this _) h.two
  · intro w hw
    obtain ⟨v, hv, rfl⟩ := of_mem hw
    rw [lower_events]; exact h.ranged v hv

/-- The CURRENT version leaves its place: it stays while it has users. -/
theorem retire (h : TuneSound c l f n k) : TuneSound none ((c.toList.filter fun v => decide (0 < v.users)) ++ l) f n k := by
  have hsub : ((c.toList.filter fun v => decide (0 < v.users)) ++ l).Sublist (c.toList ++ l) := List.Sublist.append_right List.filter_sublist _
  refine ⟨List.Nodup.sublist (hsub.map _) h.serials, fun v hv => h.past v (hsub.subset hv), fun v hv => h.users v (hsub.subset hv), ?_, ?_,
    Nat.le_trans (Nat.add_le_add_right hsub.length_le _) h.two, fun v hv => h.ranged v (hsub.subset hv)⟩
  · intro v hv
    rcases List.mem_append.mp hv with hv | hv
    · simpa using (List.mem_filter.mp hv).2
    · exact h.retiring v hv
  · intro y hy
    obtain ⟨v, hv, rfl⟩ := h.kept y hy
    refine ⟨v, List.mem_append_right _ ?_, rfl⟩
    rcases List.mem_append.mp hv with hc | hl
    · exact List.mem_append_left _ (List.mem_filter.mpr ⟨hc, decide_eq_true (by rw [h.users v hv]; exact hy)⟩)
    · exact List.mem_append_right _ hl

/-- A new CURRENT version in the place that stands empty. -/
theorem renew {v : Version} (h : TuneSound none l f n k) (hs : v.serial = n) (hu : v.users = 0) (hl : l.length + 1 + k' ≤ 2)
    (hr : ∀ e ∈ v.events, 1 ≤ e.dynamic ∧ e.dynamic ≤ 8 ∧ -50 ≤ e.nudge ∧ e.nudge ≤ 50) : TuneSound (some v) l f (n + 1) k' := by
  have hz : f n = 0 := by
    by_contra hn
    obtain ⟨w, hw, hwn⟩ := h.kept n (Nat.pos_of_ne_zero hn)
    exact absurd (h.past w hw) (by omega)
  have mem {w : Version} (hw : w ∈ (some v).toList ++ l) : w = v ∨ w ∈ l := List.mem_cons.mp hw
  refine ⟨?_, ?_, ?_, h.retiring, ?_, by simpa using hl, ?_⟩
  · simp only [Option.toList_some, List.cons_append, List.nil_append, List.map_cons]
    refine List.nodup_cons.mpr ⟨fun hm => ?_, h.serials⟩
    obtain ⟨w, hw, hwv⟩ := List.mem_map.mp hm
    exact absurd (h.past w hw) (by omega)
  · intro w hw
    rcases mem hw with rfl | hw
    · omega
    · exact Nat.lt_succ_of_lt (h.past w hw)
  · intro w hw
    rcases mem hw with rfl | hw
    · rw [hu, hs, hz]
    · exact h.users w hw
  · intro y hy
    obtain ⟨w, hw, hwy⟩ := h.kept y hy
    exact ⟨w, List.mem_cons_of_mem _ hw, hwy⟩
  · intro w hw
    rcases mem hw with rfl | hw
    · exact hr
    · exact h.ranged w hw

end TuneSound

/-! #### The running plays that hold a version -/

/-- The player's running play holds the version with this serial number. -/
def Player.holds (x : Player) (i : Fin 96) (n : Nat) : Nat := if x.play.any (fun q => decide (q.kind = .tune i (some n))) then 1 else 0

theorem State.holders_eq (i : Fin 96) (n : Nat) : s.holders i n = s.engine.player0.holds i n + s.engine.player1.holds i n := by
  have one (o : Option Play) : (o.toList.filter fun q => decide (q.kind = .tune i (some n))).length =
      if o.any (fun q => decide (q.kind = .tune i (some n))) then 1 else 0 := by
    cases o with
    | none => rfl
    | some q => by_cases h : q.kind = .tune i (some n) <;> simp [h]
  rw [State.holders, List.filter_append, List.length_append, one, one]; rfl

theorem State.holders_setPlayer (p : PlayerNo) (x : Player) (i : Fin 96) (n : Nat) :
    (s.setPlayer p x).holders i n + (s.player p).holds i n = s.holders i n + x.holds i n := by
  rw [State.holders_eq, State.holders_eq]
  cases p <;> simp only [State.setPlayer, PlayEngine.setPlayer, State.player, PlayEngine.player] <;> omega

/-- The kinds of the plays that run on the players stand. -/
theorem State.holders_congr {p : PlayerNo} {x : Player} (h : x.play.map (·.kind) = (s.player p).play.map (·.kind)) (i : Fin 96) (n : Nat) :
    (s.setPlayer p x).holders i n = s.holders i n := by
  have hx : x.holds i n = (s.player p).holds i n := by
    have any (o : Option Play) : o.any (fun q => decide (q.kind = .tune i (some n))) = (o.map (·.kind)).any fun k => decide (k = .tune i (some n)) := by
      cases o <;> rfl
    rw [Player.holds, Player.holds, any, any, h]
  have := State.holders_setPlayer (s := s) p x i n
  omega

theorem State.holders_engine (h : t.engine = s.engine) : t.holders = s.holders := by
  funext i n; rw [State.holders_eq, State.holders_eq, h]

theorem PlayEngine.Alike.holders (h : s.engine.Alike t.engine) : t.holders = s.holders := by
  obtain ⟨g, hg, he⟩ := h
  have one (o : Option Play) (i : Fin 96) (n : Nat) :
      (o.map g).any (fun q => decide (q.kind = .tune i (some n))) = o.any fun q => decide (q.kind = .tune i (some n)) := by
    cases o with
    | none => rfl
    | some q => simp [hg.kind]
  funext i n
  rw [State.holders_eq, State.holders_eq, he]
  simp only [Player.holds, one]

/-! #### The law under each change -/

/-- A tune's versions as they stand in a state. -/
def State.TuneSoundAt (s : State) (x : TuneStore) (i : Fin 96) : Prop :=
  TuneSound x.slots[i].current (x.retiringOf i) (s.holders i) x.nextSerial (x.staging.uploadsFor i)

/-- One tune's versions set. -/
theorem State.TuneSoundAt.setVersions {x y : TuneStore} {i : Fin 96} {c : Option Version} {l : List Version}
    (hx : ∀ j, j ≠ i → s.TuneSoundAt x j) (hslots : y.slots = (x.setVersions i c l).slots) (hdis : y.displaced = (x.setVersions i c l).displaced)
    (hn : x.nextSerial ≤ y.nextSerial) (hs : ∀ j, y.staging.uploadsFor j ≤ x.staging.uploadsFor j)
    (hi : TuneSound c l (s.holders i) y.nextSerial (y.staging.uploadsFor i)) (j : Fin 96) : s.TuneSoundAt y j := by
  have hr : y.retiringOf j = (x.setVersions i c l).retiringOf j := by rw [TuneStore.retiringOf, TuneStore.retiringOf, hslots, hdis]
  unfold State.TuneSoundAt
  rw [hr, hslots]
  by_cases h : j = i
  · subst h
    rw [TuneStore.setVersions_self, TuneStore.setVersions_retiringOf]
    exact hi
  · rw [TuneStore.setVersions_other _ h, TuneStore.setVersions_retiringOf_other _ h]
    exact (hx j h).weaken hn (hs j)

theorem TuneStore.setVersions_placed {x y : TuneStore} {i : Fin 96} {c : Option Version} {l : List Version}
    (hx : ∀ j : Fin 96, x.slots[j].retiring = none → x.retiringOf j = []) (hslots : y.slots = (x.setVersions i c l).slots)
    (hdis : y.displaced = (x.setVersions i c l).displaced) (j : Fin 96) (hj : y.slots[j].retiring = none) : y.retiringOf j = [] := by
  have hr : y.retiringOf j = (x.setVersions i c l).retiringOf j := by rw [TuneStore.retiringOf, TuneStore.retiringOf, hslots, hdis]
  rw [hr]
  rw [hslots] at hj
  by_cases h : j = i
  · subst h
    rw [TuneStore.setVersions_self] at hj
    rw [TuneStore.setVersions_retiringOf]
    exact List.head?_eq_none_iff.mp hj
  · rw [TuneStore.setVersions_other _ h] at hj
    rw [TuneStore.setVersions_retiringOf_other _ h]
    exact hx j hj

namespace State.VersionsSound

/-- The law speaks of the Tune Store, the versions held by running plays and the plays that do not run. -/
theorem congr (h : s.VersionsSound) (ht : t.tunes = s.tunes) (hh : t.holders = s.holders)
    (hq : ∀ q ∈ t.engine.player0.incoming.toList ++ t.engine.player1.incoming.toList ++ t.engine.waiting, q.kind.unstarted = true) :
    t.VersionsSound where
  tune i := by rw [ht, hh]; exact h.tune i
  placed := by rw [ht]; exact h.placed
  unstarted := hq

theorem of_engine (h : s.VersionsSound) (ht : t.tunes = s.tunes) (he : t.engine = s.engine) : t.VersionsSound :=
  h.congr ht (State.holders_engine he) (by rw [he]; exact h.unstarted)

theorem incoming (h : s.VersionsSound) {p : PlayerNo} {q : Play} (hq : (s.player p).incoming = some q) : q.kind.unstarted = true := by
  refine h.unstarted q ?_
  cases p <;> simp_all [State.player, PlayEngine.player]

theorem waiting (h : s.VersionsSound) {q : Play} (hq : q ∈ s.engine.waiting) : q.kind.unstarted = true :=
  h.unstarted q (List.mem_append_right _ hq)

theorem unstarted_setPlayer (h : s.VersionsSound) {p : PlayerNo} {x : Player} (hx : ∀ q, x.incoming = some q → q.kind.unstarted = true) :
    ∀ q ∈ (s.setPlayer p x).engine.player0.incoming.toList ++ (s.setPlayer p x).engine.player1.incoming.toList ++
      (s.setPlayer p x).engine.waiting, q.kind.unstarted = true := by
  intro q hq
  have hw : (s.setPlayer p x).engine.waiting = s.engine.waiting := by simp
  rw [hw] at hq
  simp only [List.mem_append, Option.mem_toList] at hq
  have players (y : PlayerNo) (hy : ((s.setPlayer p x).player y).incoming = some q) : q.kind.unstarted = true := by
    by_cases e : p = y
    · subst e; rw [State.setPlayer_player_self] at hy; exact hx q hy
    · rw [State.setPlayer_player_ne _ e] at hy; exact h.incoming hy
  rcases hq with (hq | hq) | hq
  · exact players .p0 hq
  · exact players .p1 hq
  · exact h.waiting hq

/-- What does not run may change, and so may a player whose play holds what it held. -/
theorem setPlayer (h : s.VersionsSound) {p : PlayerNo} {x : Player} (hk : ∀ i n, x.holds i n = (s.player p).holds i n)
    (hx : ∀ q, x.incoming = some q → q.kind.unstarted = true) : (s.setPlayer p x).VersionsSound := by
  refine h.congr rfl (funext fun i => funext fun n => ?_) (h.unstarted_setPlayer hx)
  have := State.holders_setPlayer (s := s) p x i n
  rw [hk] at this; omega

/-- One tune's versions changed, with one player's play. -/
theorem tuneChanged (h : s.VersionsSound) {p : PlayerNo} {x : Player} {i : Fin 96} {y : TuneStore} (hx : ∀ q, x.incoming = some q → q.kind.unstarted = true)
    (hother : ∀ j, j ≠ i → ∀ n, x.holds j n = (s.player p).holds j n)
    (htune : ∀ j, j ≠ i → y.slots[j] = s.tunes.slots[j] ∧ y.retiringOf j = s.tunes.retiringOf j) (hn : y.nextSerial = s.tunes.nextSerial)
    (hst : y.staging = s.tunes.staging)
    (hi : ∀ f : Nat → Nat, (∀ n, f n + (s.player p).holds i n = s.holders i n + x.holds i n) →
      TuneSound y.slots[i].current (y.retiringOf i) f s.tunes.nextSerial (s.tunes.staging.uploadsFor i))
    (hp : y.slots[i].retiring = none → y.retiringOf i = []) : ({ s.setPlayer p x with tunes := y } : State).VersionsSound := by
  have hq : ({ s.setPlayer p x with tunes := y } : State).holders = (s.setPlayer p x).holders := State.holders_engine rfl
  refine ⟨fun j => ?_, fun j hj => ?_, h.unstarted_setPlayer hx⟩
  · show TuneSound y.slots[j].current (y.retiringOf j) _ y.nextSerial (y.staging.uploadsFor j)
    rw [hq, hn, hst]
    by_cases e : j = i
    · subst e; exact hi _ fun n => State.holders_setPlayer p x j n
    · have hf : (s.setPlayer p x).holders j = s.holders j := funext fun n => by
        have := State.holders_setPlayer (s := s) p x j n
        rw [hother j e n] at this; omega
      rw [hf, (htune j e).1, (htune j e).2]
      exact h.tune j
  · by_cases e : j = i
    · subst e; exact hp hj
    · have hj' : y.slots[j].retiring = none := hj
      rw [(htune j e).1] at hj'
      exact (htune j e).2.trans (h.placed j hj')

end State.VersionsSound

theorem Player.holds_none {x : Player} (h : x.play = none) (i : Fin 96) (n : Nat) : x.holds i n = 0 := by simp [Player.holds, h]

theorem Player.holds_some {x : Player} {q : Play} (h : x.play = some q) (i : Fin 96) (n : Nat) :
    x.holds i n = if q.kind = .tune i (some n) then 1 else 0 := by simp [Player.holds, h]

/-- A play without a version holds none. -/
theorem PlayKind.unstarted_ne {k : PlayKind} (h : k.unstarted = true) (i : Fin 96) (n : Nat) : k ≠ .tune i (some n) := by
  rintro rfl; cases h

theorem State.releaseVersion_unstarted {k : PlayKind} (h : k.unstarted = true) : s.releaseVersion k = s := by
  unfold State.releaseVersion; split
  · cases h
  · rfl

theorem TuneStore.setVersions_unmoved (x : TuneStore) (i : Fin 96) (c : Option Version) (l : List Version) {j : Fin 96} (h : j ≠ i) :
    (x.setVersions i c l).slots[j] = x.slots[j] ∧ (x.setVersions i c l).retiringOf j = x.retiringOf j :=
  ⟨setVersions_other x h c l, setVersions_retiringOf_other x h c l⟩

/-- The play as it runs from now on. -/
def State.running (s : State) (q : Play) (k : PlayKind) : Play :=
  { q with kind := k, start := some (max q.s0 (s.now + Config.lateStart)), nextIndex := 0, state := .feeding }

theorem State.running_kind (q : Play) (k : PlayKind) : (s.running q k).kind = k := rfl

namespace State.VersionsSound

/-- A play leaves its player and the version it held. -/
theorem left (h : s.VersionsSound) {p : PlayerNo} {q : Play} (hq : (s.player p).play = some q) :
    ((s.setPlayer p { s.player p with play := none }).releaseVersion q.kind).VersionsSound := by
  have hx : ∀ r, (s.player p).incoming = some r → r.kind.unstarted = true := fun r hr => h.incoming hr
  have hnone (i : Fin 96) (n : Nat) : ({ s.player p with play := none } : Player).holds i n = 0 := Player.holds_none rfl i n
  by_cases hu : q.kind.unstarted = true
  · rw [State.releaseVersion_unstarted hu]
    refine h.setPlayer (fun i n => ?_) hx
    rw [hnone, Player.holds_some hq, if_neg (PlayKind.unstarted_ne hu i n)]
  · have hk : ∃ i n, q.kind = .tune i (some n) := by
      cases hk : q.kind with
      | toll b d i n => simp [hk, PlayKind.unstarted] at hu
      | tune i v =>
        cases v with
        | none => simp [hk, PlayKind.unstarted] at hu
        | some n => exact ⟨i, n, rfl⟩
    obtain ⟨i, n, hk⟩ := hk
    have hholds (j : Fin 96) (m : Nat) : (s.player p).holds j m = if j = i ∧ m = n then 1 else 0 := by
      rw [Player.holds_some hq, hk]
      simp [eq_comm]
    have hr : (s.setPlayer p { s.player p with play := none }).releaseVersion q.kind =
        { s.setPlayer p { s.player p with play := none } with tunes := s.tunes.release i n } := by rw [hk]; rfl
    rw [hr]
    refine h.tuneChanged (i := i) hx (fun j hj m => ?_) (fun j hj => ?_) rfl rfl (fun f hf => ?_) fun hn => ?_
    · rw [hnone, hholds, if_neg fun hx => hj hx.1]
    · exact TuneStore.setVersions_unmoved _ _ _ _ hj
    · have hs : TuneSound (s.tunes.slots[i].current.map (TuneSound.lower n))
          (((s.tunes.retiringOf i).map (TuneSound.lower n)).filter fun v => decide (0 < v.users)) f s.tunes.nextSerial
          (s.tunes.staging.uploadsFor i) := by
        refine (h.tune i).release fun m => ?_
        have := hf m
        rw [hnone, hholds] at this
        by_cases hm : m = n
        · simp [hm] at this ⊢; omega
        · simp [hm] at this ⊢; omega
      unfold TuneStore.release
      rw [TuneStore.setVersions_self, TuneStore.setVersions_retiringOf]
      exact hs
    · unfold TuneStore.release at hn ⊢
      rw [TuneStore.setVersions_self] at hn
      rw [TuneStore.setVersions_retiringOf]
      exact List.head?_eq_none_iff.mp hn

/-- An INCOMING play starts and takes the CURRENT version of its tune. -/
theorem begun (h : s.VersionsSound) {p : PlayerNo} {q : Play} (hp : (s.player p).play = none) (hq : (s.player p).incoming = some q) :
    (s.startPlay p q).VersionsSound := by
  have hnone (i : Fin 96) (n : Nat) : (s.player p).holds i n = 0 := Player.holds_none hp i n
  have hu := h.incoming hq
  unfold State.startPlay
  dsimp only
  split
  · next hk =>
    refine h.setPlayer (fun i n => ?_) fun r hr => by cases hr
    rw [hnone, Player.holds_some rfl, if_neg]
    simp [hk]
  · next i _ hk =>
    split
    · next v hv =>
      have hs := h.tuneChanged (p := p) (i := i) (y := s.tunes.take i)
        (x := { play := some (s.running q (.tune i (some v.serial))), incoming := none }) (fun r hr => by cases hr) (fun j hj n => ?_)
        (fun j hj => ?_) rfl rfl (fun f hf => ?_) fun hn => ?_
      · exact hs.of_engine rfl rfl
      · rw [hnone, Player.holds_some rfl, State.running_kind, if_neg]
        simp [Ne.symm hj]
      · refine ⟨?_, TuneStore.take_retiringOf _⟩
        have : (i : Nat) ≠ j := fun k => hj (Fin.ext k.symm)
        simp [TuneStore.take, this]
      · have hc : s.tunes.slots[i].current = some v := hv
        rw [TuneStore.take_current, if_pos rfl, TuneStore.take_retiringOf, hc]
        have ht := h.tune i
        rw [hc] at ht
        refine ht.take fun m => ?_
        have := hf m
        rw [hnone, Player.holds_some rfl, State.running_kind] at this
        simp only [PlayKind.tune.injEq, Option.some.injEq, true_and] at this
        rw [Nat.add_zero] at this
        rw [this]
        by_cases hm : m = v.serial <;> simp [hm, eq_comm]
      · rw [TuneStore.take_retiringOf]
        refine h.placed i ?_
        simpa [TuneStore.take] using hn
    · have hf : (s.setPlayer p Player.free).VersionsSound :=
        h.setPlayer (fun i n => by rw [hnone]; exact Player.holds_none rfl i n) fun r hr => by cases hr
      have hr : ((s.setPlayer p Player.free).releaseVersion q.kind) = s.setPlayer p Player.free := State.releaseVersion_unstarted hu
      unfold State.finish
      rw [hr]
      exact hf.of_engine (by simp) (by simp)

/-- Plays that do not run come and go. -/
theorem requeued (h : s.VersionsSound) {w : List Play} (hw : ∀ q ∈ w, q.kind.unstarted = true) : (s.setWaiting w).VersionsSound := by
  refine h.congr rfl (funext fun i => funext fun n => ?_) fun q hq => ?_
  · rw [State.holders_eq, State.holders_eq]; rfl
  · rcases List.mem_append.mp hq with hq | hq
    · exact h.unstarted q (List.mem_append_left _ hq)
    · exact hw q hq

end State.VersionsSound

theorem Launched.unstarted {P : State → Prop} {q : Play} (h : Launched P s q) : q.kind.unstarted = true := by
  obtain ⟨s₀, l, st, -, -, -, rfl, hl⟩ := h
  exact hl

theorem State.versionsSound_kept : Kept State.VersionsSound (fun _ => True) fun q => q.kind.unstarted = true where
  toKeptBase := .of_engine (fun s t h he ht _ => h.of_engine ht he) fun s i f hf h => by
    have ha := (PlayEngine.Alike.refl s.engine).modPlay hf i
    refine h.congr (by simp) ha.holders ?_
    obtain ⟨g, hg, he⟩ := ha
    rw [he]
    intro q hq
    simp only [List.mem_append, Option.mem_toList, Option.map_eq_some_iff, List.mem_map] at hq
    have key {r : Play} (hr : r ∈ s.engine.player0.incoming.toList ++ s.engine.player1.incoming.toList ++ s.engine.waiting) :
        (g r).kind.unstarted = true := by rw [hg.kind]; exact h.unstarted r hr
    rcases hq with (⟨r, hr, rfl⟩ | ⟨r, hr, rfl⟩) | ⟨r, hr, rfl⟩
    · exact key (by simp [hr])
    · exact key (by simp [hr])
    · exact key (by simp [hr])
  unstarted s h q hq := hq.elim (fun ⟨_, hp⟩ => h.incoming hp) h.waiting
  fresh _ h := h
  freed s q hq h := by rw [State.releaseVersion_unstarted hq]; exact h
  left s p q hq h := h.left hq
  dismissed s p h := h.setPlayer (fun _ _ => rfl) fun q hq => by cases hq
  dropped s w hw h := h.requeued fun q hq => h.waiting (hw.subset hq)
  drained s p q hq h := h.setPlayer (fun i n => by rw [Player.holds_some rfl, Player.holds_some hq]) fun r hr => h.incoming hr
  begun s p q hp hq h := h.begun hp hq
  promoted s p q rest hp hw _ h := by
    have hq : q.kind.unstarted = true := h.waiting (by rw [hw]; exact List.mem_cons_self)
    have hr : (s.setWaiting rest).VersionsSound := h.requeued fun r hr => h.waiting (by rw [hw]; exact List.mem_cons_of_mem _ hr)
    refine hr.setPlayer (fun i n => ?_) fun r hr => by cases hr; exact hq
    have : ((s.setWaiting rest).player p).play = none := (Player.isFree_iff.mp hp).1
    rw [Player.holds_none rfl, Player.holds_none this]
  numbered s i h := h.congr rfl (funext fun i => funext fun n => by rw [State.holders_eq, State.holders_eq]) h.unstarted
  arrived s p q _ _ hl h := h.setPlayer (fun _ _ => rfl) fun r hr => by cases hr; exact hl.unstarted
  waits s q _ hl _ h := h.requeued fun r hr => by
    rcases List.mem_cons.mp ((placePlay_perm q _).mem_iff.mp hr) with rfl | hr
    · exact hl.unstarted
    · exact h.waiting hr

end Sys2Proof.Machine

/-! ### Proofs: the versions after a change of the Tune Store (R104, R105, R108, R111) -/

namespace Sys2Proof.Machine

open Sys2Proof

variable {s t : State}

/-- The versions' law with the laws of the plays and of the upload that it needs. -/
def State.VersionsKept (s : State) : Prop := s.VersionsSound ∧ s.PlaysActive ∧ s.tunes.staging.Law

theorem State.versionsKept_kept : Kept State.VersionsKept (fun _ => True ∧ True ∧ True) fun q => q.kind.unstarted = true ∧ True ∧ True :=
  State.versionsSound_kept.and (State.playsActive_kept.and State.uploads_kept)

/-- Without plays no version is held. -/
theorem State.PlaysActive.holders_zero (h : s.PlaysActive) (hm : s.ctl.mode = .loading) (i : Fin 96) (n : Nat) : s.holders i n = 0 := by
  have hr := h (by rw [hm]; decide)
  simp only [State.playRecords, List.append_eq_nil_iff] at hr
  obtain ⟨⟨⟨⟨h1, -⟩, h2⟩, -⟩, -⟩ := hr
  simp [State.holders, h1, h2]

/-- A tune without versions and without plays that hold one. -/
theorem TuneSound.empty {f : Nat → Nat} {n : Nat} (hf : ∀ n, f n = 0) : TuneSound none [] f n 0 where
  serials := .nil
  past v hv := by cases hv
  users v hv := by cases hv
  retiring v hv := by cases hv
  kept n hn := by rw [hf] at hn; cases hn
  two := Nat.zero_le _
  ranged v hv := by cases hv

theorem TuneStore.start_retiringOf (i : Fin 96) : TuneStore.start.retiringOf i = [] := by
  have hr : TuneStore.start.slots[i].retiring = none := by simp [TuneStore.start]
  rw [TuneStore.retiringOf, hr]; rfl

namespace State.VersionsSound

/-- The Tune Store changed as a whole, tune by tune. -/
theorem stored (h : s.VersionsSound) {x : TuneStore} (hx : ∀ i, s.TuneSoundAt x i)
    (hp : ∀ i : Fin 96, x.slots[i].retiring = none → x.retiringOf i = []) : ({ s with tunes := x } : State).VersionsSound :=
  ⟨fun i => hx i, hp, h.unstarted⟩

/-- One tune's versions set. -/
theorem set (h : s.VersionsSound) {i : Fin 96} {c : Option Version} {l : List Version} {y : TuneStore}
    (hslots : y.slots = (s.tunes.setVersions i c l).slots) (hdis : y.displaced = (s.tunes.setVersions i c l).displaced)
    (hn : s.tunes.nextSerial ≤ y.nextSerial) (hs : ∀ j, y.staging.uploadsFor j ≤ s.tunes.staging.uploadsFor j)
    (hi : TuneSound c l (s.holders i) y.nextSerial (y.staging.uploadsFor i)) : ({ s with tunes := y } : State).VersionsSound :=
  h.stored (fun j => State.TuneSoundAt.setVersions (fun j _ => h.tune j) hslots hdis hn hs hi j)
    (TuneStore.setVersions_placed h.placed hslots hdis)

/-- The staging area changed: no tune has more uploads than its versions leave room for. -/
theorem staged (h : s.VersionsSound) {x : Staging} (hx : ∀ i, (s.tunes.versionsOf i).length + x.uploadsFor i ≤ 2) :
    ({ s with tunes := { s.tunes with staging := x } } : State).VersionsSound :=
  h.stored (fun i => ⟨(h.tune i).serials, (h.tune i).past, (h.tune i).users, (h.tune i).retiring, (h.tune i).kept, hx i, (h.tune i).ranged⟩) h.placed

end State.VersionsSound

theorem Version.formOk_events {v : Version} (h : v.formOk = true) :
    ∀ e ∈ v.events, 1 ≤ e.dynamic ∧ e.dynamic ≤ 8 ∧ -50 ≤ e.nudge ∧ e.nudge ≤ 50 := by
  simp only [formOk, Bool.and_eq_true, List.all_eq_true, decide_eq_true_eq, within] at h
  obtain ⟨⟨⟨⟨⟨⟨-, h⟩, -⟩, -⟩, -⟩, -⟩, -⟩ := h
  intro e he
  obtain ⟨⟨-, h1⟩, h2⟩ := h e he
  exact ⟨h1.1, h1.2, h2⟩

theorem Staging.uploadsFor_le (x : Staging) (i : Fin 96) : x.uploadsFor i ≤ 1 := by
  cases x <;> simp only [uploadsFor] <;> (try split) <;> decide

theorem State.TunesMove.versions {x : TuneStore} (h : s.VersionsKept) (m : s.TunesMove x) : ({ s with tunes := x } : State).VersionsSound := by
  obtain ⟨hv, ha, hu⟩ := h
  cases m with
  | @opened i nm sl a d y _ hr _ _ =>
    refine hv.staged fun j => ?_
    by_cases e : i = j
    · subst e
      have hc : s.tunes.slots[i].current.toList.length ≤ 1 := by cases s.tunes.slots[i].current <;> simp
      have hz : (s.tunes.versionsOf i).length ≤ 1 := by
        rw [TuneStore.versionsOf, hv.placed i hr, List.append_nil]; exact hc
      exact Nat.add_le_add hz (Staging.uploadsFor_le _ i)
    · have hz : (Staging.opened (({ s.tunes with staging := y } : TuneStore).newUpload i nm sl a d)).uploadsFor j = 0 := if_neg e
      rw [hz]
      exact Nat.le_trans (Nat.le_add_right _ _) (hv.tune j).two
  | @staged u v es hst _ hs _ =>
    refine hv.staged fun j => ?_
    have := (hv.tune j).two
    rw [hst] at this
    have he : (Staging.opened v).uploadsFor j = (Staging.opened u).uploadsFor j := by simp [Staging.uploadsFor, (stageEvents_fixed hs).2.1]
    rw [he]; exact this
  | @closed u c hst _ =>
    refine hv.staged fun j => ?_
    have := (hv.tune j).two
    rw [hst] at this
    exact this
  | dropped => exact hv.staged fun j => Nat.le_trans (Nat.le_add_right _ _) (hv.tune j).two
  | retired => exact hv.set rfl rfl (Nat.le_refl _) (fun _ => Nat.le_refl _) (hv.tune _).retire
  | @switched u hst =>
    rw [hst] at hu
    have hdrop : ({ s with tunes := { s.tunes with staging := .none, nextSerial := s.tunes.nextSerial + 1 } } : State).VersionsSound :=
      (hv.staged (x := .none) fun j => Nat.le_trans (Nat.le_add_right _ _) (hv.tune j).two).stored
        (fun i => ((hv.tune i).weaken (Nat.le_succ _) (Nat.zero_le _))) hv.placed
    have hret := hdrop.set (y := ({ s.tunes with staging := .none, nextSerial := s.tunes.nextSerial + 1 } : TuneStore).retire u.tune) rfl rfl
      (Nat.le_refl _) (fun _ => Nat.le_refl _) (hdrop.tune u.tune).retire
    refine hret.set rfl rfl (Nat.le_refl _) (fun _ => Nat.le_refl _) ?_
    have hlen : ((s.tunes.slots[u.tune].current.toList.filter fun v => decide (0 < v.users)) ++ s.tunes.retiringOf u.tune).length ≤ 1 := by
      have h2 := (hv.tune u.tune).two
      rw [hst] at h2
      have h1 : (Staging.committing u).uploadsFor u.tune = 1 := if_pos rfl
      have hsub : ((s.tunes.slots[u.tune].current.toList.filter fun v => decide (0 < v.users)) ++ s.tunes.retiringOf u.tune).length ≤
        (s.tunes.slots[u.tune].current.toList ++ s.tunes.retiringOf u.tune).length :=
        (List.Sublist.append_right List.filter_sublist _).length_le
      omega
    have hold := ((hv.tune u.tune).weaken (Nat.le_refl _) (Nat.zero_le (s.tunes.staging.uploadsFor u.tune))).retire
    have hnew := hold.renew (v := u.version s.tunes.nextSerial) (k' := 0) rfl rfl (by omega) hu.1.ranged
    have hr : (({ s.tunes with staging := .none, nextSerial := s.tunes.nextSerial + 1 } : TuneStore).retire u.tune).retiringOf u.tune =
        (s.tunes.slots[u.tune].current.toList.filter fun v => decide (0 < v.users)) ++ s.tunes.retiringOf u.tune := TuneStore.retire_retiringOf _ _
    rw [hr]
    exact hnew
  | emptied hm =>
    refine hv.stored (fun i => ?_) fun i _ => ?_
    · have hs : TuneStore.start.slots[i].current = none := by simp [TuneStore.start]
      have hr : TuneStore.start.retiringOf i = [] := by simp [TuneStore.start, TuneStore.retiringOf]
      unfold State.TuneSoundAt
      rw [hs, hr]
      exact TuneSound.empty fun n => ha.holders_zero hm i n
    · exact TuneStore.start_retiringOf i
  | @loaded i e hm hs hf =>
    refine hv.set rfl rfl (Nat.le_succ _) (fun _ => Nat.le_refl _) ?_
    have hz (n : Nat) : s.holders i n = 0 := ha.holders_zero hm i n
    have hnone : TuneSound none [] (s.holders i) s.tunes.nextSerial 0 := TuneSound.empty hz
    have hst : (s.tunes.staging).uploadsFor i = 0 := by rw [hs]; rfl
    have := hnone.renew (v := { e.version with users := 0, serial := s.tunes.nextSerial }) (k' := 0) rfl rfl (by decide)
      (Version.formOk_events (StoredTune.failure_none hf).1)
    show TuneSound _ _ _ (s.tunes.nextSerial + 1) ((s.tunes.staging).uploadsFor i)
    rw [hst]
    exact this

theorem State.versionsSound_start {t : State} (ht : t.tunes = TuneStore.start) (he : t.engine = PlayEngine.start) : t.VersionsSound := by
  have hz (i : Fin 96) (n : Nat) : t.holders i n = 0 := by rw [State.holders_eq, he]; rfl
  refine ⟨fun i => ?_, fun i _ => ?_, ?_⟩
  · have hs : TuneStore.start.slots[i].current = none := by simp [TuneStore.start]
    have hr : TuneStore.start.retiringOf i = [] := by simp [TuneStore.start, TuneStore.retiringOf]
    rw [ht, hs, hr]
    exact TuneSound.empty (hz i)
  · rw [ht]; exact TuneStore.start_retiringOf i
  · rw [he]; intro q hq; cases hq

theorem State.versionsKept_sound : Sound State.VersionsKept (fun _ => True ∧ True ∧ True) fun q => q.kind.unstarted = true ∧ True ∧ True where
  toKept := State.versionsKept_kept
  linked s t hl h := by rw [hl.rest]; exact ⟨h.1.of_engine rfl rfl, h.2.1, h.2.2⟩
  start _ _ _ _ _ := ⟨State.versionsSound_start rfl rfl, fun _ => rfl, trivial⟩
  entered _ m r c he h := ⟨State.versionsSound_kept.enterMode (fun _ _ h => h.of_engine rfl rfl) h.1 m r c,
    State.playsActive_sound.entered _ m r c he h.2.1, State.uploads_sound.entered _ m r c he h.2.2⟩
  steered s c hc hr h := ⟨h.1.of_engine rfl rfl, State.playsActive_sound.steered s c hc hr h.2.1, h.2.2⟩
  area s a _ _ h := ⟨h.1.of_engine rfl rfl, h.2.1, h.2.2⟩
  tunes s x m h := ⟨m.versions h, State.playsActive_sound.tunes s x m h.2.1, m.uploads h.2.2⟩
  budget _ _ _ _ _ h := ⟨h.1.of_engine rfl rfl, h.2.1, h.2.2⟩
  pended _ _ _ _ h := ⟨h.1.of_engine rfl rfl, h.2.1, h.2.2⟩
  cooled _ b h := State.versionsKept_kept.coolBell (fun _ _ _ h => ⟨h.1.of_engine rfl rfl, h.2.1, h.2.2⟩) h b

/-- Settles O12. -/
theorem stepKeepsTheVersionsHeld : Obligations.StepKeepsTheVersionsHeld := fun _ _ hp hu hv hs =>
  State.versionsLaw_iff.mpr (State.versionsKept_sound.step (fun _ _ _ h => ⟨h.1.of_engine rfl rfl, h.2.1, h.2.2⟩)
    ⟨State.versionsLaw_iff.mp hv, hp.active, State.uploadLaw_iff.mp hu⟩ hs).1

end Sys2Proof.Machine

/-! ### Proofs: what the examination of an offer leaves beside it (R25 to R30) -/

namespace Sys2Proof.Machine

open Sys2Proof

variable {s : State}

/-- Two entries of one bell stand a recovery apart and have different note times (R19, R25). -/
def Entry.Apart (recovery : Nat) (a b : Entry) : Prop := (recovery : Int) ≤ |a.fire - b.fire| ∧ a.noteTime ≠ b.noteTime

theorem Entry.Apart.symm {r : Nat} {a b : Entry} (h : a.Apart r b) : b.Apart r a := by
  obtain ⟨h1, h2⟩ := h
  exact ⟨by rwa [abs_sub_comm], h2.symm⟩

theorem Entry.clashes_iff {r : Nat} {x e : Entry} : x.clashes r e = false ↔ x.Apart r e := by
  simp [Entry.clashes, Entry.Apart]

/-- Entries of a list kept apart are told by their note times. -/
theorem apart_eq {r : Nat} {l : List Entry} (h : l.Pairwise (Entry.Apart r)) {x y : Entry} (hx : x ∈ l) (hy : y ∈ l)
    (ht : x.noteTime = y.noteTime) : x = y := by
  have symm : Std.Symm (Entry.Apart r) := ⟨fun _ _ h => h.symm⟩
  by_contra hn
  exact (h.forall hx hy hn).2 ht

theorem Entry.before_fire {a b : Entry} (h : a.before b = true) : a.fire ≤ b.fire := by
  simp only [Entry.before, Bool.or_eq_true, Bool.and_eq_true, decide_eq_true_eq] at h
  omega

/-- An entry that obeys the law of the queue on its own: its number, its lead, and its fire time between the original and the slack past it. -/
structure Entry.Sound (slack : Nat) (e : Entry) : Prop where
  number : e.number < Config.numberSpan
  lead : e.noteTime - e.origFire ≤ 400
  early : e.origFire ≤ e.fire
  late : e.fire ≤ e.origFire + slack

theorem Entry.Sound.moved {slack : Nat} {e : Entry} (h : e.Sound slack) {fire : Int} (h1 : e.fire ≤ fire) (h2 : fire ≤ e.origFire + slack) :
    Entry.Sound slack { e with fire := fire } := ⟨h.number, h.lead, h.early.trans h1, h2⟩

/-- What stands in an examination (R27 to R29): the bell's entries as decided so far are sound and apart, those still to be examined among them and in order,
and those examined are apart from the note and stand no later than those to come. `n` is the number of entries it began with. -/
structure Examining (b : BellNo) (recovery slack n : Nat) (todo others removed : List Entry) (e : Entry) : Prop where
  bells : ∀ y ∈ others, y.bell = b
  bell : e.bell = b
  sounds : ∀ y ∈ others, y.Sound slack
  sound : e.Sound slack
  apart : others.Pairwise (Entry.Apart recovery)
  subset : todo ⊆ others
  nodup : todo.Nodup
  ordered : todo.Pairwise fun a b => a.before b = true
  examined : ∀ y ∈ others, y ∉ todo → y.Apart recovery e ∧ ∀ z ∈ todo, y.fire ≤ z.fire
  count : others.length + removed.length = n

namespace Examining

variable {b : BellNo} {recovery slack n : Nat} {x e : Entry} {todo others removed : List Entry}

theorem mem (h : Examining b recovery slack n (x :: todo) others removed e) : x ∈ others := h.subset List.mem_cons_self

/-- An entry examined is no later than those to come. -/
theorem first (h : Examining b recovery slack n (x :: todo) others removed e) {z : Entry} (hz : z ∈ todo) : x.fire ≤ z.fire :=
  Entry.before_fire ((List.pairwise_cons.mp h.ordered).1 z hz)

/-- The entries examined, with the first of those to come. -/
theorem done_or (h : Examining b recovery slack n (x :: todo) others removed e) {y : Entry} (hy : y ∈ others) (hn : y ∉ todo) :
    y = x ∨ y ≠ x ∧ y.Apart recovery e ∧ y.fire ≤ x.fire ∧ ∀ z ∈ todo, y.fire ≤ z.fire := by
  by_cases hx : y = x
  · exact .inl hx
  · obtain ⟨h1, h2⟩ := h.examined y hy (by simp [hx, hn])
    exact .inr ⟨hx, h1, h2 x List.mem_cons_self, fun z hz => h2 z (List.mem_cons_of_mem _ hz)⟩

/-- The entry stays where it stands, apart from the note. -/
theorem stays (h : Examining b recovery slack n (x :: todo) others removed e) (hx : x.Apart recovery e) :
    Examining b recovery slack n todo others removed e where
  bells := h.bells
  bell := h.bell
  sounds := h.sounds
  sound := h.sound
  apart := h.apart
  subset := fun _ hy => h.subset (List.mem_cons_of_mem _ hy)
  nodup := (List.nodup_cons.mp h.nodup).2
  ordered := (List.pairwise_cons.mp h.ordered).2
  examined y hy hn := by
    rcases h.done_or hy hn with rfl | ⟨-, h1, -, h2⟩
    · exact ⟨hx, fun z hz => h.first hz⟩
    · exact ⟨h1, h2⟩
  count := h.count

/-- The note moves a recovery past an entry that outranks it. -/
theorem noteMoves (h : Examining b recovery slack n (x :: todo) others removed e) (hc : |x.fire - e.fire| < recovery)
    (ht : x.noteTime ≠ e.noteTime) (hs : x.fire + recovery ≤ e.origFire + slack) :
    Examining b recovery slack n todo others removed { e with fire := x.fire + recovery } where
  bells := h.bells
  bell := h.bell
  sounds := h.sounds
  sound := h.sound.moved (by rw [abs_lt] at hc; omega) hs
  apart := h.apart
  subset := fun _ hy => h.subset (List.mem_cons_of_mem _ hy)
  nodup := (List.nodup_cons.mp h.nodup).2
  ordered := (List.pairwise_cons.mp h.ordered).2
  examined y hy hn := by
    rcases h.done_or hy hn with rfl | ⟨-, h1, hle, h2⟩
    · refine ⟨⟨?_, ht⟩, fun z hz => h.first hz⟩
      rw [le_abs]; right; dsimp only; omega
    · refine ⟨⟨?_, h1.2⟩, h2⟩
      rw [le_abs]; right; dsimp only; omega
  count := h.count

/-- The entry x as the note moves it, seen among the bell's entries. -/
def push (x : Entry) (fire : Int) (y : Entry) : Entry := if x.same y then { y with fire := fire } else y

theorem push_self (x : Entry) (fire : Int) : push x fire x = { x with fire := fire } := by simp [push]

theorem push_other (h : Examining b recovery slack n (x :: todo) others removed e) {y : Entry} (hy : y ∈ others) (hn : y ≠ x) (fire : Int) :
    push x fire y = y := by
  have : x.same y ≠ true := fun hs => hn (apart_eq h.apart hy h.mem (Entry.same_iff.mp hs).2.symm)
  simp [push, this]

theorem push_noteTime (x : Entry) (fire : Int) (y : Entry) : (push x fire y).noteTime = y.noteTime := by unfold push; split <;> rfl

/-- The entry moves a recovery past the note, clear of the bell's other entries. -/
theorem entryMoves (h : Examining b recovery slack n (x :: todo) others removed e) (hc : |x.fire - e.fire| < recovery)
    (hs : e.fire + recovery ≤ x.origFire + slack) (hclear : clearOf recovery x (e.fire + recovery) others = true) :
    Examining b recovery slack n (placeEntry { x with fire := e.fire + recovery } todo) (others.map (push x (e.fire + recovery))) removed e := by
  have hx := h.mem
  have hxb := h.bells x hx
  obtain ⟨hxt, hnd⟩ := List.nodup_cons.mp h.nodup
  have later : x.fire < e.fire + recovery := by rw [abs_lt] at hc; omega
  have clear {y : Entry} (hy : y ∈ others) (hn : y ≠ x) : (recovery : Int) ≤ |y.fire - (e.fire + recovery)| := by
    have := List.all_eq_true.mp hclear y hy
    have hsame : x.same y = false := Bool.eq_false_iff.mpr fun hs => hn (apart_eq h.apart hy hx (Entry.same_iff.mp hs).2.symm)
    simpa [hsame] using this
  have cases {y : Entry} (hy : y ∈ others.map (push x (e.fire + recovery))) :
      y = { x with fire := e.fire + recovery } ∨ y ∈ others ∧ y ≠ x := by
    obtain ⟨z, hz, rfl⟩ := List.mem_map.mp hy
    by_cases hzx : z = x
    · exact .inl (by rw [hzx, push_self])
    · right; rw [h.push_other hz hzx]; exact ⟨hz, hzx⟩
  have keeps {y : Entry} (hy : y ∈ todo) : y ∈ others.map (push x (e.fire + recovery)) := by
    have hyo := h.subset (List.mem_cons_of_mem _ hy)
    exact List.mem_map.mpr ⟨y, hyo, h.push_other hyo (fun hyx => hxt (hyx ▸ hy)) _⟩
  have mine : { x with fire := e.fire + recovery } ∈ others.map (push x (e.fire + recovery)) := List.mem_map.mpr ⟨x, hx, push_self _ _⟩
  refine ⟨fun y hy => ?_, h.bell, fun y hy => ?_, h.sound, ?_, fun y hy => ?_, ?_, placeEntry_ordered (List.pairwise_cons.mp h.ordered).2, ?_, ?_⟩
  · rcases cases hy with rfl | ⟨hy, -⟩
    · exact hxb
    · exact h.bells y hy
  · rcases cases hy with rfl | ⟨hy, -⟩
    · exact (h.sounds x hx).moved (Int.le_of_lt later) hs
    · exact h.sounds y hy
  · refine List.pairwise_map.mpr ?_
    have hnodup : others.Nodup := h.apart.imp fun hab hne => hab.2 (by rw [hne])
    refine List.Pairwise.imp_of_mem (fun {a b} ha hb hab => ?_) (h.apart.and hnodup)
    obtain ⟨hab, hne⟩ := hab
    refine ⟨?_, by rw [push_noteTime, push_noteTime]; exact hab.2⟩
    by_cases hax : a = x
    · subst hax
      rw [push_self, h.push_other hb (Ne.symm hne), abs_sub_comm]
      exact clear hb (Ne.symm hne)
    · rw [h.push_other ha hax]
      by_cases hbx : b = x
      · subst hbx; rw [push_self]; exact clear ha hax
      · rw [h.push_other hb hbx]; exact hab.1
  · rcases mem_placeEntry.mp hy with rfl | hy
    · exact mine
    · exact keeps hy
  · refine (placeEntry_perm _ _).nodup_iff.mpr (List.nodup_cons.mpr ⟨fun hm => ?_, hnd⟩)
    have := apart_eq h.apart hx (h.subset (List.mem_cons_of_mem _ hm)) rfl
    exact hxt (this ▸ hm)
  · intro y hy hn
    rcases cases hy with rfl | ⟨hy, hyx⟩
    · exact absurd (mem_placeEntry.mpr (.inl rfl)) hn
    · have hyt : y ∉ todo := fun hm => hn (mem_placeEntry.mpr (.inr hm))
      obtain ⟨-, h1, hle, h2⟩ := (h.done_or hy hyt).resolve_left hyx
      refine ⟨h1, fun z hz => ?_⟩
      rcases mem_placeEntry.mp hz with rfl | hz
      · exact hle.trans (Int.le_of_lt later)
      · exact h2 z hz
  · rw [List.length_map]; exact h.count

/-- The entry is removed. -/
theorem leaves (h : Examining b recovery slack n (x :: todo) others removed e) :
    Examining b recovery slack n todo (withoutEntry x others) (removed ++ [x]) e := by
  have hx := h.mem
  obtain ⟨hxt, hnd⟩ := List.nodup_cons.mp h.nodup
  have hnodup : others.Nodup := h.apart.imp fun hab hne => hab.2 (by rw [hne])
  have hw : withoutEntry x others = others.filter fun y => decide (y ≠ x) := by
    refine List.filter_congr fun y hy => ?_
    rw [Bool.eq_iff_iff]
    simp only [Bool.not_eq_true', decide_eq_true_eq]
    constructor
    · rintro hs rfl; simp at hs
    · intro hne
      exact Bool.eq_false_iff.mpr fun hs => hne (apart_eq h.apart hy hx (Entry.same_iff.mp hs).2.symm)
  have mem {y : Entry} : y ∈ withoutEntry x others ↔ y ∈ others ∧ y ≠ x := by rw [hw]; simp
  refine ⟨fun y hy => h.bells y (mem.mp hy).1, h.bell, fun y hy => h.sounds y (mem.mp hy).1, h.sound, h.apart.filter _, fun y hy => ?_, hnd,
    (List.pairwise_cons.mp h.ordered).2, fun y hy hn => ?_, ?_⟩
  · exact mem.mpr ⟨h.subset (List.mem_cons_of_mem _ hy), fun hyx => hxt (hyx ▸ hy)⟩
  · obtain ⟨hy, hyx⟩ := mem.mp hy
    obtain ⟨-, h1, -, h2⟩ := (h.done_or hy hn).resolve_left hyx
    exact ⟨h1, h2⟩
  · have herase : others.filter (fun y => decide (y ≠ x)) = others.erase x := by
      rw [hnodup.erase_eq_filter]; exact List.filter_congr fun y _ => by simp [bne, Bool.beq_eq_decide_eq]
    rw [hw, herase, List.length_erase_of_mem hx, List.length_append, List.length_singleton]
    have := List.length_pos_of_mem hx
    have := h.count
    omega

/-- What an examination that places the note leaves: sound entries apart from it and from one another. -/
theorem place : ∀ {fuel : Nat} {todo others removed : List Entry} {e : Entry} {e' : Entry} {others' removed' : List Entry},
    Examining b recovery slack n todo others removed e → examine recovery slack fuel todo others removed e = .place e' others' removed' →
    Examining b recovery slack n [] others' removed' e' ∧ e' = { e with fire := e'.fire }
  | 0, _, _, _, _, _, _, _, _, hx => by cases hx
  | fuel + 1, [], _, _, _, _, _, _, h, hx => by
    unfold examine at hx
    cases hx
    exact ⟨h, rfl⟩
  | fuel + 1, x :: todo, others, removed, e, e', others', removed', h, hx => by
    unfold examine at hx
    split at hx
    · next hc => exact place (h.stays (Entry.clashes_iff.mp (by simpa using hc))) hx
    · next hc =>
      have near {y : Entry} (hn : y.noteTime ≠ e.noteTime) (hy : ¬ (!y.clashes recovery e) = true) : |y.fire - e.fire| < recovery := by
        simpa [Entry.clashes, hn] using hy
      split at hx
      · split at hx
        · next hm =>
          obtain ⟨h1, h2⟩ := place (h.noteMoves (near hm.1 hc) hm.1 hm.2) hx
          exact ⟨h1, by rw [h2]⟩
        · cases hx
      · split at hx
        · next hm => exact place (h.entryMoves (near hm.1 hc) hm.2.1 hm.2.2) hx
        · exact place h.leaves hx

end Examining

end Sys2Proof.Machine

/-! ### Proofs: the Firing Queue stays in order, its entries apart and within their slack (R18, R19, R23, R25, R28, R31, R37, R41) -/

namespace Sys2Proof.Machine

open Sys2Proof

variable {s t : State}

/-- What a queued entry obeys whatever the settings of its bell. -/
structure Entry.Fit (e : Entry) : Prop where
  number : e.number < Config.numberSpan
  early : e.origFire ≤ e.fire
  lead : e.noteTime - e.origFire ≤ 400

/-- Two entries of one bell are a recovery of that bell apart. -/
def State.EntriesApart (s : State) (a b : Entry) : Prop := a.bell = b.bell → a.Apart (s.bell a.bell).settings.recovery b

theorem State.EntriesApart.symm {a b : Entry} (h : s.EntriesApart a b) : s.EntriesApart b a := fun hb => by
  rw [hb]; exact (h hb.symm).symm

/-- The queue's law apart from the modes in which it is empty. -/
structure State.QueueCore (s : State) : Prop where
  ordered : s.sched.queue.Pairwise fun a b => a.before b = true
  counted : s.sched.nextNumber < Config.numberSpan
  apart : s.sched.queue.Pairwise s.EntriesApart
  sounds : ∀ e ∈ s.sched.queue, e.Sound (s.bell e.bell).settings.slack
  capped : s.slotsTaken ≤ Config.queueCap

/-- Entries stand in ACTIVE and COMMISSION only. -/
def State.QueueModes (s : State) : Prop := s.ctl.mode ≠ .active → s.ctl.mode ≠ .commission → s.sched.queue = []

theorem State.queueLaw_iff : s.QueueLaw ↔ s.QueueCore ∧ s.QueueModes :=
  ⟨fun h => ⟨⟨h.ordered, h.counted, h.apart, fun e he => ⟨h.numbered e he, h.lead e he, (h.slack e he).1, (h.slack e he).2⟩, h.capped⟩, h.offered⟩,
   fun h => ⟨h.1.ordered, fun e he => (h.1.sounds e he).number, h.1.counted, h.1.apart, fun e he => ⟨(h.1.sounds e he).early, (h.1.sounds e he).late⟩,
     fun e he => (h.1.sounds e he).lead, h.1.capped, h.2⟩⟩

theorem Entry.Sound.fit {slack : Nat} {e : Entry} (h : e.Sound slack) : e.Fit := ⟨h.number, h.early, h.lead⟩

namespace State.QueueCore

/-- Fewer entries, of bells whose settings stand. -/
theorem fewer (h : s.QueueCore) (hq : t.sched.queue.Sublist s.sched.queue) (hn : t.sched.nextNumber = s.sched.nextNumber)
    (hc : t.slotsTaken ≤ Config.queueCap) (hb : ∀ e ∈ t.sched.queue, (t.bell e.bell).settings = (s.bell e.bell).settings) : t.QueueCore where
  ordered := h.ordered.sublist hq
  counted := by rw [hn]; exact h.counted
  apart := by
    refine (h.apart.sublist hq).imp_of_mem fun {a b} ha _ hab he => ?_
    rw [hb a ha]; exact hab he
  sounds e he := by rw [hb e he]; exact h.sounds e (hq.subset he)
  capped := hc

/-- The same queue and the same slots, of bells whose settings stand. -/
theorem congr (h : s.QueueCore) (hs : t.sched = s.sched) (hb : ∀ b, (t.bell b).settings = (s.bell b).settings) : t.QueueCore :=
  h.fewer (by rw [hs]) (by rw [hs]) (by rw [State.slotsTaken, hs]; exact h.capped) fun e _ => hb e.bell

theorem nodup (h : s.QueueCore) : s.sched.queue.Nodup := h.apart.imp fun hab hne => (hab (by rw [hne])).2 (by rw [hne])

theorem entriesOf_apart (h : s.QueueCore) (b : BellNo) : (s.entriesOf b).Pairwise (Entry.Apart (s.bell b).settings.recovery) := by
  refine (h.apart.filter _).imp_of_mem fun {x y} hx hy hxy => ?_
  have hx' : x.bell = b := by simpa using (List.mem_filter.mp hx).2
  have hy' : y.bell = b := by simpa using (List.mem_filter.mp hy).2
  rw [← hx']; exact hxy (hx'.trans hy'.symm)

theorem modBell (h : s.QueueCore) (b : BellNo) {f : Bell → Bell} (hf : (f (s.bell b)).settings = (s.bell b).settings) : (s.modBell b f).QueueCore :=
  h.congr rfl fun c => by rw [State.modBell_bell]; split; exacts [by rename_i e; rw [← e]; exact hf, rfl]

/-- An entry that stands is moved to a later place clear of the bell's others (R37). -/
theorem moved (h : s.QueueCore) {e : Entry} {fire : Int} (he : e.Fit) (hq : s.queues e = true) (hf : e.fire ≤ fire) (hd : s.deferable e fire = true) :
    (s.setQueue (placeEntry { e with fire := fire } (withoutEntry e s.sched.queue))).QueueCore := by
  simp only [State.deferable, Bool.and_eq_true, decide_eq_true_eq, List.all_eq_true, Bool.or_eq_true] at hd
  obtain ⟨hlate, hclear⟩ := hd
  have hsub : (withoutEntry e s.sched.queue).Sublist s.sched.queue := List.filter_sublist
  have hsettings (b : BellNo) : (s.setQueue (placeEntry { e with fire := fire } (withoutEntry e s.sched.queue))).bell b = s.bell b := rfl
  refine ⟨placeEntry_ordered (h.ordered.sublist hsub), h.counted, ?_, fun y hy => ?_, ?_⟩
  · have symm : Std.Symm s.EntriesApart := ⟨fun _ _ h => h.symm⟩
    refine ((placeEntry_perm _ _).pairwise_iff (R := s.EntriesApart) fun h => h.symm).mpr (List.pairwise_cons.mpr ⟨fun y hy hb => ?_, h.apart.sublist hsub⟩)
    obtain ⟨hy, hne⟩ := mem_withoutEntry.mp hy
    have hn : e.noteTime ≠ y.noteTime := fun ht => hne ⟨hb, ht⟩
    have hyb : y ∈ s.entriesOf e.bell := List.mem_filter.mpr ⟨hy, by simpa using hb.symm⟩
    have := (hclear y hyb).resolve_left fun hs => hn (Entry.same_iff.mp hs).2
    exact ⟨by rw [abs_sub_comm]; exact this, hn⟩
  · rcases mem_placeEntry.mp hy with rfl | hy
    · exact ⟨he.number, he.lead, he.early.trans hf, hlate⟩
    · exact h.sounds y (hsub.subset hy)
  · have hlen : (placeEntry { e with fire := fire } (withoutEntry e s.sched.queue)).length ≤ s.sched.queue.length := by
      rw [(placeEntry_perm _ _).length_eq, List.length_cons]
      obtain ⟨y, hy, hs⟩ := List.any_eq_true.mp hq
      exact List.length_filter_lt_length_iff_exists.mpr ⟨y, hy, by simp [hs]⟩
    exact Nat.le_trans (Nat.add_le_add_right hlen _) h.capped

end State.QueueCore

theorem leadMs_le {x : Settings} (h : x.leadMin < x.leadMax) (hm : x.leadMax ≤ 400) (l d : Nat) : leadMs x l d ≤ 400 := by
  unfold leadMs clampInt
  have h1 : (16 * (x.leadMin : Int)) ≤ 16 * (x.leadMax : Int) := by omega
  have h2 : ((x.leadMax : Nat) : Int) ≤ 400 := by omega
  split <;> [skip; split] <;> omega

/-- The bell's entries as they stand, before the examination of a note. -/
theorem State.Offered.examining {e : Entry} (he : s.Offered e) (hb : s.BellsLaw) (h : s.QueueCore) :
    Examining e.bell (s.bell e.bell).settings.recovery (s.bell e.bell).settings.slack (s.entriesOf e.bell).length (s.entriesOf e.bell)
      (s.entriesOf e.bell) [] e where
  bells y hy := by simpa using (List.mem_filter.mp hy).2
  bell := rfl
  sounds y hy := by
    obtain ⟨hq, hbell⟩ := List.mem_filter.mp hy
    have hbell : y.bell = e.bell := by simpa using hbell
    rw [← hbell]; exact h.sounds y hq
  sound := by
    obtain ⟨d, hd⟩ := he.lead
    refine ⟨by rw [he.number]; exact h.counted, ?_, he.early, he.slack⟩
    rw [hd]
    exact leadMs_le (Settings.wellFormed_leads (hb e.bell).formed) (Settings.wellFormed_leadMax (hb e.bell).formed) _ _
  apart := h.entriesOf_apart e.bell
  subset := fun _ hy => hy
  nodup := h.nodup.filter _
  ordered := h.ordered.filter _
  examined y hy hn := absurd hy hn
  count := rfl

/-- The insertion keeps no more entries than stood, less those removed, and the new one. -/
theorem length_insertQueue {e : Entry} {others q : List Entry} (hq : q.Nodup) :
    (insertQueue e others q).length ≤ 1 + others.length + (q.filter fun y => decide (y.bell ≠ e.bell)).length := by
  have hplaced (l q : List Entry) : (l.foldl (fun q y => placeEntry y q) q).length = l.length + q.length := by
    induction l generalizing q with
    | nil => simp
    | cons y l ih => rw [List.foldl_cons, ih, (placeEntry_perm y q).length_eq, List.length_cons, List.length_cons]; omega
  have hsplit : (q.filter fun y => decide (y.bell ≠ e.bell ∨ y ∈ others)).length ≤
      (q.filter fun y => decide (y.bell ≠ e.bell)).length + (q.filter fun y => decide (y ∈ others)).length := by
    clear hq
    induction q with
    | nil => simp
    | cons y q ih =>
      simp only [List.filter_cons]
      by_cases h1 : y.bell ≠ e.bell <;> by_cases h2 : y ∈ others <;> simp_all <;> omega
  have hin : (q.filter fun y => decide (y ∈ others)).length ≤ (others.filter fun y => decide (y ∈ q)).length :=
    ((hq.filter _).subperm fun y hy => by
      obtain ⟨h1, h2⟩ := List.mem_filter.mp hy
      exact List.mem_filter.mpr ⟨by simpa using h2, by simpa using h1⟩).length_le
  have hpart : (others.filter fun y => decide (y ∈ q)).length + (others.filter fun y => decide (y ∉ q)).length = others.length := by
    have := List.length_eq_length_filter_add (l := others) fun y => decide (y ∈ q)
    simp only [decide_not] at *
    omega
  unfold insertQueue
  dsimp only
  rw [(placeEntry_perm e _).length_eq, List.length_cons, hplaced]
  omega

/-- A note inserted beside the bell's entries as the examination left them. -/
theorem State.QueueCore.inserted (h : s.QueueCore) (hb : s.BellsLaw) {e : Entry} {others removed : List Entry} (hi : s.Inserts e others removed) :
    ({ s with sched := { s.sched with queue := insertQueue e others s.sched.queue, nextNumber := nextEntryNumber s.sched.nextNumber } } :
      State).QueueCore := by
  obtain ⟨e₀, ho, hx⟩ := hi.examined
  obtain ⟨hd, he⟩ := (ho.examining hb h).place hx
  have hbell : e.bell = e₀.bell := by rw [he]
  have hsettings (b : BellNo) : (({ s with sched := { s.sched with
      queue := insertQueue e others s.sched.queue, nextNumber := nextEntryNumber s.sched.nextNumber } } : State).bell b) = s.bell b := rfl
  have apart_of {a b : Entry} (ha : a.bell = e₀.bell) (hab : a.Apart (s.bell e₀.bell).settings.recovery b) : s.EntriesApart a b := fun _ => by
    rw [ha]; exact hab
  refine ⟨insertQueue_ordered h.ordered, nextEntryNumber_lt _, ?_, fun y hy => ?_, ?_⟩
  · have key : (insertQueue e others s.sched.queue).Pairwise s.EntriesApart := by
      have symm {a b : Entry} (h : s.EntriesApart a b) : s.EntriesApart b a := h.symm
      have hplaced : ∀ (l q : List Entry), (∀ y ∈ l, ∀ z ∈ q, s.EntriesApart y z) → l.Pairwise s.EntriesApart → q.Pairwise s.EntriesApart →
          (l.foldl (fun q y => placeEntry y q) q).Pairwise s.EntriesApart := by
        intro l
        induction l with
        | nil => intro q _ _ hq; exact hq
        | cons y l ih =>
          intro q hlq hl hq
          obtain ⟨hy, hl⟩ := List.pairwise_cons.mp hl
          rw [List.foldl_cons]
          refine ih _ (fun x hx z hz => ?_) hl
            (((placeEntry_perm y q).pairwise_iff symm).mpr (List.pairwise_cons.mpr ⟨hlq y List.mem_cons_self, hq⟩))
          rcases mem_placeEntry.mp hz with rfl | hz
          · exact (hy x hx).symm
          · exact hlq x (List.mem_cons_of_mem _ hx) z hz
      have hmem {y : Entry} (hy : y ∈ (others.filter fun y => decide (y ∉ s.sched.queue)).foldl (fun q y => placeEntry y q)
          (s.sched.queue.filter fun y => decide (y.bell ≠ e.bell ∨ y ∈ others))) : y ∈ others ∨ y.bell ≠ e.bell := by
        rcases mem_placeAll.mp hy with hy | hy
        · exact .inl (List.mem_filter.mp hy).1
        · exact (by simpa using (List.mem_filter.mp hy).2 : y.bell ≠ e.bell ∨ y ∈ others).symm
      refine ((placeEntry_perm e _).pairwise_iff symm).mpr (List.pairwise_cons.mpr ⟨fun y hy => ?_, hplaced _ _ (fun y hy z hz => ?_) ?_ ?_⟩)
      · rcases hmem hy with hy | hy
        · exact (apart_of (hd.bells y hy) (hd.examined y hy (List.not_mem_nil)).1).symm
        · exact fun hb => absurd hb.symm hy
      · obtain ⟨hyo, hyq⟩ := List.mem_filter.mp hy
        obtain ⟨hzq, hz⟩ := List.mem_filter.mp hz
        have hyq : y ∉ s.sched.queue := by simpa using hyq
        intro hyz
        rcases (by simpa using hz : z.bell ≠ e.bell ∨ z ∈ others) with hz | hz
        · exact absurd (hyz.symm.trans ((hd.bells y hyo).trans hbell.symm)) hz
        · have hs : Std.Symm (Entry.Apart (s.bell e₀.bell).settings.recovery) := ⟨fun _ _ h => h.symm⟩
          rw [hd.bells y hyo]
          exact hd.apart.forall hyo hz fun hne => hyq (hne ▸ hzq)
      · exact (hd.apart.filter _).imp_of_mem fun {a b} ha _ hab => apart_of (hd.bells a (List.mem_filter.mp ha).1) hab
      · exact h.apart.filter _
    exact key
  · rw [hsettings]
    rcases mem_insertQueue.mp hy with rfl | hy | ⟨hy, -⟩
    · rw [hbell]; exact hd.sound
    · rw [hd.bells y hy]; exact hd.sounds y hy
    · exact h.sounds y hy
  · have hlen := length_insertQueue (e := e) (others := others) h.nodup
    have hcount := hd.count
    have hpart : (s.entriesOf e₀.bell).length + (s.sched.queue.filter fun y => decide (y.bell ≠ e.bell)).length = s.sched.queue.length := by
      have := List.length_eq_length_filter_add (l := s.sched.queue) fun y => decide (y.bell = e₀.bell)
      rw [hbell]
      simp only [State.entriesOf, decide_not, ne_eq] at *
      omega
    have hroom := hi.room
    unfold State.slotsTaken at hroom ⊢
    dsimp only
    omega

@[simp] theorem State.applySettings_sched (b : BellNo) (p : Patch) : (s.applySettings b p).sched = s.sched := by simp

/-- The queue's law with the law of the bell records, which bounds the leads. -/
def State.QueueSound (s : State) : Prop := s.BellsLaw ∧ s.QueueCore

theorem State.queueSound_keptBase : KeptBase State.QueueSound Entry.Fit where
  blind _ _ _ _ _ _ _ _ _ h := ⟨h.1, h.2.congr rfl fun _ => rfl⟩
  report s r h := ⟨State.bellsLaw_keptBase.report s r h.1, h.2.congr (by simp) fun b => by simp⟩
  counted s i f hf h := ⟨State.bellsLaw_keptBase.counted s i f hf h.1, h.2.congr (by simp) fun b => by rw [State.bell_congr (s := s) (by simp)]⟩
  good s h e he := (h.2.sounds e he).fit
  taken s p h := ⟨h.1, h.2.fewer List.filter_sublist rfl
    (Nat.le_trans (Nat.add_le_add_right (List.length_filter_le _ _) _) h.2.capped) fun _ _ => rfl⟩
  unheld s p h := ⟨h.1, h.2.fewer (List.Sublist.refl _) rfl
    (Nat.le_trans (Nat.add_le_add_left (List.length_filter_le _ _) _) h.2.capped) fun _ _ => rfl⟩
  granted s h := by
    refine ⟨State.bellsLaw_keptBase.granted s h.1, h.2.fewer (by simp) ?_ ?_ fun e _ => by rw [State.bell_congr (s := s) (by simp)]⟩
    · unfold State.grantOne; repeat' split
      all_goals rfl
    · unfold State.grantOne; split
      · exact h.2.capped
      · split
        · next hl => simp only [State.slotsTaken, List.length_append, List.length_singleton] at hl ⊢; omega
        · exact h.2.capped
  offered s g rest hg h := ⟨h.1, h.2.fewer (List.Sublist.refl _) rfl (by
    have := h.2.capped
    simp only [State.slotsTaken, hg, List.length_cons] at this ⊢
    omega) fun _ _ => rfl⟩
  held s x h := ⟨h.1, h.2.fewer (List.Sublist.refl _) rfl h.2.capped fun _ _ => rfl⟩
  inserted s e others removed hi h := ⟨h.1, h.2.inserted h.1 hi⟩
  moved s e fire he hq hf hd h := ⟨h.1, h.2.moved he hq hf hd⟩
  minor s b f m h := ⟨State.bellsLaw_keptBase.minor s b f m h.1, h.2.modBell b m.settings⟩
  served s b st hs h := ⟨State.bellsLaw_keptBase.served s b st hs h.1, h.2.modBell b rfl⟩
  applied s b p hq hp h := by
    refine ⟨State.bellsLaw_keptBase.applied s b p hq hp h.1, h.2.fewer (by simp) (by simp) (by simpa [State.slotsTaken] using h.2.capped) fun e he => ?_⟩
    have hne : b ≠ e.bell := fun hb => by
      have hempty : s.entriesOf b = [] := by
        simp only [State.quiet, Bool.and_eq_true, List.isEmpty_iff] at hq
        exact hq.1
      have hm : e ∈ s.entriesOf b := List.mem_filter.mpr ⟨by simpa using he, by simpa using hb.symm⟩
      rw [hempty] at hm; cases hm
    rw [State.applySettings_ne hne]
  heated s b n h := ⟨State.bellsLaw_keptBase.heated s b n h.1, h.2.modBell b rfl⟩
  rested s b hb h := ⟨State.bellsLaw_keptBase.rested s b hb h.1, h.2.modBell b rfl⟩
  released s b d x hd hx h := ⟨State.bellsLaw_keptBase.released s b d x hd hx h.1,
    (h.2.modBell b (f := fun r => { r with hammer := x, drive := none }) rfl).congr (by simp) fun c => by simp⟩
  started s b d st rd hi hn hm hc h := by
    refine ⟨State.bellsLaw_keptBase.started s b d st rd hi hn hm hc h.1, ?_⟩
    refine State.QueueCore.modBell ?_ b rfl
    exact h.2.congr rfl fun _ => rfl

theorem State.queueSound_kept : Kept State.QueueSound Entry.Fit fun _ => True :=
  .of_base State.queueSound_keptBase fun _ _ _ h => ⟨h.1, h.2.congr rfl fun _ => rfl⟩

theorem State.QueueModes.fewer (h : s.QueueModes) (hc : t.ctl = s.ctl) (hq : s.sched.queue = [] → t.sched.queue = []) : t.QueueModes :=
  fun h1 h2 => hq (h (by rw [← hc]; exact h1) (by rw [← hc]; exact h2))

theorem State.queueModes_keptBase : KeptBase State.QueueModes fun _ => True where
  blind _ _ _ _ _ _ _ _ _ h := h
  report _ _ h := h.fewer (by simp) (by simp)
  counted _ _ _ _ h := h.fewer (by simp) (by simp)
  good _ _ _ _ := trivial
  taken _ _ h := h.fewer rfl fun hq => by simp [State.setQueue, hq]
  unheld _ _ h := h.fewer rfl id
  granted _ h := h.fewer (by simp) (by simp)
  offered _ _ _ _ h := h.fewer rfl id
  held _ _ h := h.fewer rfl id
  inserted _ _ _ _ hi _ := fun h1 h2 => (hi.mode.elim h1 h2).elim
  moved _ _ _ _ he _ _ h := fun h1 h2 => by simp [State.queues, h h1 h2] at he
  minor _ _ _ _ h := h.fewer rfl id
  served _ _ _ _ h := h.fewer rfl id
  applied _ _ _ _ _ h := h.fewer (by simp) (by simp)
  heated _ _ _ h := h.fewer rfl id
  rested _ _ _ h := h.fewer rfl id
  released _ _ _ _ _ _ h := h.fewer (by simp) (by simp)
  started _ _ _ _ _ _ _ _ _ h := h.fewer rfl id

theorem State.queueModes_kept : Kept State.QueueModes (fun _ => True) fun _ => True := .of_base State.queueModes_keptBase fun _ _ _ h => h

theorem State.QueueModes.enterMode (m : Mode) (r : Option Mode) (c : ModeCause) : (s.enterMode m r c).QueueModes := by
  intro h1 h2
  simp only [State.enterMode_ctl] at h1 h2
  have hf : m.flushes = true := by cases m <;> simp_all [Mode.flushes]
  rw [State.enterMode_sched, if_pos hf]

/-- The laws of the Firing Queue and of the bell records together. -/
def State.QueueKept (s : State) : Prop := s.QueueSound ∧ s.QueueModes

theorem State.queueKept_kept : Kept State.QueueKept (fun e => e.Fit ∧ True) fun _ => True ∧ True := State.queueSound_kept.and State.queueModes_kept

theorem State.QueueCore.empty (hq : s.sched.queue = []) (hn : s.sched.nextNumber < Config.numberSpan) (hg : s.sched.granted.length ≤ Config.queueCap) :
    s.QueueCore where
  ordered := by rw [hq]; exact .nil
  counted := hn
  apart := by rw [hq]; exact .nil
  sounds e he := by rw [hq] at he; cases he
  capped := by rw [State.slotsTaken, hq, List.length_nil, Nat.zero_add]; exact hg

theorem State.QueueSound.loadArea (h : s.QueueSound) (hm : s.QueueModes) (hl : s.ctl.mode = .loading) {a : StoredArea}
    (ha : a = StoredArea.default ∨ a.formOk = true) : (s.loadArea a).QueueSound := by
  refine ⟨h.1.loadArea ha, .empty ?_ h.2.counted (Nat.le_trans (Nat.le_add_left _ _) h.2.capped)⟩
  exact hm (by rw [hl]; decide) (by rw [hl]; decide)

theorem State.reset_numbers : State.reset.sched.nextNumber < Config.numberSpan ∧ State.reset.sched.granted.length ≤ Config.queueCap := by decide

theorem State.queueKept_sound : Sound State.QueueKept (fun e => e.Fit ∧ True) fun _ => True ∧ True where
  toKept := State.queueKept_kept
  linked s t hl h := by rw [hl.rest]; exact ⟨⟨h.1.1, h.1.2.congr rfl fun _ => rfl⟩, h.2⟩
  start _ _ _ _ _ := ⟨⟨State.reset_bells, .empty rfl State.reset_numbers.1 State.reset_numbers.2⟩, fun _ _ => rfl⟩
  entered s m r c _ h := ⟨State.queueSound_kept.enterMode (fun _ _ h => ⟨h.1, h.2.congr rfl fun _ => rfl⟩) h.1 m r c, .enterMode m r c⟩
  steered s c hc _ h := ⟨⟨h.1.1, h.1.2.congr rfl fun _ => rfl⟩, fun h1 h2 => h.2 (by rw [← hc]; exact h1) (by rw [← hc]; exact h2)⟩
  area s a hl ha h := ⟨h.1.loadArea h.2 hl ha, h.2⟩
  tunes _ _ _ h := ⟨⟨h.1.1, h.1.2.congr rfl fun _ => rfl⟩, h.2⟩
  budget _ _ _ _ _ h := ⟨⟨h.1.1, h.1.2.congr rfl fun _ => rfl⟩, h.2⟩
  pended s b p hp h := ⟨⟨State.bellsLaw_sound.pended s b p hp h.1.1, h.1.2.modBell b rfl⟩, h.2⟩
  cooled s b h := by
    have hcool : (s.cooler b).QueueCore := h.1.2.modBell b rfl
    have hc : (s.coolBell b).QueueCore := by
      rcases h.1.1.coolBell_cases b with hc | hc | ⟨hl, hc⟩
      · rw [hc]; exact h.1.2
      · rw [hc]
        exact (hcool.modBell b (f := fun r => { r with service := .inService }) rfl).congr (by simp [State.changeService]) fun c => by
          simp [State.changeService]
      · rw [hc]; exact (State.queueSound_kept.heatTest ⟨hl, hcool⟩ b).2
    exact ⟨⟨State.bellsLaw_sound.cooled s b h.1.1, hc⟩, State.queueModes_kept.coolBell (fun _ _ _ h => h) h.2 b⟩

/-- Settles O8. -/
theorem stepKeepsTheFiringQueue : Obligations.StepKeepsTheFiringQueue := fun _ _ hb hq hs =>
  have h := State.queueLaw_iff.mp hq
  have k := State.queueKept_sound.step (fun _ _ _ h => ⟨⟨h.1.1, h.1.2.congr rfl fun _ => rfl⟩, h.2⟩) ⟨⟨hb, h.1⟩, h.2⟩ hs
  State.queueLaw_iff.mpr ⟨k.1.2, k.2⟩

end Sys2Proof.Machine

/-! ### Proofs: the step, the starts and the restarts (O1, O2, O14, O15) -/

namespace Sys2Proof.Machine

open Sys2Proof

variable {s : State}

/-! #### One step -/

/-- Settles O1. -/
theorem stepRunsTheFrontCommand : Obligations.StepRunsTheFrontCommand := by
  refine ⟨fun _ _ => rfl, fun s h => ?_⟩
  unfold step
  rw [h]

/-! #### The part after reset -/

theorem State.reset_modesLaw : State.reset.ModesLaw where
  remembers := by decide
  returns _ h := by cases h
  halted h := by cases h
  unhalted _ h := absurd rfl h
  released h := by cases h
  asserted h := by cases h
  resume h := by cases h

/-- Settles O2. -/
theorem resetMeetsEveryLaw : Obligations.ResetMeetsEveryLaw := by
  refine ⟨State.reset_modesLaw, ⟨by decide, by decide⟩, ⟨by decide, by decide, by decide, rfl⟩, State.reset_bells, ?_, ?_, ?_, ?_, ?_, ?_, ?_⟩
  · obtain ⟨held, stopped⟩ := State.reset_driveSound
    exact ⟨held.recorded, held.summed, held.bounded, stopped.stopped⟩
  · exact State.queueLaw_iff.mpr ⟨.empty rfl State.reset_numbers.1 State.reset_numbers.2, fun _ _ => rfl⟩
  · exact ⟨by decide, .nil, (fun _ hq => by cases hq), fun _ => rfl⟩
  · exact ⟨.nil, fun _ hq => by cases hq⟩
  · exact State.poolLaw_iff.mpr TuneStore.start_unshared
  · exact State.versionsLaw_iff.mpr (State.versionsSound_start rfl rfl)
  · trivial

/-! #### Starts -/

theorem startWith_fresh (strap : Bool) (clock : WallClock) (markers : Vector (Option Nat) 64) (nv : NvStore) (waiting : List Instr) :
    (startWith strap clock markers nv waiting).Fresh where
  timer := rfl
  mode := rfl
  globals := rfl
  bells b := by simp [startWith, State.bell, State.reset]
  drive := rfl
  warn := rfl
  supply := rfl
  sweep := rfl
  sched := rfl
  engine := rfl
  fields n := by simp [startWith]
  tunes := rfl
  link := rfl

theorem startWith_marker (strap : Bool) (clock : WallClock) (markers : Vector (Option Nat) 64) (nv : NvStore) (waiting : List Instr)
    (n : Fin 64) : (startWith strap clock markers nv waiting).slots[n].marker = markers[n] := by simp [startWith]

/-- A part that has just started has nothing to send. -/
@[simp] theorem startWith_transmit (strap : Bool) (clock : WallClock) (markers : Vector (Option Nat) 64) (nv : NvStore) (waiting : List Instr) :
    (startWith strap clock markers nv waiting).transmit = startWith strap clock markers nv waiting := rfl

theorem State.restart_restartedFrom (s : State) (strap : Bool) : RestartedFrom strap s (s.restart strap) where
  fresh := startWith_fresh ..
  rate := rfl
  clock := rfl
  markers n := (startWith_marker ..).trans (by simp)
  store := rfl
  waiting := rfl

/-- Settles O14. -/
theorem powerOnStartsAfresh : Obligations.PowerOnStartsAfresh := fun strap s =>
  ⟨s.powerOn strap, rfl, startWith_fresh .., rfl, rfl, fun _ => (startWith_marker ..).trans (by simp), rfl, rfl⟩

/-! #### Restarts -/

theorem State.storeBusy_false : s.storeBusy = false ↔ s.nv.write = none := by simp [State.storeBusy]

theorem State.storeBusy_true : s.storeBusy = true ↔ s.nv.write ≠ none := by simp [State.storeBusy, Option.isSome_iff_ne_none]

/-- With its transmitter stopped the part sends nothing. -/
theorem State.transmit_stopped (h : s.link.txStopped = true) : s.transmit = s := by simp [State.transmit, h]

/-- Settles O15. -/
theorem resetsRestartThePart : Obligations.ResetsRestartThePart := by
  intro strap s
  refine ⟨fun hw => ⟨s.restart strap, ?_, s.restart_restartedFrom strap⟩, fun hw => ?_,
    fun hr hw => ⟨s.restart strap, ?_, s.restart_restartedFrom strap⟩, fun h => ?_, fun h tag => takeRequest_taken h ..⟩
  · have idle : s.storeBusy = false := State.storeBusy_false.mpr hw
    show execResetPin strap s = _
    rw [execResetPin, if_neg (by rw [idle]; decide)]
    rfl
  · show execResetPin strap s = _
    rw [execResetPin, if_pos (State.storeBusy_true.mpr hw), done, State.transmit_stopped rfl]
  · show execRestartMade strap s = _
    rw [execRestartMade, if_pos ⟨hr, State.storeBusy_false.mpr hw⟩]
    rfl
  · show execRestartMade strap s = _
    refine if_neg fun ⟨hr, hw⟩ => ?_
    rcases h with h | h
    · exact h hr
    · exact h (State.storeBusy_false.mp hw)

end Sys2Proof.Machine

/-! ### Proofs: the serial link (O18 to O21) -/

namespace Sys2Proof.Machine

open Sys2Proof

variable {s : State}

/-! #### The receiver -/

theorem State.deaf_iff : s.deaf = true ↔ s.link.restart ≠ .none := by simp [State.deaf]

theorem State.deaf_false : s.deaf = false ↔ s.link.restart = .none := by simp [State.deaf]

/-- The instant of the last byte is set before the byte is judged. -/
def State.hearing (s : State) : State := { s with link := { s.link with lastByte := s.nowTicks } }

theorem exec_byte_deaf (h : s.link.restart ≠ .none) (v : Byte) (stop : Bool) : exec (.byteReceived v stop) s = .next s.transmit :=
  if_pos (State.deaf_iff.mpr h)

theorem exec_byte_good (h : s.link.restart = .none) (v : Byte) : exec (.byteReceived v true) s = receive v s.hearing := by
  show execByteReceived v true s = _
  rw [execByteReceived, if_neg (by rw [State.deaf_false.mpr h]; decide)]
  rfl

theorem exec_byte_bad (h : s.link.restart = .none) (v : Byte) :
    exec (.byteReceived v false) s = if s.link.receiver = .hunt then done s.hearing else done s.hearing.discardFrame := by
  show execByteReceived v false s = _
  rw [execByteReceived, if_neg (by rw [State.deaf_false.mpr h]; decide)]
  rfl

/-! What a byte does in each state of the receiver. -/

theorem receive_hunt (h : s.link.receiver = .hunt) (v : Byte) : receive v s = done (s.setReceiver (if v = 0xA5#8 then .length else .hunt)) := by
  have stay : s.setReceiver .hunt = s := by rw [State.setReceiver, ← h]
  simp only [receive, h]
  split
  · rfl
  · rw [stay]

theorem receive_length (h : s.link.receiver = .length) (v : Byte) :
    receive v s = if v.toNat ≤ 248 then done (s.setReceiver (.kind v.toNat)) else done s.discardFrame := by
  simp only [receive, h]
  exact apply_ite done _ _ _

theorem receive_kind {n : Nat} (h : s.link.receiver = .kind n) (v : Byte) : receive v s = done (s.setReceiver (.tag n v)) := by
  simp only [receive, h]

theorem receive_tag {n : Nat} {k : Byte} (h : s.link.receiver = .tag n k) (v : Byte) :
    receive v s = done (s.setReceiver (if n = 0 then .check 0 k v [] none else .payload n k v [])) := by
  simp only [receive, h]

theorem receive_payload {n : Nat} {k g : Byte} {l : List Byte} (h : s.link.receiver = .payload n k g l) (v : Byte) :
    receive v s = done (s.setReceiver (if l.length + 1 < n then .payload n k g (v :: l) else .check n k g (v :: l).reverse none)) := by
  simp only [receive, h]
  by_cases hn : l.length + 1 < n
  · rw [if_pos hn, if_neg (Nat.not_le.mpr hn)]
  · rw [if_neg hn, if_pos (Nat.not_lt.mp hn)]

theorem receive_check {n : Nat} {k g : Byte} {p : List Byte} (h : s.link.receiver = .check n k g p none) (v : Byte) :
    receive v s = done (s.setReceiver (.check n k g p (some v))) := by
  simp only [receive, h]

theorem receive_last {n : Nat} {k g c : Byte} {p : List Byte} (h : s.link.receiver = .check n k g p (some c)) (v : Byte) :
    receive v s = if c.toNat * 256 + v.toNat = (crc16 (BitVec.ofNat 8 n :: k :: g :: p)).toNat
      then takeFrame k g p (s.setReceiver .hunt) else done s.discardFrame := by
  have hc : bigEndian [c, v] = c.toNat * 256 + v.toNat := by simp [bigEndian]
  simp only [receive, h, hc, frameCrc, u8, List.cons_append, List.nil_append]

theorem exec_gap_lost (hr : s.link.restart = .none) (hh : s.link.receiver ≠ .hunt) (hg : s.link.lastByte + 400 ≤ s.nowTicks) :
    exec .interByteGapTimeout s = done s.discardFrame := if_pos ⟨State.deaf_false.mpr hr, hh, hg⟩

theorem exec_gap_kept (h : s.link.restart ≠ .none ∨ s.link.receiver = .hunt ∨ s.nowTicks < s.link.lastByte + 400) :
    exec .interByteGapTimeout s = done s := by
  refine if_neg fun ⟨hr, hh, hg⟩ => ?_
  rcases h with h | h | h
  · exact h (State.deaf_false.mp hr)
  · exact hh h
  · exact Nat.not_le.mpr h hg

theorem exec_discard (h : s.link.restart = .none) : exec .frameDiscarded s = done s.discardFrame :=
  if_neg (by rw [State.deaf_false.mpr h]; decide)

/-- Settles O18, state of the receiver by state. -/
theorem receiverFollowsItsTable : Obligations.ReceiverFollowsItsTable := by
  intro v s
  refine ⟨fun h stop => exec_byte_deaf h v stop, fun h => ?_, exec_gap_lost, exec_gap_kept, exec_discard,
    fun h => if_pos (State.deaf_iff.mpr h)⟩
  rw [exec_byte_good h, exec_byte_bad h]
  refine ⟨fun hr => receive_hunt (s := s.hearing) hr v, fun hr => receive_length (s := s.hearing) hr v,
    fun n hr => receive_kind (s := s.hearing) hr v, fun n k hr => receive_tag (s := s.hearing) hr v,
    fun n k g l hr => receive_payload (s := s.hearing) hr v, fun n k g p hr => receive_check (s := s.hearing) hr v,
    fun n k g p c hr => receive_last (s := s.hearing) hr v, rfl⟩

/-! #### The reply queue -/

/-- What no owner of a request touches: the replies that wait, and what the transmitter sends. -/
def LinkPort.Sends (l m : LinkPort) : Prop := m.replies = l.replies ∧ m.tx = l.tx

theorem LinkPort.sends_steady (l : LinkPort) : Steady (fun s => l.Sends s.link) (fun _ => True) fun _ => True :=
  .of_link fun s r h => by rw [State.report_link]; exact h

/-- A request of a code and a tag is taken with its length found to fit or not, and its owner leaves the replies alone. -/
theorem exec_takes {c : Instr} {code : Nat} (h : requestCodeOf c = some code) (s : State) :
    ∃ fits owner, exec c s = takeRequest code (requestTagOf c) fits owner s ∧ s.link.Sends (owner s).2.2.link := by
  have k := s.link.sends_steady
  have h0 : s.link.Sends s.link := ⟨rfl, rfl⟩
  have reading {owner : State → Result × ReplyBody × State} (e : (owner s).2.2 = s) : s.link.Sends (owner s).2.2.link := by rw [e]; exact h0
  cases c with
  | status => cases h; exact ⟨_, _, rfl, rfl, rfl⟩
  | restart => cases h; exact ⟨_, _, rfl, rfl, rfl⟩
  | setMode => cases h; exact ⟨_, _, rfl, k.setMode h0 _⟩
  | commissionEnd => cases h; exact ⟨_, _, rfl, k.commissionEnd h0⟩
  | setTime => cases h; exact ⟨_, _, rfl, k.setTime h0 _ _ _ _⟩
  | bellSet => cases h; exact ⟨_, _, rfl, k.bellSet h0 _ _⟩
  | bellService => cases h; exact ⟨_, _, rfl, k.bellService h0 _ _⟩
  | settingsSet => cases h; exact ⟨_, _, rfl, k.settingsSet h0 _⟩
  | save => cases h; exact ⟨_, _, rfl, k.save h0⟩
  | tuneOpen => cases h; exact ⟨_, _, rfl, k.tuneOpen h0 _ _ _ _ _⟩
  | tuneEvents => cases h; exact ⟨_, _, rfl, k.tuneEvents h0 _ _ _⟩
  | tuneClose => cases h; exact ⟨_, _, rfl, k.tuneClose h0 _ _ _⟩
  | tuneAbort => cases h; exact ⟨_, _, rfl, k.tuneAbort h0⟩
  | tuneDelete => cases h; exact ⟨_, _, rfl, k.tuneDelete h0 _⟩
  | programSet => cases h; exact ⟨_, _, rfl, k.programSet h0 _ _⟩
  | programClear => cases h; exact ⟨_, _, rfl, k.programClear h0 _⟩
  | playNow => cases h; exact ⟨_, _, rfl, k.playNow h0 _⟩
  | stop => cases h; exact ⟨_, _, rfl, k.stop h0 _ _⟩
  | liveNote => cases h; exact ⟨_, _, rfl, k.liveNote h0 _ _ _ _⟩
  | getTime => cases h; exact ⟨_, _, rfl, h0⟩
  | bellGet => cases h; exact ⟨_, _, rfl, reading (ownBellGet_state _ s)⟩
  | settingsGet => cases h; exact ⟨_, _, rfl, h0⟩
  | tuneInfo => cases h; exact ⟨_, _, rfl, reading (ownTuneInfo_state _ s)⟩
  | tuneList => cases h; exact ⟨_, _, rfl, reading (ownTuneList_state _ s)⟩
  | programGet => cases h; exact ⟨_, _, rfl, reading (ownProgramGet_state _ s)⟩
  | plays => cases h; exact ⟨_, _, rfl, h0⟩
  | queue => cases h; exact ⟨_, _, rfl, h0⟩
  | _ => cases h

/-- A request that finds room is answered behind the replies that wait, whatever is answered. -/
theorem takeRequest_replies (hr : s.link.restart = .none) (room : s.link.replies.length < 4) (code : Nat) (tag : Byte) (fits : Bool)
    {owner : State → Result × ReplyBody × State} (ho : s.link.Sends (owner s).2.2.link) :
    ∃ (u : State) (r : Reply), takeRequest code tag fits owner s = .next (u.reply r).transmit ∧ s.link.Sends u.link ∧ r.code = BitVec.ofNat 8 code ∧ r.tag = tag := by
  by_cases hm : s.ctl.mode = .loading ∧ code ≠ 1
  · exact ⟨s, _, takeRequest_loading hr room hm.1 hm.2 tag fits owner, ⟨rfl, rfl⟩, rfl, rfl⟩
  · have hd := State.deaf_false.mpr hr
    have full : ¬ Config.replyCap ≤ s.link.replies.length := Nat.not_le.mpr room
    cases fits with
    | false =>
      refine ⟨s, { code := BitVec.ofNat 8 code, tag := tag, result := .badLength, body := .nothing }, ?_, ⟨rfl, rfl⟩, rfl, rfl⟩
      simp only [takeRequest, hd, full, hm, Bool.false_eq_true, if_false, Bool.not_false, if_true, done]
    | true =>
      refine ⟨(owner s).2.2, { code := BitVec.ofNat 8 code, tag := tag, result := (owner s).1, body := (owner s).2.1 }, ?_, ho, rfl, rfl⟩
      simp only [takeRequest, hd, full, hm, Bool.false_eq_true, if_false, Bool.not_true, done]

/-- An unknown kind, in every mode. -/
theorem exec_unknown_answered {kind : Byte} (h : kind.toNat ∉ requestCodes) (hr : s.link.restart = .none) (room : s.link.replies.length < 4)
    (tag : Byte) : exec (.unknownKind kind tag) s = .next (s.answered kind.toNat tag .unknownKind .nothing) := by
  have full : ¬ Config.replyCap ≤ s.link.replies.length := Nat.not_le.mpr room
  show execUnknownKind kind tag s = _
  simp [execUnknownKind, h, State.deaf_false.mpr hr, full, done, State.answered]

theorem exec_unknown_lost {kind : Byte} (h : kind.toNat ∉ requestCodes) (hr : s.link.restart = .none) (full : 4 ≤ s.link.replies.length)
    (tag : Byte) : exec (.unknownKind kind tag) s = .next s.lostRequest.transmit := by
  show execUnknownKind kind tag s = _
  simp [execUnknownKind, h, State.deaf_false.mpr hr, Config.replyCap, full, done, State.lostRequest]

theorem exec_unknown_deaf (hr : s.link.restart ≠ .none) (kind tag : Byte) : exec (.unknownKind kind tag) s = .next s.transmit := by
  show execUnknownKind kind tag s = _
  simp [execUnknownKind, State.deaf_iff.mpr hr, done]

/-- An idle transmitter begins the head reply. -/
theorem State.transmit_reply {r : Reply} {rest : List Reply} (h : s.link.replies = r :: rest) (idle : s.link.tx = none)
    (runs : s.link.txStopped = false) :
    s.transmit = { s with link := { s.link with replies := rest, tx := some { frame := .reply r, bytes := (Frame.reply r).bytes } } } := by
  simp [State.transmit, idle, runs, h]

/-- With no reply waiting it begins the head report, unless a restart is asked for. -/
theorem State.transmit_report {r : Report} {rest : List Report} (h : s.link.replies = []) (hr : s.link.restart = .none)
    (hq : s.link.reports = r :: rest) (idle : s.link.tx = none) (runs : s.link.txStopped = false) :
    s.transmit = { s with link := { s.link with reports := rest, tx := some { frame := .report r, bytes := (Frame.report r).bytes } } } := by
  simp [State.transmit, idle, runs, h, hr, hq]

theorem State.transmit_idle (h : s.link.replies = []) (hr : s.link.restart ≠ .none ∨ s.link.reports = []) : s.transmit = s := by
  unfold State.transmit
  split
  · rfl
  · rw [h]
    dsimp only
    split
    · next hn hq =>
      rcases hr with hr | hr
      · exact absurd hn hr
      · rw [hr] at hq; cases hq
    · rfl

/-- Settles O19. -/
theorem repliesJoinTheReplyQueue : Obligations.RepliesJoinTheReplyQueue := by
  refine ⟨fun c code tag s hc hr => ?_, fun s r rest h => ⟨State.transmit_reply h, fun hx => ?_⟩⟩
  · have joins {u : State} (r : Reply) (hu : s.link.Sends u.link) (room : s.link.replies.length < 4) :
        (u.reply r).link.replies = s.link.replies ++ [r] ∧ (u.reply r).link.replies.length ≤ 4 := by
      have : (u.reply r).link.replies = s.link.replies ++ [r] := congrArg (· ++ [r]) hu.1
      exact ⟨this, by rw [this, List.length_append]; exact room⟩
    rcases hc with ⟨hc, rfl⟩ | ⟨rfl, hlt, hc⟩
    · obtain ⟨fits, owner, he, ho⟩ := exec_takes hc s
      rw [he]
      refine ⟨fun room => ?_, fun full => takeRequest_lost hr full _ _ _ _⟩
      obtain ⟨u, r, ht, hu, hcode, htag⟩ := takeRequest_replies hr room code (requestTagOf c) fits ho
      obtain ⟨hq, hl⟩ := joins r hu room
      exact ⟨u.reply r, r, ht, hq, hl, hcode, htag, hu.2⟩
    · have hk : (BitVec.ofNat 8 code).toNat = code := by simpa using hlt
      have hn : (BitVec.ofNat 8 code).toNat ∉ requestCodes := by rw [hk]; exact hc
      refine ⟨fun room => ?_, fun full => exec_unknown_lost hn hr full tag⟩
      refine ⟨s.reply _, _, exec_unknown_answered hn hr room tag, (joins _ ⟨rfl, rfl⟩ room).1, (joins _ ⟨rfl, rfl⟩ room).2, ?_, rfl, rfl⟩
      rw [hk]
  · exact State.transmit_busy (Option.isSome_iff_ne_none.mpr hx)

/-! #### What goes no further than the Link Port -/

/-- Settles O20. -/
theorem requestsStoppedAtTheLinkPort : Obligations.RequestsStoppedAtTheLinkPort := by
  refine ⟨fun c code s hc h1 hm hr room => ?_, fun c code s hc hr => ?_, fun tag s h n f es hl => ?_, fun kind tag s hk =>
    ⟨fun hr room => exec_unknown_answered hk hr room tag, fun hr full => exec_unknown_lost hk hr full tag, fun hr => exec_unknown_deaf hr kind tag⟩⟩
  · obtain ⟨fits, owner, he, -⟩ := exec_takes hc s
    rw [he, takeRequest_loading hr room hm h1]
  · obtain ⟨fits, owner, he, -⟩ := exec_takes hc s
    rw [he, takeRequest_deaf hr]
  · have unfit : decide (1 ≤ es.length ∧ es.length ≤ 60) = false := decide_eq_false (by omega)
    show execTuneEvents tag n f es s = _
    rw [execTuneEvents, unfit, takeRequest_badLength h]

/-! #### The end of a frame -/

/-- Settles O21: the frame's end leaves the transmitter idle, and it begins what waits. -/
theorem repliesGoBeforeReports : Obligations.RepliesGoBeforeReports := by
  refine ⟨fun s h => ?_, fun s x hx runs => ?_⟩
  · show execTransmitterFrameEnd s = _
    unfold execTransmitterFrameEnd
    rcases h with h | h
    · rw [h]; rfl
    · split
      · rw [if_pos h]; rfl
      · rfl
  · intro stage
    have ends : exec .transmitterFrameEnd s = done { s with link := { s.link with tx := none, restart := stage } } := by
      show execTransmitterFrameEnd s = _
      unfold execTransmitterFrameEnd
      rw [hx]
      dsimp only
      rw [if_neg (by rw [runs]; decide)]
      simp only [stage, Bool.and_eq_true, decide_eq_true_eq]
    rw [ends, done]
    refine ⟨fun r rest h => ?_, fun r rest h hn hq => ?_, fun h hn => ?_⟩
    · exact congrArg _ (State.transmit_reply h rfl runs)
    · exact congrArg _ (State.transmit_report h hn hq rfl runs)
    · exact congrArg _ (State.transmit_idle h hn)

end Sys2Proof.Machine

/-! ### Proofs: STATUS and the readings (O22, O23) -/

namespace Sys2Proof.Machine

open Sys2Proof

variable {s : State}

/-! #### Counting bells -/

/-- The counts of the part count the bells one by one. -/
theorem State.countBells_eq (s : State) (p : Bell → Bool) : s.countBells p = (List.finRange 48).countP fun b => p (s.bell b) := by
  rw [State.countBells, toList_eq_ofFn, List.ofFn_eq_map, List.countP_map]
  rfl

theorem State.countBells_pos {p : Bell → Bool} : 0 < s.countBells p ↔ ∃ b, p (s.bell b) = true := by
  rw [State.countBells_eq, List.countP_pos_iff]
  simp

theorem Service.code_zero {x : Service} : x.code = 0 ↔ x = .inService := by cases x <;> simp [Service.code]
theorem Service.code_one {x : Service} : x.code = 1 ↔ x = .withdrawn := by cases x <;> simp [Service.code]
theorem Service.code_two {x : Service} : x.code = 2 ↔ x = .resting := by cases x <;> simp [Service.code]

/-- Every bell is in one of the four service states. -/
theorem Service.code_counts (l : List Bell) :
    l.countP (fun r => r.service.code = 0) + l.countP (fun r => r.service.code = 1) + l.countP (fun r => r.service.code = 2) +
      l.countP (fun r => r.service.code = 3) = l.length := by
  induction l with
  | nil => rfl
  | cons r l ih =>
    simp only [List.countP_cons, List.length_cons, ← ih]
    cases r.service <;> simp [Service.code] <;> omega

/-! #### STATUS -/

/-- STATUS is judged before the mode. -/
theorem exec_status (hr : s.link.restart = .none) (room : s.link.replies.length < 4) (tag : Byte) :
    exec (.status tag) s = .next ((ownStatus s).2.2.answered 0x01 tag .ok (.status s.statusView)) := by
  have full : ¬ Config.replyCap ≤ s.link.replies.length := Nat.not_le.mpr room
  show takeRequest 0x01 tag true ownStatus s = _
  simp only [takeRequest, State.deaf_false.mpr hr, full, Bool.false_eq_true, if_false, ne_eq, not_true, and_false, Bool.not_true, done,
    State.answered]
  rfl

/-- A player is shown by its INCOMING play, else by the play it holds. -/
theorem Player.shown_eq (x : Player) : x.shown = match x.incoming, x.play with
    | some q, _ => some (q.state, q.id)
    | none, some q => some (q.state, q.id)
    | none, none => none := by
  unfold Player.shown
  cases x.incoming with
  | some q => rfl
  | none => cases x.play <;> rfl

/-- Settles O22. -/
theorem statusReadsAndClears : Obligations.StatusReadsAndClears := by
  intro tag s
  refine ⟨fun hr room => exec_status hr room tag, ?_, rfl, rfl, rfl, rfl, rfl, rfl, rfl, rfl, rfl, rfl, rfl, ⟨?_, ?_⟩, ?_⟩
  · show s.countBells _ + s.countBells _ + s.countBells _ + s.countBells _ = 48
    simp only [State.countBells]
    exact (Service.code_counts _).trans (by simp)
  · exact (Player.shown_eq _).trans rfl
  · exact (Player.shown_eq _).trans rfl
  · intro faulted
    have hf (b : BellNo) : decide ((s.bell b).service.code = 3) = faulted b := by
      show _ = (match (s.bell b).service with | .faulted _ => true | _ => false)
      cases (s.bell b).service <;> rfl
    have count {p : Bell → Bool} {q : BellNo → Bool} (h : ∀ b, p (s.bell b) = q b) : s.countBells p = (List.finRange 48).countP q := by
      rw [State.countBells_eq]; exact congrArg (List.countP · _) (funext h)
    refine ⟨count fun b => by simp only [Service.code_zero], count fun b => by simp only [Service.code_one],
      count fun b => by simp only [Service.code_two], count hf, ?_⟩
    show s.condition = _
    simp only [State.condition, State.countBells_pos, hf, decide_eq_true_eq, Service.code_two]

/-! #### Operands -/

@[simp] theorem bellOf_val (b : BellNo) : bellOf b.val = some b := dif_pos b.isLt

theorem bellOf_none {n : Nat} (h : 48 ≤ n) : bellOf n = none := dif_neg (Nat.not_lt.mpr h)

@[simp] theorem slotOf_val (n : Fin 64) : slotOf n.val = some n := dif_pos n.isLt

theorem slotOf_none {n : Nat} (h : 64 ≤ n) : slotOf n = none := dif_neg (Nat.not_lt.mpr h)

@[simp] theorem tuneOf_number (t : Fin 96) : tuneOf (t.val + 1) = some t := by
  have : 1 ≤ t.val + 1 ∧ t.val + 1 ≤ 96 := ⟨Nat.le_add_left 1 _, t.isLt⟩
  simp [tuneOf, this]

theorem tuneOf_none {n : Nat} (h : n = 0 ∨ 96 < n) : tuneOf n = none := dif_neg (by omega)

/-! #### The readings -/

/-- A request that reaches its owner is answered with what the owner makes of it. -/
theorem takeRequest_owned (h : s.Takes) {owner : State → Result × ReplyBody × State} {r : Result} {body : ReplyBody} {t : State}
    (e : owner s = (r, body, t)) (code : Nat) (tag : Byte) : takeRequest code tag true owner s = .next (t.answered code tag r body) := by
  rw [takeRequest_taken h, e]

/-- The launch offset is the anchor offset and 2 000 ms in whole seconds, rounded up. -/
theorem launchOffset_range (a : Nat) : 1000 * launchOffset a < a + 3000 ∧ a + 2000 ≤ 1000 * launchOffset a := by
  unfold launchOffset Config.prelaunch; omega

theorem Staging.forTune_eq (x : Staging) (t : Fin 96) :
    x.forTune t = (match x with | .committing u => decide (u.tune = t) | _ => false,
      match x with
      | .opened u => if u.tune = t then some (u.events.length, u.declared) else Option.none
      | _ => Option.none) := by
  cases x with
  | none => rfl
  | opened u => exact apply_ite (fun o => ((false, o) : Bool × Option (Nat × Nat))) _ _ _ |>.symm
  | committing u => rfl

/-- A player's held note is the first of its notes that wait, else the first granted. -/
theorem State.heldOf_eq (s : State) (p : PlayerNo) : s.heldOf p =
    match s.sched.held.filter (·.player = p), s.sched.granted.filter (·.note.player = p) with
    | h :: _, _ => some (h, false)
    | [], g :: _ => some (g.note, true)
    | [], [] => none := by
  rw [State.heldOf, ← List.head?_filter, ← List.head?_filter]
  cases s.sched.held.filter (·.player = p) with
  | cons h l => rfl
  | nil => cases s.sched.granted.filter (·.note.player = p) <;> rfl

/-- An entry of TUNE LIST. -/
def TuneStore.listEntry (x : TuneStore) (i : Fin 96) : Nat × Nat × Nat :=
  (i.val + 1, (x.slots[i].current.map fun v => v.events.length).getD 0, (x.slots[i].retiring.map fun v => v.users).getD 0)

theorem TuneStore.entriesFrom_eq (x : TuneStore) (t : Fin 96) :
    x.entriesFrom t = ((List.finRange 96).filter fun i => decide (t ≤ i ∧ x.versionsOf i ≠ [])).map x.listEntry := by
  unfold TuneStore.entriesFrom
  refine congrArg (List.map _) (List.filter_congr fun i _ => ?_)
  rw [Bool.eq_iff_iff]
  simp only [Bool.and_eq_true, decide_eq_true_eq, Bool.not_eq_true', List.isEmpty_eq_false_iff, Fin.le_def]

/-- Whether the tune of a TUNE slot has a CURRENT version. -/
def State.tunePresent (s : State) (f : SlotFields) : Option Bool :=
  match f.kind with
  | .tune => some (s.current f.tune).isSome
  | .toll => none

theorem ownBellGet_bell (b : BellNo) : ownBellGet b.val s = (.ok, .bellGet b (s.bell b) (s.sched.queue.filter (·.bell = b)).length, s) := by
  simp only [ownBellGet, bellOf_val]; rfl

theorem ownProgramGet_slot (n : Fin 64) : ownProgramGet n.val s =
    (.ok, .programGet s.slots[n] (s.anchorOf s.slots[n].fields) (launchOffset (s.anchorOf s.slots[n].fields)) (s.tunePresent s.slots[n].fields),
      s) := by
  simp only [ownProgramGet, slotOf_val]; rfl

/-- Settles O23. -/
theorem readingsChangeNothing : Obligations.ReadingsChangeNothing := by
  intro tag s h
  refine ⟨takeRequest_taken h .., fun b => takeRequest_owned h (ownBellGet_bell b) .., fun n hn => ?_, takeRequest_taken h .., fun n => ?_,
    fun n hn => ?_, fun t => ?_, fun n hn => ⟨?_, ?_⟩, fun t => ?_, takeRequest_taken h .., ?_⟩
  · exact takeRequest_owned h (by simp only [ownBellGet, bellOf_none hn]) ..
  · refine ⟨_, _, _, takeRequest_owned h (ownProgramGet_slot n) .., (launchOffset_range _).1, (launchOffset_range _).2, fun hk => ?_, fun hk => ?_⟩
    · simp only [State.anchorOf, State.tunePresent, hk, and_self]
    · refine ⟨by simp only [State.tunePresent, hk, State.current], fun v hv => ?_⟩
      simp only [State.anchorOf, hk, State.current, hv]; rfl
  · exact takeRequest_owned h (by simp only [ownProgramGet, slotOf_none hn]) ..
  · intro committing staged
    have hu : s.tunes.staging.forTune t = (committing, staged) := Staging.forTune_eq ..
    have hc : ((s.tunes.versionsOf t).isEmpty && !committing && staged.isNone) = true ↔
        s.tunes.versionsOf t = [] ∧ committing = false ∧ staged = none := by simp [and_assoc]
    refine ⟨fun hk => takeRequest_owned h ?_ .., fun h1 h2 h3 => takeRequest_owned h ?_ ..⟩
    · simp only [ownTuneInfo, tuneOf_number, hu]
      refine if_neg fun hn => ?_
      obtain ⟨h1, h2, h3⟩ := hc.mp hn
      rcases hk with hk | hk | hk
      · exact hk h1
      · rw [h2] at hk; cases hk
      · exact hk h3
    · simp only [ownTuneInfo, tuneOf_number, hu]
      exact if_pos (hc.mpr ⟨h1, h2, h3⟩)
  · exact takeRequest_owned h (by simp only [ownTuneInfo, tuneOf_none hn]) ..
  · exact takeRequest_owned h (by simp only [ownTuneList, tuneOf_none hn]) ..
  · intro listed entries
    have hl : s.tunes.entriesFrom t = entries := s.tunes.entriesFrom_eq t
    have hn : (entries.drop 48).head?.map (·.1) = (listed[48]?).map fun i => i.val + 1 := by
      rw [List.head?_drop]
      show ((listed.map s.tunes.listEntry)[48]?).map _ = _
      rw [List.getElem?_map, Option.map_map]
      rfl
    exact takeRequest_owned h (by simp only [ownTuneList, tuneOf_number, hl, hn]; rfl) ..
  · exact takeRequest_owned h (by simp only [ownQueue, State.heldOf_eq] <;> rfl) ..

end Sys2Proof.Machine

/-! ### Proofs: the bytes of a frame run the request they carry (O17) -/

namespace Sys2Proof.Machine

open Sys2Proof

variable {s : State}

/-! #### Between the bytes of a frame -/

/-- The part while a frame is received: the transmitter served, the last byte a moment ago, the receiver in its state. -/
def State.assembling (s : State) (r : Receiver) : State :=
  { s.transmit with link := { s.transmit.link with receiver := r, lastByte := s.nowTicks } }

/-- Serving the transmitter does not look at the receiver. -/
theorem State.transmit_receiver (s : State) (r : Receiver) (n : Nat) :
    State.transmit { s with link := { s.link with receiver := r, lastByte := n } } =
      { s.transmit with link := { s.transmit.link with receiver := r, lastByte := n } } := by
  unfold State.transmit
  dsimp only
  split
  · rfl
  · split
    · rfl
    · split <;> rfl

/-- A transmitter that has been served has nothing more to begin. -/
theorem State.transmit_transmit (s : State) : s.transmit.transmit = s.transmit := by
  by_cases busy : (s.link.tx.isSome || s.link.txStopped) = true
  · have : s.transmit = s := if_pos busy
    rw [this, this]
  · cases hr : s.link.replies with
    | cons r rest =>
      refine State.transmit_busy ?_
      simp [State.transmit, busy, hr]
    | nil =>
      by_cases hn : s.link.restart = .none
      · cases hq : s.link.reports with
        | cons r rest =>
          refine State.transmit_busy ?_
          simp [State.transmit, busy, hr, hn, hq]
        | nil => rw [State.transmit_idle hr (.inr hq), State.transmit_idle hr (.inr hq)]
      · rw [State.transmit_idle hr (.inl hn), State.transmit_idle hr (.inl hn)]

theorem State.transmit_restart (s : State) : s.transmit.link.restart = s.link.restart := by
  unfold State.transmit
  split
  · rfl
  · split
    · rfl
    · split <;> rfl

theorem State.assembling_restart (r : Receiver) : (s.assembling r).link.restart = s.link.restart := s.transmit_restart

theorem State.assembling_nowTicks (r : Receiver) : (s.assembling r).nowTicks = s.nowTicks := by
  show s.transmit.nowTicks = _
  simp [State.nowTicks]

theorem State.assembling_transmit (r : Receiver) : (s.assembling r).transmit = s.assembling r := by
  unfold State.assembling
  rw [State.transmit_receiver, State.transmit_transmit]

theorem State.assembling_hearing (r : Receiver) : (s.assembling r).hearing = s.assembling r := by
  unfold State.hearing
  rw [State.assembling_nowTicks]
  rfl

/-! #### Byte after byte -/

theorem receiveAll_cons {v : Byte} {rest : List Byte} {t u : State} (h : exec (.byteReceived v true) t = .next u) :
    receiveAll (v :: rest) t = receiveAll rest u := by
  simp only [receiveAll, h]

theorem receiveAll_last {v : Byte} {t : State} : receiveAll [v] t = exec (.byteReceived v true) t := by
  simp only [receiveAll]
  split <;> next h => exact h.symm

/-- A byte that moves the receiver on. -/
theorem receiveAll_moves (hr : s.link.restart = .none) {a b : Receiver} {v : Byte}
    (h : receive v (s.assembling a) = done ((s.assembling a).setReceiver b)) (rest : List Byte) :
    receiveAll (v :: rest) (s.assembling a) = receiveAll rest (s.assembling b) := by
  refine receiveAll_cons ?_
  rw [exec_byte_good ((State.assembling_restart a).trans hr), State.assembling_hearing, h]
  exact congrArg _ (State.assembling_transmit b)

/-- The start marker, in HUNT. -/
theorem receiveAll_marker (hr : s.link.restart = .none) (hh : s.link.receiver = .hunt) (rest : List Byte) :
    receiveAll (0xA5#8 :: rest) s = receiveAll rest (s.assembling .length) := by
  refine receiveAll_cons ?_
  rw [exec_byte_good hr, receive_hunt (s := s.hearing) hh, if_pos rfl]
  exact congrArg _ (s.transmit_receiver .length s.nowTicks)

/-- The bytes of the payload are put behind those before them. -/
theorem receiveAll_payload (hr : s.link.restart = .none) {n : Nat} {k g : Byte} : ∀ (l got rest : List Byte), l ≠ [] → got.length + l.length = n →
    receiveAll (l ++ rest) (s.assembling (.payload n k g got)) = receiveAll rest (s.assembling (.check n k g (got.reverse ++ l) none))
  | [], _, _, h, _ => absurd rfl h
  | [v], got, rest, _, hn => by
    refine receiveAll_moves hr ?_ rest
    rw [receive_payload rfl, if_neg (by simp at hn; omega)]
    simp
  | v :: w :: l, got, rest, _, hn => by
    refine (receiveAll_moves hr (b := .payload n k g (v :: got)) ?_ _).trans ?_
    · rw [receive_payload rfl, if_pos (by simp at hn; omega)]
    · refine (receiveAll_payload hr (w :: l) (v :: got) rest (List.cons_ne_nil _ _) (by simp at hn ⊢; omega)).trans ?_
      simp

/-- Length, kind, tag and payload of a frame. -/
theorem receiveAll_covered (hr : s.link.restart = .none) (k g : Byte) (p rest : List Byte) (hp : p.length ≤ 248) :
    receiveAll (BitVec.ofNat 8 p.length :: k :: g :: (p ++ rest)) (s.assembling .length) =
      receiveAll rest (s.assembling (.check p.length k g p none)) := by
  have hl : (BitVec.ofNat 8 p.length).toNat = p.length := by
    rw [BitVec.toNat_ofNat]; omega
  refine (receiveAll_moves hr (b := .kind p.length) ?_ _).trans <| (receiveAll_moves hr (receive_kind rfl k) _).trans <|
    (receiveAll_moves hr (receive_tag rfl g) _).trans ?_
  · rw [receive_length rfl, hl, if_pos hp]
  · cases p with
    | nil => rfl
    | cons v p => exact receiveAll_payload hr (v :: p) [] rest (List.cons_ne_nil _ _) (Nat.zero_add _)

/-- A frame's bytes, in HUNT, are a request taken. -/
theorem receiveAll_frame (hr : s.link.restart = .none) (hh : s.link.receiver = .hunt) (k g : Byte) (p : List Byte) (hp : p.length ≤ 248) :
    receiveAll (frameBytes k g p) s = takeFrame k g p (s.assembling .hunt) := by
  have hf : frameBytes k g p = 0xA5#8 :: BitVec.ofNat 8 p.length :: k :: g ::
      (p ++ [BitVec.ofNat 8 ((crc16 (BitVec.ofNat 8 p.length :: k :: g :: p)).toNat / 256),
             BitVec.ofNat 8 (crc16 (BitVec.ofNat 8 p.length :: k :: g :: p)).toNat]) := by
    simp [frameBytes, u8, u16]
  generalize hc : crc16 (BitVec.ofNat 8 p.length :: k :: g :: p) = c at hf
  have crc : (BitVec.ofNat 8 (c.toNat / 256)).toNat * 256 + (BitVec.ofNat 8 c.toNat).toNat = c.toNat := by
    have := c.isLt
    simp only [BitVec.toNat_ofNat]
    omega
  rw [hf, receiveAll_marker hr hh, receiveAll_covered hr k g p _ hp, receiveAll_moves hr (receive_check rfl _), receiveAll_last,
    exec_byte_good ((State.assembling_restart _).trans hr), State.assembling_hearing, receive_last rfl, hc, if_pos crc]
  rfl

/-! #### The request of a frame -/

/-- What is decoded, if anything, is a request, and of a kind of R171. -/
def Spells (kind : Nat) (o : Option Instr) : Prop := ∀ i, o = some i → kind ∈ requestCodes ∧ (requestCodeOf i).isSome = true

theorem Spells.none {kind : Nat} : Spells kind none := fun _ h => by cases h

theorem Spells.some {kind : Nat} {i : Instr} (hk : kind ∈ requestCodes) (hi : (requestCodeOf i).isSome = true) : Spells kind (some i) :=
  fun _ h => by cases h; exact ⟨hk, hi⟩

theorem Spells.guarded {kind : Nat} {c : Prop} [Decidable c] {i : Instr} (hk : kind ∈ requestCodes) (hi : (requestCodeOf i).isSome = true) :
    Spells kind (if c then Option.some i else Option.none) := by
  split
  · exact .some hk hi
  · exact .none

theorem Spells.map {kind : Nat} {α : Type} {o : Option α} {f : α → Instr} (hk : kind ∈ requestCodes)
    (hf : ∀ a, (requestCodeOf (f a)).isSome = true) : Spells kind (o.map f) := by
  cases o with
  | none => exact .none
  | some a => exact .some hk (hf a)

theorem decodeRequest_events (tag n f1 f0 : Byte) (rest : List Byte) : decodeRequest 17 tag (n :: f1 :: f0 :: rest) =
    match decodeEvents rest with
    | some es => if 1 ≤ es.length ∧ es.length ≤ 60 then some (.tuneEvents tag n.toNat (bigEndian [f1, f0]) es) else none
    | none => none := rfl

/-- What a payload decodes to is a request of the frame's kind: kind by kind, by the number of bytes it takes. -/
theorem decodeRequest_spells (tag : Byte) (p : List Byte) : ∀ kind, Spells kind (decodeRequest kind tag p)
  | 0 | 13 | 14 | 15 | 23 | 27 => .none
  | 1 | 3 | 4 | 6 | 11 | 12 | 19 | 30 | 32 => by
    cases p
    · exact .some (by decide) rfl
    · exact .none
  | 2 | 8 | 20 | 21 | 22 | 25 | 26 => by
    iterate 1 (rcases p with _ | ⟨_, p⟩; · exact .none)
    cases p
    · exact .some (by decide) rfl
    · exact .none
  | 9 | 29 => by
    iterate 2 (rcases p with _ | ⟨_, p⟩; · exact .none)
    cases p
    · exact .some (by decide) rfl
    · exact .none
  | 18 => by
    iterate 5 (rcases p with _ | ⟨_, p⟩; · exact .none)
    cases p
    · exact .some (by decide) rfl
    · exact .none
  | 5 => by
    iterate 8 (rcases p with _ | ⟨_, p⟩; · exact .none)
    cases p
    · exact .some (by decide) rfl
    · exact .none
  | 31 => by
    iterate 9 (rcases p with _ | ⟨_, p⟩; · exact .none)
    cases p
    · exact .some (by decide) rfl
    · exact .none
  | 10 | 28 => .map (by decide) fun _ => rfl
  | 7 | 24 => by
    cases p
    · exact .none
    · exact .map (by decide) fun _ => rfl
  | 16 => by
    iterate 8 (rcases p with _ | ⟨_, p⟩; · exact .none)
    exact .guarded (by decide) rfl
  | 17 => by
    iterate 3 (rcases p with _ | ⟨_, p⟩; · exact .none)
    rw [decodeRequest_events]
    split
    · exact .guarded (by decide) rfl
    · exact .none
  | _ + 33 => .none

/-- Settles O17. -/
theorem frameBytesRunTheirRequest : Obligations.FrameBytesRunTheirRequest := by
  intro kind tag payload s hp hr hh u
  have hu : s.assembling .hunt = u := rfl
  rw [receiveAll_frame hr hh kind tag payload hp, hu]
  refine ⟨fun i hi => ?_, fun hk => ?_, fun hk hi ht => ?_⟩
  · obtain ⟨hk, hi'⟩ := decodeRequest_spells tag payload _ i hi
    rw [takeFrame, if_pos (by simpa using hk), hi, exec_request hi']
  · rw [takeFrame, if_neg (by simpa using hk)]
    rfl
  · rw [takeFrame, if_pos (by simpa using hk), hi]
    exact takeRequest_badLength ht ..

end Sys2Proof.Machine

/-! ### Proofs: entry to a mode, SET MODE, COMMISSION END and the console key (O24 to O26) -/

namespace Sys2Proof.Machine

open Sys2Proof

variable {s : State}

/-! #### One bell among all -/

/-- What an event leaves of one bell, when it goes through all the bells and touches each at its turn alone. -/
theorem State.forBells_bell {f : BellNo → State → State} (P : State → Prop) {Q : Bell → Prop} (c : BellNo)
    (keep : ∀ b t, P t → P (f b t)) (other : ∀ b t, b ≠ c → (f b t).bell c = t.bell c)
    (own : ∀ t, P t → t.bell c = s.bell c → Q ((f c t).bell c)) (hs : P s) : Q ((s.forBells f).bell c) := by
  have passed : ∀ (l : List BellNo) (t : State), c ∉ l → P t → P (l.foldl (fun t b => f b t) t) ∧ (l.foldl (fun t b => f b t) t).bell c = t.bell c := by
    intro l
    induction l with
    | nil => exact fun t _ ht => ⟨ht, rfl⟩
    | cons b l ih =>
      intro t hc ht
      obtain ⟨hb, hl⟩ := not_or.mp (mt List.mem_cons.mpr hc)
      obtain ⟨h1, h2⟩ := ih (f b t) hl (keep b t ht)
      exact ⟨h1, h2.trans (other b t (Ne.symm hb))⟩
  obtain ⟨before, after, hl⟩ := List.append_of_mem (List.mem_finRange c)
  have hn : (before ++ c :: after).Nodup := hl ▸ List.nodup_finRange 48
  have hb : c ∉ before := fun h => List.disjoint_of_nodup_append hn h List.mem_cons_self
  have ha : c ∉ after := (List.nodup_cons.mp (List.nodup_append.mp hn).2.1).1
  obtain ⟨p1, q1⟩ := passed before s hb hs
  obtain ⟨-, q2⟩ := passed after _ ha (keep c _ p1)
  show Q (((List.finRange 48).foldl (fun t b => f b t) s).bell c)
  rw [hl, List.foldl_append, List.foldl_cons, q2]
  exact own _ p1 q1

/-! #### Cuts at entry to SILENT -/

/-- What the cut of dispatched drives leaves of a bell: no drive but a test pulse, and the marks of its strokes. -/
structure Bell.Spared (r r' : Bell) : Prop where
  drive : ∀ d, r'.drive = some d → d.kind = .testPulse ∧ r.drive = some d
  heat : r'.heat = r.heat
  misses : r'.missRun = r.missRun
  start : r'.lastDriveStart = r.lastDriveStart
  ready : r'.readyTime = r.readyTime

theorem Bell.Spared.sameCoil {r r' r'' : Bell} (h : r.Spared r') (k : r'.SameCoil r'') : r.Spared r'' where
  drive d hd := h.drive d (by rw [← k.drive]; exact hd)
  heat := k.heat.trans h.heat
  misses := k.missRun.trans h.misses
  start := by rw [k.rest]; exact h.start
  ready := k.readyTime.trans h.ready

theorem State.cutStrikes_bell (c : BellNo) : (s.bell c).Spared (s.cutStrikes.bell c) := by
  unfold State.cutStrikes
  refine State.forBells_bell (s := s) (fun _ => True) (Q := fun r => (s.bell c).Spared r) c (fun _ _ _ => trivial) (fun b t hb => ?_) (fun t _ ht => ?_) trivial
  · split
    · split
      · exact State.cutDrive_bell_ne hb
      · rfl
    · rfl
  · rw [← ht]
    split
    · next d hd =>
      split
      · next o n dy i hk =>
        have cut : (t.cutDrive c).bell c = { t.bell c with hammer := .swing, drive := none, window := none } := by
          simp only [State.cutDrive, hd, hk, State.modBell_bell_self, State.releaseCoil_bell_self]
        rw [cut]
        exact ⟨(fun _ h => by cases h), rfl, rfl, rfl, rfl⟩
      · next hk => exact ⟨fun x hx => ⟨by rw [hd] at hx; cases hx; exact hk, hx⟩, rfl, rfl, rfl, rfl⟩
    · next hd => exact ⟨fun x hx => (by rw [hd] at hx; cases hx), rfl, rfl, rfl, rfl⟩

/-- The coils after a flush are those the mode's cuts left. -/
theorem State.enterMode_sameCoil {m : Mode} (h : m.flushes = true) (r : Option Mode) (c : ModeCause) (b : BellNo) :
    ((s.turned m r c).bell b).SameCoil ((s.enterMode m r c).bell b) := by
  rw [State.enterMode_eq, if_pos h]
  have hq := State.quietPoints_sameCoil (s := (s.turned m r c).flushQueue.flushPlays m.playOutcome) b
  rwa [State.bell_congr (s := s.turned m r c) (by simp)] at hq

theorem State.enterMode_silent_bell (r : Option Mode) (c : ModeCause) (b : BellNo) : (s.bell b).Spared ((s.enterMode .silent r c).bell b) := by
  refine Bell.Spared.sameCoil ?_ (State.enterMode_sameCoil rfl r c b)
  unfold State.turned State.modeCuts
  refine Eq.subst (motive := fun x : Bell => x.Spared _) ?_ (State.cutStrikes_bell b)
  rw [State.report_bell]
  rfl

/-- Entry to CONSOLE cuts nothing. -/
theorem State.enterMode_console_bell (r : Option Mode) (c : ModeCause) (b : BellNo) : (s.bell b).SameCoil ((s.enterMode .console r c).bell b) := by
  have h := State.enterMode_sameCoil (s := s) (m := .console) rfl r c b
  rwa [show (s.turned .console r c).bell b = s.bell b by simp [State.turned, State.modeCuts, State.bell, State.setCtl]] at h

/-! #### SET MODE -/

theorem ownSetMode_silent (h : s.ctl.mode = .silent) : ownSetMode 1 s =
    (.ok, .mode .silent, s.setCtl { s.ctl with resumePending := false }) := by
  unfold ownSetMode
  rw [if_neg (by decide), h]
  rfl

theorem ownSetMode_activates (h : s.ctl.mode = .silent) : ownSetMode 0 s =
    if s.clock.valid then (.ok, .mode .active, (s.setCtl { s.ctl with resumePending := false }).enterMode .active none .request)
    else (.clockInvalid, .nothing, s) := by
  unfold ownSetMode
  rw [if_neg (by decide), h]
  rfl

theorem ownSetMode_active (h : s.ctl.mode = .active) (n : Nat) (hn : n ≤ 1) : ownSetMode n s =
    if n = 1 then (.ok, .mode .silent, s.enterMode .silent none .request) else (.ok, .mode .active, s) := by
  unfold ownSetMode
  rw [if_neg (not_not.mpr hn), h]

/-- ACTIVE is entered with its report alone. -/
theorem State.enterMode_active (h : s.ctl.mode = .silent) : (s.setCtl { s.ctl with resumePending := false }).enterMode .active none .request =
    State.report { s with ctl := { s.ctl with mode := .active, remembered := none, resumePending := false } }
      (.mode .silent .active .request s.ctl.causes none 0) := by
  rw [State.enterMode_eq, if_neg (by decide)]
  simp only [State.turned, State.modeCuts, State.setCtl, h]
  rfl

/-- Settles O24. -/
theorem setModeFollowsItsTable : Obligations.SetModeFollowsItsTable := by
  intro tag s h
  refine ⟨fun n hn => takeRequest_owned h ?_ .., fun hm n hn => takeRequest_owned h ?_ .., fun hm => ⟨?_, fun hv => ?_, fun hv => ?_⟩, fun hm => ⟨?_, ?_⟩⟩
  · unfold ownSetMode
    rw [if_pos (Nat.not_le.mpr hn)]
  · unfold ownSetMode
    rw [if_neg (not_not.mpr hn)]
    rcases hm with hm | hm | hm <;> rw [hm]
  · exact takeRequest_owned h (ownSetMode_silent hm) ..
  · exact takeRequest_owned h ((ownSetMode_activates hm).trans (if_neg (by rw [hv]; decide))) ..
  · refine takeRequest_owned h ((ownSetMode_activates hm).trans ((if_pos hv).trans ?_)) ..
    rw [State.enterMode_active hm]
  · exact takeRequest_owned h ((ownSetMode_active hm 0 (by decide)).trans (if_neg (by decide))) ..
  · refine ⟨_, takeRequest_owned h ((ownSetMode_active hm 1 (by decide)).trans (if_pos rfl)) .., State.enterMode_ctl .., ?_,
      State.enterMode_playRecords rfl .., fun b d hd => (State.enterMode_silent_bell _ _ b).drive d hd, fun b => ?_, ?_⟩
    · exact State.enterMode_sched ..
    · have k := State.enterMode_silent_bell (s := s) none .request b
      exact ⟨k.heat, k.misses, k.start, k.ready⟩
    · obtain ⟨h1, h2, h3, h4, h5, h6, h7, h8⟩ := State.enterMode_frame (s := s) .silent none .request
      exact ⟨h1, h2, h3, h4, h5, h6, h7, h8⟩

/-! #### COMMISSION END -/

/-- The part in SILENT, the working commissioned flag set. -/
def State.commissionEnded (s : State) : State := (s.setCtl { s.ctl with commissioned := true }).enterMode .silent none .commissionEnd

theorem State.startWrite_playRecords (w : Write) : (s.startWrite w).playRecords = s.playRecords := rfl

theorem State.settingsCopy_commissioned : s.settingsCopy.commissioned = s.ctl.commissioned := rfl

theorem State.settingsCopy_slots (n : Fin 64) : s.settingsCopy.slots[n] = s.slots[n].fields := by simp [State.settingsCopy]

theorem State.settingsCopy_bells (b : BellNo) : s.settingsCopy.bells[b] =
    { settings := (s.bell b).settings, lead16 := (s.bell b).lead16, withdrawn := decide ((s.bell b).service = .withdrawn) } := by
  simp only [State.settingsCopy, Fin.getElem_fin, Vector.getElem_map] <;> rfl

theorem ownCommissionEnd_started (hm : s.ctl.mode = .commission) (hw : s.nv.write = none) : ownCommissionEnd s =
    (.started, .nothing, s.commissionEnded.startWrite (.commission s.commissionEnded.settingsCopy)) := by
  unfold ownCommissionEnd
  rw [if_neg (not_not.mpr hm), if_neg (Bool.eq_false_iff.mp (State.storeBusy_false.mpr hw))]
  rfl

/-- Settles O25. -/
theorem commissionEndStartsItsWrite : Obligations.CommissionEndStartsItsWrite := by
  intro tag s h
  refine ⟨fun hm => takeRequest_owned h (if_pos hm) .., fun hm hw => takeRequest_owned h ?_ .., fun hm hw => ?_⟩
  · exact (if_neg (not_not.mpr hm)).trans (if_pos (State.storeBusy_true.mpr hw))
  · obtain ⟨h1, h2, h3, h4, h5, h6, h7, h8⟩ := State.enterMode_frame (s := s.setCtl { s.ctl with commissioned := true }) .silent none .commissionEnd
    have hctl : s.commissionEnded.ctl = { s.ctl with mode := .silent, remembered := none, commissioned := true } := State.enterMode_ctl ..
    have hslots : s.commissionEnded.slots = s.slots := h6
    have hnv : s.commissionEnded.nv = s.nv := h7
    have hsched : s.commissionEnded.sched = { s.sched with queue := [], held := [], granted := [] } := State.enterMode_sched ..
    have hplays : s.commissionEnded.playRecords = [] := State.enterMode_playRecords rfl ..
    refine ⟨s.commissionEnded.startWrite (.commission s.commissionEnded.settingsCopy), s.commissionEnded.settingsCopy,
      takeRequest_owned h (ownCommissionEnd_started hm hw) .., ?_⟩
    rw [State.startWrite_ctl, State.startWrite_nv, State.startWrite_sched, State.startWrite_timer, State.startWrite_clock, State.startWrite_warn,
      State.startWrite_supply, State.startWrite_sweep, State.startWrite_slots, State.startWrite_pending, State.startWrite_playRecords, hnv]
    refine ⟨hctl, rfl, ?_, fun n => ?_, fun b => ?_, hsched, hplays, h1, h2, h3, h4, h5, h6, h8⟩
    · rw [State.settingsCopy_commissioned, hctl]
    · rw [State.settingsCopy_slots, hslots]
    · rw [State.settingsCopy_bells, State.bell_congr (State.startWrite_bells (s := s.commissionEnded) _)]; exact ⟨by dsimp only, by dsimp only⟩

/-! #### The console key -/

theorem filterOut_three_of_five (h : List Bool) (x out : Bool) : filterOut 3 5 (pushSample h x) out =
    if out = false ∧ 3 ≤ ((x :: h).take 5).countP id then true
    else if out = true ∧ ((x :: h).take 5).countP id < 3 then false else out := by
  have : highs (pushSample h x) 5 = ((x :: h).take 5).countP id := by rw [highs, pushSample, List.take_take, Nat.min_self]
  simp only [filterOut, this, Bool.and_eq_true, Bool.not_eq_true', decide_eq_true_eq]

/-- Settles O26: the filter's output changes by a rise, by a fall, or not at all. -/
theorem consoleKeyEntersAndLeavesConsole : Obligations.ConsoleKeyEntersAndLeavesConsole := by
  intro high s
  refine ⟨fun h => if_neg (by rw [h]; decide), fun h => ?_⟩
  intro hist out rises falls
  have hout : filterOut 3 5 (pushSample s.ctl.keyHist high) s.ctl.keyOut = out := filterOut_three_of_five ..
  -- the part with the sample noted, before the event of the key
  let v : State := { s with
    timer := { s.timer with due := { s.timer.due with key := false } }, ctl := { s.ctl with keyHist := hist, keyOut := out } }
  have he : exec (.consoleKeySample high) s = done (if out != s.ctl.keyOut then v.keyEvent out else v) := by
    refine (if_pos h).trans ?_
    unfold State.keySample
    simp only [hout]
    rfl
  have hv : (v.keyEvent out).ctl.keyHist = hist ∧ (v.keyEvent out).ctl.keyOut = out := by
    rw [State.keyEvent_ctl]
    repeat' split
    all_goals exact ⟨rfl, rfl⟩
  obtain ⟨f1, f2, f3, f4, f5, f6, f7, f8⟩ := State.keyEvent_frame (s := v) out
  by_cases hc : out = s.ctl.keyOut
  · rw [he, if_neg (by simpa using hc)]
    refine ⟨v, rfl, rfl, rfl, rfl, fun _ => rfl, fun hr => ?_, fun hf => ?_, rfl, rfl, rfl, rfl, rfl, rfl, rfl⟩
    · have := hr.1.symm.trans (hc.symm.trans hr.2.1); cases this
    · have := hf.1.symm.trans (hc.symm.trans hf.2.1); cases this
  · rw [he, if_pos (by simpa using hc)]
    refine ⟨v.keyEvent out, rfl, f1, hv.1, hv.2, fun hn => ?_, fun hr => ?_, fun hf m hm _ => ?_, f2, f3, f4, f5, f6, f7, f8⟩
    · have hk : s.ctl.keyOut = !out := by
        cases ho : out <;> cases hs : s.ctl.keyOut
        · exact absurd (ho.trans hs.symm) hc
        · rfl
        · rfl
        · exact absurd (ho.trans hs.symm) hc
      show v.keyEvent out = v
      cases ho : out with
      | true => exact (if_pos rfl).trans (if_neg fun hm => hn.1 ⟨by rw [hk, ho]; rfl, ho, hm⟩)
      | false => exact (if_neg (by decide)).trans (if_neg fun hm => hn.2 ⟨by rw [hk, ho]; rfl, ho, hm⟩)
    · obtain ⟨-, ho, hm⟩ := hr
      have : v.keyEvent out = v.enterMode .console (some v.ctl.mode) .keyOn := by
        rw [State.keyEvent, ho, if_pos rfl]; exact if_pos hm
      rw [this]
      refine ⟨by rw [State.enterMode_ctl], by rw [State.enterMode_ctl], by rw [State.enterMode_sched]; rfl, State.enterMode_playRecords rfl ..,
        fun b => ?_⟩
      have k := State.enterMode_console_bell (s := v) (some v.ctl.mode) .keyOn b
      exact ⟨k.drive, k.window⟩
    · obtain ⟨-, ho, hm'⟩ := hf
      rw [State.keyEvent_ctl, ho, if_neg (by decide), if_pos hm']
      exact ⟨by rw [ModeController.back]; exact congrArg (Option.getD · _) hm, rfl⟩

end Sys2Proof.Machine

/-! ### Proofs: the guards (O57 to O60) -/

namespace Sys2Proof.Machine

open Sys2Proof

variable {s : State}

/-! #### A change of service state, seen bell by bell -/

theorem State.leaveService_ne {b c : BellNo} (h : b ≠ c) (st : Service) (k : BellCause) : (s.leaveService b st k).bell c = s.bell c := by
  rw [State.leaveService, State.quietPoint_ne h, State.grantSlots_bell, State.changeService, State.report_bell, State.modBell_bell_ne _ h,
    State.takeOut_bell]

theorem State.leaveService_sameCoil (b : BellNo) (st : Service) (k : BellCause) (c : BellNo) :
    (s.bell c).SameCoil ((s.leaveService b st k).bell c) := by
  refine Bell.SameCoil.trans ?_ (State.quietPoint_sameCoil b c)
  rw [State.grantSlots_bell]
  have h := State.changeService_sameCoil (s := s.takeOut fun e => e.bell = b) b st k (s.entriesOf b).length c
  rwa [State.takeOut_bell] at h

theorem State.heatTest_ne {b c : BellNo} (h : b ≠ c) : (s.heatTest b).bell c = s.bell c := by
  unfold State.heatTest
  split
  · exact State.leaveService_ne h _ _
  · rw [State.changeService, State.report_bell, State.modBell_bell_ne _ h]
  · rfl

theorem State.heatTest_sameCoil (b c : BellNo) : (s.bell c).SameCoil ((s.heatTest b).bell c) := by
  unfold State.heatTest
  split
  · exact State.leaveService_sameCoil _ _ _ _
  · exact State.changeService_sameCoil _ _ _ _ _
  · exact .refl _

theorem State.finding_ne {b c : BellNo} (h : b ≠ c) (k : FaultKind) (w : BellCause) : (s.finding b k w).bell c = s.bell c := by
  unfold State.finding
  split
  · rfl
  · exact State.leaveService_ne h _ _

theorem State.finding_sameCoil (b : BellNo) (k : FaultKind) (w : BellCause) (c : BellNo) : (s.bell c).SameCoil ((s.finding b k w).bell c) := by
  unfold State.finding
  split
  · exact .refl _
  · exact State.leaveService_sameCoil _ _ _ _

theorem State.accumulate_ne {b c : BellNo} (h : b ≠ c) (n : Nat) : (s.accumulate b n).bell c = s.bell c := by
  rw [State.accumulate, State.heatTest_ne h, State.modBell_bell_ne _ h]

theorem State.accumulate_sameCoil (b : BellNo) (n : Nat) :
    ({ s.bell b with heat := min ((s.bell b).heat + n) Config.heatMax } : Bell).SameCoil ((s.accumulate b n).bell b) := by
  have h := State.heatTest_sameCoil (s := s.modBell b fun r => { r with heat := min (r.heat + n) Config.heatMax }) b b
  rwa [State.modBell_bell_self] at h

/-! #### Cooling -/

/-- A bell the heat thresholds do not move. -/
theorem State.heatTest_stays {b : BellNo} (h : (s.bell b).heatOutcome = none) : s.heatTest b = s := by
  unfold State.heatTest; rw [h]

theorem State.heatTest_released {b : BellNo} (h : (s.bell b).heatOutcome = some .inService) :
    (s.heatTest b).bell b = { s.bell b with service := .inService } := by
  unfold State.heatTest; rw [h]
  show (State.changeService s b .inService .heat 0).bell b = _
  rw [State.changeService, State.report_bell, State.modBell_bell_self]

theorem Service.code_three {x : Service} : x.code = 3 ↔ ∃ k, x = .faulted k := by cases x <;> simp [Service.code]

theorem State.coolBell_ne {b c : BellNo} (h : b ≠ c) : (State.coolBell b s).bell c = s.bell c := by
  unfold State.coolBell
  split
  · rfl
  · rw [State.heatTest_ne h, State.modBell_bell_ne _ h]

/-- What a cooling step leaves of a bell. -/
structure Bell.Cooled (r r' : Bell) : Prop where
  heat : r'.heat = if r.heat = 0 then 0 else cooled r.heat r.settings.cooling
  stays : r.heat = 0 ∨ r.service = .withdrawn ∨ r.service.code = 3 ∨
      r.service = .resting ∧ r.settings.heatRelease ≤ cooled r.heat r.settings.cooling ∨
      r.service = .inService ∧ cooled r.heat r.settings.cooling < r.settings.heatRest →
    r' = { r with heat := if r.heat = 0 then 0 else cooled r.heat r.settings.cooling }
  released : r.heat ≠ 0 → r.service = .resting → cooled r.heat r.settings.cooling < r.settings.heatRelease →
    r' = { r with heat := cooled r.heat r.settings.cooling, service := .inService }

theorem State.coolBell_cooled (b : BellNo) : (s.bell b).Cooled ((State.coolBell b s).bell b) := by
  unfold State.coolBell
  split
  · next h => exact ⟨by rw [if_pos h, h], fun _ => by rw [if_pos h, ← h], fun hn => absurd h hn⟩
  · next h =>
    have hb : (s.modBell b fun r => { r with heat := cooled r.heat r.settings.cooling }).bell b =
        { s.bell b with heat := cooled (s.bell b).heat (s.bell b).settings.cooling } := State.modBell_bell_self ..
    have hk := State.heatTest_sameCoil (s := s.modBell b fun r => { r with heat := cooled r.heat r.settings.cooling }) b b
    refine ⟨?_, fun hs => ?_, fun _ hr hl => ?_⟩
    · rw [hk.heat, hb, if_neg h]
    · rw [if_neg h, State.heatTest_stays (b := b), hb]
      rw [hb]
      unfold Bell.heatOutcome
      rcases hs with hs | hs | hs | ⟨hs, hl⟩ | ⟨hs, hl⟩
      · exact absurd hs h
      · simp only [hs]
      · obtain ⟨k, hk⟩ := Service.code_three.mp hs
        simp only [hk]
      · simp only [hs]; exact if_neg (Nat.not_lt.mpr hl)
      · simp only [hs]; exact if_neg (Nat.not_le.mpr hl)
    · rw [State.heatTest_released, hb]
      rw [hb]
      unfold Bell.heatOutcome
      simp only [hr]
      exact if_pos hl

theorem State.coolBells_cooled (b : BellNo) : (s.bell b).Cooled ((s.forBells State.coolBell).bell b) :=
  State.forBells_bell (s := s) (fun _ => True) (Q := fun r => (s.bell b).Cooled r) b (fun _ _ _ => trivial) (fun _ _ h => State.coolBell_ne h)
    (fun t _ ht => ht ▸ State.coolBell_cooled (s := t) b) trivial

/-- Settles O57. -/
theorem coolingStepsReleaseBells : Obligations.CoolingStepsReleaseBells := by
  intro s
  refine ⟨fun h => if_neg (by rw [h]; decide), fun h => ?_⟩
  let u : State := { s with timer := { s.timer with due := { s.timer.due with cooling := false } } }
  have cooling (b : BellNo) : (s.bell b).Cooled ((u.forBells State.coolBell).bell b) := State.coolBells_cooled (s := u) b
  obtain ⟨h1, h2, h3, h4, h5, h6, h7, h8, h9, h10, h11, h12⟩ := State.coolBells_frame (s := u)
  exact ⟨u.forBells State.coolBell, if_pos h, h1, fun b => ⟨(cooling b).heat, (cooling b).stays, (cooling b).released⟩,
    h2, h3, h4, h5, h6, h7, h8, h9, h10, h11, h12⟩

/-! #### Halt causes -/

theorem State.causeRaised_enters (h : s.ctl.mode ≠ .halt) (hl : s.ctl.mode ≠ .loading) :
    s.causeRaised = s.enterMode .halt (if s.ctl.mode = .console then s.ctl.remembered else some s.ctl.mode) .haltRaised := by
  unfold State.causeRaised
  cases hm : s.ctl.mode with
  | loading => exact absurd hm hl
  | halt => exact absurd hm h
  | _ => rfl

/-- A cause raised in a mode that runs stops the part in HALT. -/
theorem State.setCauses_halts (h : s.ctl.mode ≠ .halt) (hl : s.ctl.mode ≠ .loading) (c : Causes) : HaltedFrom s (s.setCauses c true) c := by
  have he : s.setCauses c true = (s.setCtl { s.ctl with causes := c }).enterMode .halt
      (if s.ctl.mode = .console then s.ctl.remembered else some s.ctl.mode) .haltRaised :=
    State.causeRaised_enters (s := s.setCtl { s.ctl with causes := c }) h hl
  obtain ⟨-, h2, -, -, h5, h6, h7, h8⟩ := State.setCauses_frame (s := s) c true
  refine ⟨?_, fun b => ?_, ?_, ?_, h2, h5, h6, h7, h8⟩
  · rw [he, State.enterMode_ctl]; rfl
  · rw [he]; exact State.enterMode_halt_coils ..
  · rw [he]; exact State.enterMode_sched ..
  · rw [he]; exact State.enterMode_playRecords rfl ..

theorem State.setCauses_causes (c : Causes) (raised : Bool) : (s.setCauses c raised).ctl.causes = c := by
  unfold State.setCauses
  dsimp only
  split
  · rw [State.causeRaised_ctl]; split <;> rfl
  · rw [State.causeCleared_ctl]; repeat' split
    all_goals rfl

/-- The last cause cleared returns the part from HALT. -/
theorem State.setCauses_returns {m : Mode} (h : s.ctl.mode = .halt) (hr : s.ctl.remembered = some m) {c : Causes} (hc : c.isEmpty = true) :
    (s.setCauses c false).ctl.mode = (if s.ctl.keyOut then .console else m) ∧
    (s.setCauses c false).ctl.remembered = (if s.ctl.keyOut then some m else none) := by
  have he : (s.setCauses c false).ctl = _ := State.causeCleared_ctl (s := s.setCtl { s.ctl with causes := c })
  rw [he, if_pos ⟨h, hc⟩]
  by_cases hk : s.ctl.keyOut = true
  · rw [if_pos hk, if_pos hk, if_pos (show (s.setCtl { s.ctl with causes := c }).ctl.keyOut = true from hk)]
    exact ⟨rfl, hr⟩
  · rw [if_neg hk, if_neg hk, if_neg (show ¬ (s.setCtl { s.ctl with causes := c }).ctl.keyOut = true from hk)]
    exact ⟨by rw [ModeController.back]; exact congrArg (Option.getD · _) hr, rfl⟩

/-! #### The driver temperature -/

theorem clampInt_eq (x : Int) : clampInt x (-40) 150 = max (-40) (min x 150) := by
  unfold clampInt; split
  · omega
  · split <;> omega

theorem warnAfter_eq (warn : Bool) (c : Int) : warnAfter warn c =
    if warn = false ∧ 70 ≤ c then true else if warn = true ∧ c < 65 then false else warn := by
  simp only [warnAfter, Bool.and_eq_true, Bool.not_eq_true', decide_eq_true_eq]

theorem hotAfter_eq (hot : Bool) (c : Int) : hotAfter hot c =
    if hot = false ∧ 85 ≤ c then true else if hot = true ∧ c < 75 then false else hot := by
  simp only [hotAfter, Bool.and_eq_true, Bool.not_eq_true', decide_eq_true_eq]

/-- Settles O58. -/
theorem driverTemperatureWarnsAndHalts : Obligations.DriverTemperatureWarnsAndHalts := by
  intro celsius s c warn hot timer
  have hw : warnAfter s.warn (clampInt celsius (-40) 150) = warn := by rw [clampInt_eq]; exact warnAfter_eq ..
  have hh : hotAfter s.ctl.causes.driverHot (clampInt celsius (-40) 150) = hot := by rw [clampInt_eq]; exact hotAfter_eq ..
  refine ⟨fun h => if_neg (by rw [h]; decide), fun h => ?_⟩
  let u : State := { s with timer := timer, warn := warn }
  have he : exec (.driverTemperatureReading celsius) s =
      done (if hot != s.ctl.causes.driverHot then u.setCauses { s.ctl.causes with driverHot := hot } hot else u) := by
    refine (if_pos h).trans ?_
    unfold State.temperature
    simp only [hh, hw]
    rfl
  by_cases hc : hot = s.ctl.causes.driverHot
  · rw [if_neg (by simpa using hc)] at he
    refine ⟨fun _ => he, u, he, rfl, rfl, rfl, by rw [hc], fun h0 h1 => ?_, fun _ h1 h0 => ?_⟩
    · have := h0.symm.trans (hc.symm.trans h1); cases this
    · have := h1.symm.trans (hc.symm.trans h0); cases this
  · rw [if_pos (by simpa using hc)] at he
    obtain ⟨f1, -, f3, f4, -, -, -, -⟩ := State.setCauses_frame (s := u) { s.ctl.causes with driverHot := hot } hot
    refine ⟨fun h => absurd h hc, _, he, f1, f3, f4, State.setCauses_causes .., fun _ h1 hm hl => ?_, fun hm _ h0 hs m hr _ => ?_⟩
    · rw [h1]
      obtain ⟨g1, g2, g3, g4, g5, g6, g7, g8, g9⟩ := State.setCauses_halts (s := u) hm hl { s.ctl.causes with driverHot := true }
      exact ⟨g1, g2, g3, g4, g5, g6, g7, g8, g9⟩
    · rw [h0]
      exact State.setCauses_returns (s := u) hm hr (by simp [Causes.isEmpty, hs])

/-! #### The supply -/

/-- Settles O59: SUPPLY_LOW is judged by the run of low samples while it is absent, and by the run of good ones while it is present. -/
theorem supplySagsHaltThePart : Obligations.SupplySagsHaltThePart := by
  intro volts s v timer low good
  let u : State := { s with timer := timer, supply := { s.supply with vMeas := some v } }
  have hlow : (if supplyIsLow v s.globals.vNom then s.supply.lowRun + 1 else 0) = low := by simp only [supplyIsLow, decide_eq_true_eq]; rfl
  have hgood : (if supplyIsGood v s.globals.vNom then s.supply.recoveryRun + 1 else 0) = good := by
    simp only [supplyIsGood, decide_eq_true_eq]; rfl
  refine ⟨fun h => if_neg (by rw [h]; decide), fun h hs => ?_, fun h hs => ?_⟩
  · have he : exec (.supplySample volts) s = done (u.judgeLow (supplyIsLow v s.globals.vNom)) := by
      refine (if_pos h).trans (congrArg done ?_)
      exact if_neg (by show ¬ s.ctl.causes.supplyLow = true; rw [hs]; decide)
    have hj : u.judgeLow (supplyIsLow v s.globals.vNom) =
        if 3 ≤ low then (u.setRuns 0 0).setCauses { s.ctl.causes with supplyLow := true } true else u.setRuns low s.supply.recoveryRun := by
      unfold State.judgeLow
      rw [← hlow]
    rw [he, hj]
    refine ⟨fun hl => congrArg done (if_neg (Nat.not_le.mpr hl)), fun hl => ?_⟩
    rw [if_pos hl]
    obtain ⟨f1, -, f3, f4, -, -, -, -⟩ := State.setCauses_frame (s := u.setRuns 0 0) { s.ctl.causes with supplyLow := true } true
    refine ⟨_, rfl, f1, f3, f4, State.setCauses_causes .., fun hm hld => ?_⟩
    obtain ⟨g1, g2, g3, g4, g5, g6, g7, g8, g9⟩ := State.setCauses_halts (s := u.setRuns 0 0) hm hld { s.ctl.causes with supplyLow := true }
    exact ⟨g1, g2, g3, g4, g5, g6, g7, g8, g9⟩
  · have he : exec (.supplySample volts) s = done (u.judgeRecovery (supplyIsGood v s.globals.vNom)) := by
      refine (if_pos h).trans (congrArg done ?_)
      exact if_pos hs
    have hj : u.judgeRecovery (supplyIsGood v s.globals.vNom) =
        if 200 ≤ good then (u.setRuns s.supply.lowRun 0).setCauses { s.ctl.causes with supplyLow := false } false
        else u.setRuns s.supply.lowRun good := by
      unfold State.judgeRecovery
      rw [← hgood]
    rw [he, hj]
    refine ⟨fun hl => congrArg done (if_neg (Nat.not_le.mpr hl)), fun hl => ?_⟩
    rw [if_pos hl]
    obtain ⟨f1, -, -, f4, -, -, -, -⟩ := State.setCauses_frame (s := u.setRuns s.supply.lowRun 0) { s.ctl.causes with supplyLow := false } false
    refine ⟨_, rfl, f1, f4, State.setCauses_causes .., fun hm hd m hr _ => ?_⟩
    exact State.setCauses_returns (s := u.setRuns s.supply.lowRun 0) hm hr (by simp [Causes.isEmpty, hd])

/-! #### The Coil Sweep -/

/-- The modes whose expiries are visits. -/
theorem Mode.sweeps_iff {m : Mode} : m.sweeps = true ↔ m = .silent ∨ m = .active ∨ m = .commission := by cases m <;> decide

theorem Service.inReach_iff {x : Service} : x.inReach = true ↔ x = .inService ∨ x = .resting := by cases x <;> simp [Service.inReach]

/-- A bell's stale mark as judged at a run time, with a sweep period. -/
def Bell.judged (r : Bell) (period now : Nat) : Bell :=
  { r with stale :=
      if r.service = .inService ∨ r.service = .resting then r.stale || decide (2 * period * 60000 + r.lastVerified < now) else false }

theorem State.sweepReport_bell (b c : BellNo) (k : SweepKind) : (s.sweepReport b k).bell c = s.bell c := State.report_bell ..

theorem State.staleTest_ne {b c : BellNo} (h : b ≠ c) : (State.staleTest b s).bell c = s.bell c := by
  unfold State.staleTest
  dsimp only
  repeat' split
  · rw [State.sweepReport_bell, State.modBell_bell_ne _ h]
  · rfl
  · rw [State.sweepReport_bell, State.modBell_bell_ne _ h]
  · rfl

theorem State.staleTest_self (b : BellNo) : (State.staleTest b s).bell b = (s.bell b).judged s.globals.sweepPeriod s.timer.ms := by
  have same {x : Bool} (h : x = (s.bell b).stale) : s.bell b = { s.bell b with stale := x } := by rw [h]
  unfold State.staleTest Bell.judged
  simp only [Service.inReach_iff]
  by_cases hr : (s.bell b).service = .inService ∨ (s.bell b).service = .resting
  · rw [if_pos hr, if_pos hr]
    split
    · next hs =>
      rw [State.sweepReport_bell, State.modBell_bell_self]
      have : decide (2 * s.globals.sweepPeriod * 60000 + (s.bell b).lastVerified < s.timer.ms) = true := (Bool.and_eq_true _ _ ▸ hs).2
      rw [this, Bool.or_true]
    · next hs =>
      refine same ?_
      cases hst : (s.bell b).stale with
      | true => rfl
      | false => rw [Bool.false_or]; simpa [hst] using hs
  · rw [if_neg hr, if_neg hr]
    split
    · rw [State.sweepReport_bell, State.modBell_bell_self]
    · next hs => exact same (Bool.eq_false_iff.mpr hs).symm

theorem State.staleTests_bell (c : BellNo) : (s.forBells State.staleTest).bell c = (s.bell c).judged s.globals.sweepPeriod s.timer.ms := by
  refine State.forBells_bell (s := s) (fun t => t.globals = s.globals ∧ t.timer = s.timer)
    (Q := fun r => r = (s.bell c).judged s.globals.sweepPeriod s.timer.ms) c (fun b t ht => ?_) (fun _ _ h => State.staleTest_ne h)
    (fun t ht hb => ?_) ⟨rfl, rfl⟩
  · simpa using ht
  · rw [State.staleTest_self, hb, ht.1, ht.2]

/-! The visited bell. -/

theorem State.settleVisit_ne {b c : BellNo} (h : b ≠ c) : (s.settleVisit b).bell c = s.bell c := by
  unfold State.settleVisit
  repeat' split
  · exact State.modBell_bell_ne _ h _
  · exact (State.accumulate_ne h _).trans (State.modBell_bell_ne _ h _)
  · rfl

theorem State.settleVisit_verified {b : BellNo} (h : (s.bell b).verified = true) :
    s.settleVisit b = s.modBell b fun r => { r with verified := false } := if_pos h

/-- The conditions of a test pulse at a visit. -/
structure State.Pulses (s : State) (b : BellNo) : Prop where
  reach : (s.bell b).service = .inService ∨ (s.bell b).service = .resting
  unverified : (s.bell b).verified = false
  idle : (s.bell b).hammer = .idle
  budget : s.drive.inUse + (s.bell b).settings.cls ≤ s.globals.driveBudget
  clear : ∀ e ∈ s.sched.queue, e.bell = b → (s.timer.ms : Int) + 100 < e.fire

theorem State.settleVisit_pulses {b : BellNo} (h : s.Pulses b) : s.settleVisit b = s.pulseStart b := by
  unfold State.settleVisit
  rw [if_neg (by rw [h.unverified]; decide)]
  refine if_pos ?_
  simp only [Bool.and_eq_true, Service.inReach_iff, State.pulseAsked, State.pulseAllowed, decide_eq_true_eq, List.all_eq_true, State.entriesOf,
    List.mem_filter]
  exact ⟨⟨h.reach, h.idle, fun e he => h.clear e he.1 he.2⟩, h.idle, h.budget⟩

theorem State.settleVisit_idle {b : BellNo} (hv : (s.bell b).verified = false) (h : ¬ s.Pulses b) : s.settleVisit b = s := by
  unfold State.settleVisit
  rw [if_neg (by rw [hv]; decide)]
  refine if_neg fun hp => h ?_
  simp only [Bool.and_eq_true, Service.inReach_iff, State.pulseAsked, State.pulseAllowed, decide_eq_true_eq, List.all_eq_true, State.entriesOf,
    List.mem_filter] at hp
  obtain ⟨⟨hr, hi, hc⟩, -, hb⟩ := hp
  exact ⟨hr, hv, hi, hb, fun e he hb => hc e ⟨he, hb⟩⟩

/-- A test pulse that starts. -/
theorem State.pulseStart_sameCoil (b : BellNo) : ({ s.bell b with
      hammer := .drive, heat := min ((s.bell b).heat + 4 * (s.bell b).settings.cls) Config.heatMax
      drive := some { kind := .testPulse, start := s.timer.ms, width := 4, cls := (s.bell b).settings.cls, sampled := false } } : Bell).SameCoil
    ((s.pulseStart b).bell b) := by
  unfold State.pulseStart
  refine Eq.subst (motive := fun r : Bell => r.SameCoil _) ?_ (State.accumulate_sameCoil b _)
  rw [State.modBell_bell_self]
  rfl

theorem State.pulseStart_inUse (b : BellNo) : (s.pulseStart b).drive.inUse = s.drive.inUse + (s.bell b).settings.cls := by
  unfold State.pulseStart State.accumulate
  simp

theorem exec_timer_early (h : ∀ t, s.sweep.next = some t → s.timer.ms < t) : exec .intervalTimerExpiry s = .next s.transmit := by
  show execIntervalTimerExpiry s = _
  unfold execIntervalTimerExpiry
  split
  · next t ht => exact if_neg (Nat.not_le.mpr (h t ht))
  · rfl

theorem exec_timer_due {due : Nat} (h : s.sweep.next = some due) (hd : due ≤ s.timer.ms) :
    exec .intervalTimerExpiry s = done (if s.ctl.mode.sweeps then
      (State.visit { s with sweep := { s.sweep with next := some (due + visitInterval s.globals.sweepPeriod) } })
      else { s with sweep := { s.sweep with next := some (due + visitInterval s.globals.sweepPeriod) } }).settle := by
  show execIntervalTimerExpiry s = _
  unfold execIntervalTimerExpiry
  rw [h]
  exact if_pos hd

theorem State.visit_sweep : s.visit.sweep = { s.sweep with pointer := s.sweep.pointer + 1 } := by simp [State.visit]

theorem State.visit_bell (c : BellNo) : s.visit.bell c = ((s.forBells State.staleTest).settleVisit s.sweep.pointer).bell c := by
  simp only [State.visit, State.bell]

theorem State.visit_drive : s.visit.drive = ((s.forBells State.staleTest).settleVisit s.sweep.pointer).drive := by
  simp only [State.visit]

theorem State.settle_bell (c : BellNo) : s.settle.bell c = s.bell c := State.bell_congr (by simp) c

theorem State.staleTests_pulses (b : BellNo) : (s.forBells State.staleTest).Pulses b ↔ s.Pulses b := by
  obtain ⟨h1, -, -, h4, h5, -, -, -, h9, -⟩ := State.staleTests_frame (s := s)
  have hb := State.staleTests_bell (s := s) b
  refine ⟨fun ⟨p1, p2, p3, p4, p5⟩ => ?_, fun ⟨p1, p2, p3, p4, p5⟩ => ?_⟩
  · rw [hb] at p1 p2 p3 p4
    rw [h4, h5] at p4
    rw [h1, h9] at p5
    exact ⟨p1, p2, p3, p4, p5⟩
  · refine ⟨?_, ?_, ?_, ?_, ?_⟩
    · rw [hb]; exact p1
    · rw [hb]; exact p2
    · rw [hb]; exact p3
    · rw [hb, h4, h5]; exact p4
    · rw [h1, h9]; exact p5

/-- The visited bell without a test pulse. -/
theorem State.settleVisit_unpulsed {b : BellNo} (h : ¬ s.Pulses b) :
    (s.settleVisit b).bell b = { s.bell b with verified := false } ∧ (s.settleVisit b).drive = s.drive := by
  cases hv : (s.bell b).verified with
  | true =>
    rw [State.settleVisit_verified hv]
    exact ⟨State.modBell_bell_self .., rfl⟩
  | false =>
    rw [State.settleVisit_idle hv h]
    exact ⟨by rw [← hv], rfl⟩

/-- The pointer goes round the 48 bells. -/
theorem fin48_next (b : BellNo) : (b + 1).val = if b.val = 47 then 0 else b.val + 1 := by
  have := b.isLt
  rw [Fin.val_add]
  show (b.val + 1) % 48 = _
  split <;> omega

/-- Settles O60: the expiry sets the timer on, and in a sweeping mode visits the bell at the pointer. -/
theorem sweepVisitsTheBells : Obligations.SweepVisitsTheBells := by
  intro s
  refine ⟨exec_timer_early, fun due h hd => ?_⟩
  rw [exec_timer_due h hd]
  generalize hu : ({ s with sweep := { s.sweep with next := some (due + visitInterval s.globals.sweepPeriod) } } : State) = u
  have hus : u = { s with sweep := { s.sweep with next := some (due + s.globals.sweepPeriod * 1250) } } := hu.symm
  by_cases hm : s.ctl.mode.sweeps = true
  · have hw := Mode.sweeps_iff.mp hm
    rw [if_pos hm]
    obtain ⟨f1, f2, f3, f4, f5, f6, f7, f8, f9, f10, f11, f12⟩ := State.settle_frame (s := u.visit)
    obtain ⟨v1, v2, v3, v4, v5, v6, v7, -, v9, v10⟩ := State.visit_frame (s := u)
    subst hus
    refine ⟨_, rfl, ?_, f1.trans v1, f2.trans v2, f3.trans v3, f4.trans v4, f7.trans v5, f8.trans v6, f10.trans v7, f11.trans v9, f12.trans v10,
      fun hn => ?_, fun _ => ?_⟩
    · rw [f9, State.visit_sweep]
    · rcases hw with hw | hw | hw <;> rw [hw] at hn <;> rcases hn with hn | hn | hn <;> cases hn
    · intro b reach judged r pulses
      generalize hu' : ({ s with sweep := { s.sweep with next := some (due + s.globals.sweepPeriod * 1250) } } : State) = u at *
      have hb : u.sweep.pointer = b := by rw [← hu']
      have hj (c : BellNo) : (u.forBells State.staleTest).bell c = judged (s.bell c) := by
        rw [State.staleTests_bell, ← hu']; rfl
      have hp : u.Pulses b ↔ pulses := by
        rw [← hu']
        exact ⟨fun ⟨p1, p2, p3, p4, p5⟩ => ⟨p1, p2, p3, p4, p5⟩, fun ⟨p1, p2, p3, p4, p5⟩ => ⟨p1, p2, p3, p4, p5⟩⟩
      have hd : (u.forBells State.staleTest).drive = s.drive := by
        obtain ⟨-, -, -, -, h5, -⟩ := State.staleTests_frame (s := u)
        rw [h5, ← hu']
      refine ⟨?_, fun c hc => ?_, fun hn => ?_, fun hq => ?_⟩
      · rw [f9, State.visit_sweep, hb]
        exact fin48_next b
      · rw [State.settle_bell, State.visit_bell, hb, State.settleVisit_ne (Ne.symm hc), hj]
      · obtain ⟨k1, k2⟩ := State.settleVisit_unpulsed (fun h => hn (hp.mp ((State.staleTests_pulses b).mp h)))
        rw [State.settle_bell, State.visit_bell, f6, State.visit_drive, hb, k1, k2, hj, hd]
        exact ⟨rfl, rfl⟩
      · have hq' := (State.staleTests_pulses b).mpr (hp.mpr hq)
        have k := State.pulseStart_sameCoil (s := u.forBells State.staleTest) b
        have ki := State.pulseStart_inUse (s := u.forBells State.staleTest) b
        have ht : (u.forBells State.staleTest).timer = s.timer := by rw [(State.staleTests_frame u).1, ← hu']
        rw [hj, ht] at k
        rw [hj, hd] at ki
        rw [State.settle_bell, State.visit_bell, f6, State.visit_drive, hb, State.settleVisit_pulses hq']
        exact ⟨k.hammer, k.drive, k.heat, k.stale, k.readyTime, k.window, ki⟩
  · have hn : ¬ (s.ctl.mode = .silent ∨ s.ctl.mode = .active ∨ s.ctl.mode = .commission) := fun hw => hm (Mode.sweeps_iff.mpr hw)
    rw [if_neg hm]
    obtain ⟨f1, f2, f3, f4, f5, f6, f7, f8, f9, f10, f11, f12⟩ := State.settle_frame (s := u)
    subst hus
    refine ⟨_, rfl, ?_, f1, f2, f3, f4, f7, f8, f10, f11, f12, fun _ => ⟨?_, f5, f6⟩, fun hw => absurd hw hn⟩
    · rw [f9]
    · rw [f9]

end Sys2Proof.Machine

/-! ### Proofs: the end of loading (O16) -/

namespace Sys2Proof.Machine

open Sys2Proof

variable {s : State}

/-! #### The directory is rebuilt -/

/-- A version of an earlier tune shares a block with a stored one. -/
def TuneStore.Clash (x : TuneStore) (i : Fin 96) (e : StoredTune) : Prop :=
  ∃ j : Fin 96, j < i ∧ ∃ v, x.slots[j].current = some v ∧ ∃ b ∈ v.blocks, b ∈ e.version.blocks

/-- A stored version passes its check. -/
def TuneStore.Passes (x : TuneStore) (i : Fin 96) (e : StoredTune) : Prop :=
  e.crcMatches = true ∧ e.version.formOk = true ∧ ¬ x.Clash i e

/-- What loading makes of a tune and its directory entry, which held o before. -/
structure Rebuilt (o : Option StoredTune) (x : TuneStore) (n : NvStore) (i : Fin 96) : Prop where
  empty : o = none → n.entries[i] = none ∧ x.slots[i] = { current := none, retiring := none }
  passed : ∀ e, o = some e → x.Passes i e → n.entries[i] = some e ∧
    ∃ serial : Nat, x.slots[i] = { current := some { e.version with users := 0, serial := serial }, retiring := none }
  failed : ∀ e, o = some e → ¬ x.Passes i e → n.entries[i] = none ∧ x.slots[i] = { current := none, retiring := none }

/-- The first k tunes are loaded, the others are as they were. -/
structure Loading (s : State) (k : Nat) (t : State) : Prop where
  staging : t.tunes.staging = .none
  displaced : t.tunes.displaced = []
  area : t.nv.area = s.nv.area ∧ t.nv.areaMatches = s.nv.areaMatches ∧ t.nv.write = s.nv.write
  loaded : ∀ i : Fin 96, i.val < k → Rebuilt s.nv.entries[i] t.tunes t.nv i
  waits : ∀ i : Fin 96, k ≤ i.val → t.nv.entries[i] = s.nv.entries[i] ∧ t.tunes.slots[i] = { current := none, retiring := none }

theorem Rebuilt.retiring {o : Option StoredTune} {x : TuneStore} {n : NvStore} {i : Fin 96} (h : Rebuilt o x n i) : x.slots[i].retiring = none := by
  cases o with
  | none => rw [(h.empty rfl).2]
  | some e =>
    by_cases hp : x.Passes i e
    · obtain ⟨-, serial, hs⟩ := h.passed e rfl hp
      rw [hs]
    · rw [(h.failed e rfl hp).2]

/-- Loading keeps what it has done when another tune follows. -/
theorem Rebuilt.congr {o : Option StoredTune} {x y : TuneStore} {n m : NvStore} {i : Fin 96} (h : Rebuilt o x n i)
    (hs : ∀ j : Fin 96, j ≤ i → y.slots[j] = x.slots[j]) (he : m.entries[i] = n.entries[i]) : Rebuilt o y m i := by
  have hp (e : StoredTune) : y.Passes i e ↔ x.Passes i e := by
    have : y.Clash i e ↔ x.Clash i e :=
      exists_congr fun j => and_congr_right fun hj => exists_congr fun v => and_congr_left fun _ => by rw [hs j (Nat.le_of_lt hj)]
    unfold TuneStore.Passes; rw [this]
  refine ⟨fun ho => ?_, fun e ho hpe => ?_, fun e ho hpe => ?_⟩ <;> rw [he, hs i (Nat.le_refl _)]
  · exact h.empty ho
  · exact h.passed e ho ((hp e).mp hpe)
  · exact h.failed e ho (mt (hp e).mpr hpe)

/-- While tune k is loaded, the blocks in use are those of the tunes before it. -/
theorem Loading.mem_usedBlocks {k : Fin 96} {t : State} (h : Loading s k t) (b : Nat) :
    b ∈ t.tunes.usedBlocks ↔ ∃ j : Fin 96, j < k ∧ ∃ v, t.tunes.slots[j].current = some v ∧ b ∈ v.blocks := by
  have retired (j : Fin 96) : t.tunes.slots[j].retiring = none := by
    by_cases hj : j.val < k.val
    · exact (h.loaded j hj).retiring
    · rw [(h.waits j (Nat.not_lt.mp hj)).2]
  rw [TuneStore.usedBlocks, h.staging, h.displaced]
  simp only [List.flatMap_nil, List.append_nil, Staging.blocks, toList_eq_ofFn, List.mem_flatMap, List.mem_ofFn]
  constructor
  · rintro ⟨x, ⟨j, rfl⟩, v, hv, hb⟩
    rw [retired j, Option.toList_none, List.append_nil, Option.mem_toList] at hv
    refine ⟨j, Nat.not_le.mp fun hj => ?_, v, hv, hb⟩
    rw [(h.waits j hj).2] at hv
    cases hv
  · rintro ⟨j, -, v, hv, hb⟩
    exact ⟨_, ⟨j, rfl⟩, v, List.mem_append_left _ (Option.mem_toList.mpr hv), hb⟩

theorem StoredTune.failure_iff {e : StoredTune} {used : List Nat} :
    e.failure used = none ↔ e.crcMatches = true ∧ e.version.formOk = true ∧ ∀ b ∈ e.version.blocks, b ∉ used := by
  have shared : (e.version.blocks.any fun b => used.contains b) = true ↔ ¬ ∀ b ∈ e.version.blocks, b ∉ used := by simp
  unfold StoredTune.failure
  cases e.crcMatches with
  | false => exact ⟨(fun h => by cases h), fun h => absurd h.1 (by decide)⟩
  | true =>
    rw [if_neg (by decide)]
    cases e.version.formOk with
    | false => exact ⟨(fun h => by cases h), fun h => absurd h.2.1 (by decide)⟩
    | true =>
      by_cases hb : ∀ b ∈ e.version.blocks, b ∉ used
      · exact ⟨fun _ => ⟨rfl, rfl, hb⟩, fun _ => if_neg fun h => shared.mp h hb⟩
      · rw [Bool.not_true, Bool.false_or, if_pos (shared.mpr hb)]
        exact ⟨(fun h => by cases h), fun h => absurd h.2.2 hb⟩

/-- One more tune. -/
theorem Loading.step {k : Fin 96} {t : State} (h : Loading s k t) (g : List (Fin 96 × StoredTune × StoreReason)) :
    Loading s (k.val + 1) (loadEntry t g k).1 := by
  obtain ⟨hent, hslot⟩ := h.waits k (Nat.le_refl _)
  have hne {i : Fin 96} (hi : i.val ≠ k.val) : i ≠ k := fun hk => hi (congrArg Fin.val hk)
  unfold loadEntry
  cases ho : t.nv.entries[k] with
  | none =>
    refine ⟨h.staging, h.displaced, h.area, fun i hi => ?_, fun i hi => h.waits i (Nat.le_of_succ_le hi)⟩
    by_cases hik : i = k
    · subst hik
      refine ⟨fun _ => ⟨ho, hslot⟩, fun e he => ?_, fun e he => ?_⟩
      all_goals
        rw [← hent, ho] at he
        cases he
    · exact h.loaded i (Nat.lt_of_le_of_ne (Nat.le_of_lt_succ hi) fun hv => hik (Fin.ext hv))
  | some e =>
    have hpass : e.failure t.tunes.usedBlocks = none ↔ t.tunes.Passes k e := by
      rw [StoredTune.failure_iff]
      refine and_congr_right fun _ => and_congr_right fun _ => ?_
      constructor
      · rintro hb ⟨j, hj, v, hv, b, hbv, hbe⟩
        exact hb b hbe ((h.mem_usedBlocks b).mpr ⟨j, hj, v, hv, hbv⟩)
      · intro hn b hbe hu
        obtain ⟨j, hj, v, hv, hbv⟩ := (h.mem_usedBlocks b).mp hu
        exact hn ⟨j, hj, v, hv, b, hbv, hbe⟩
    have clash {y : TuneStore} (hy : ∀ j : Fin 96, j ≠ k → y.slots[j] = t.tunes.slots[j]) : y.Passes k e ↔ t.tunes.Passes k e := by
      have : y.Clash k e ↔ t.tunes.Clash k e :=
        exists_congr fun j => and_congr_right fun hj => exists_congr fun v => and_congr_left fun _ => by rw [hy j (Fin.ne_of_lt hj)]
      unfold TuneStore.Passes; rw [this]
    dsimp only
    split
    · next hf =>
      have hp := hpass.mp hf
      -- the version enters as CURRENT
      refine ⟨h.staging, ?_, h.area, fun i hi => ?_, fun i hi => ?_⟩
      · show ((t.tunes.displaced.filter (·.1 ≠ k)) ++ _) = []
        rw [h.displaced]; rfl
      · have hslots (j : Fin 96) (hj : j ≠ k) : (t.tunes.setVersions k (some { e.version with users := 0, serial := t.tunes.nextSerial }) []).slots[j] =
            t.tunes.slots[j] := TuneStore.setVersions_other _ hj _ _
        by_cases hik : i = k
        · subst hik
          refine ⟨fun hn => ?_, fun e' he' _ => ?_, fun e' he' hn => ?_⟩
          · rw [← hent, ho] at hn; cases hn
          · rw [← hent, ho] at he'; cases he'
            exact ⟨ho, t.tunes.nextSerial, TuneStore.setVersions_self ..⟩
          · rw [← hent, ho] at he'; cases he'
            exact absurd ((clash hslots).mpr hp) hn
        · have hik' : i.val < k.val := Nat.lt_of_le_of_ne (Nat.le_of_lt_succ hi) fun hv => hik (Fin.ext hv)
          exact (h.loaded i hik').congr (fun j hj => hslots j (Fin.ne_of_lt (Nat.lt_of_le_of_lt hj hik'))) rfl
      · have hik : i ≠ k := hne (Nat.ne_of_gt hi)
        refine ⟨(h.waits i (Nat.le_of_succ_le hi)).1, ?_⟩
        exact (TuneStore.setVersions_other _ hik _ _).trans (h.waits i (Nat.le_of_succ_le hi)).2
    · next why hf =>
      have hp : ¬ t.tunes.Passes k e := fun hp => by rw [hpass.mpr hp] at hf; cases hf
      -- the entry is erased
      have hents (j : Fin 96) (hj : j ≠ k) : (t.nv.entries.set k none)[j] = t.nv.entries[j] := by
        have : (k : Nat) ≠ j := fun hv => hj (Fin.ext hv.symm)
        simp [this]
      refine ⟨h.staging, h.displaced, h.area, fun i hi => ?_, fun i hi => ?_⟩
      · by_cases hik : i = k
        · subst hik
          refine ⟨fun hn => ?_, fun e' he' hp' => ?_, fun _ _ _ => ⟨by simp, hslot⟩⟩
          · rw [← hent, ho] at hn; cases hn
          · rw [← hent, ho] at he'; cases he'
            exact absurd hp' hp
        · exact (h.loaded i (Nat.lt_of_le_of_ne (Nat.le_of_lt_succ hi) fun hv => hik (Fin.ext hv))).congr (fun _ _ => rfl) (hents i hik)
      · exact ⟨(hents i (hne (Nat.ne_of_gt hi))).trans (h.waits i (Nat.le_of_succ_le hi)).1, (h.waits i (Nat.le_of_succ_le hi)).2⟩

theorem loading_all (s : State) (t : State) (h : Loading s 0 t) : ∀ k, k ≤ 96 → Loading s k
    (((List.finRange 96).take k).foldl (fun a i => loadEntry a.1 a.2 i) (t, [])).1
  | 0, _ => h
  | k + 1, hk => by
    have ih := loading_all s t h k (Nat.le_of_succ_le hk)
    rw [List.take_add_one, List.getElem?_eq_getElem (by simpa using hk), Option.toList_some, List.foldl_append, List.foldl_cons, List.foldl_nil,
      List.getElem_finRange]
    exact ih.step (k := ⟨k, hk⟩) _

/-- After the directory is loaded all tunes are. -/
theorem State.loadDirectory_loading (s : State) : Loading s 96 s.loadDirectory := by
  have start : Loading s 0 { s with tunes := TuneStore.start } := by
    refine ⟨rfl, rfl, ⟨rfl, rfl, rfl⟩, fun i hi => absurd hi (Nat.not_lt_zero _), fun i _ => ⟨rfl, ?_⟩⟩
    simp [TuneStore.start]
  have all := loading_all s _ start 96 (Nat.le_refl _)
  rw [List.take_of_length_le (by simp)] at all
  have reports : ∀ (l : List (Fin 96 × StoredTune × StoreReason)) (t : State), Loading s 96 t → Loading s 96 (l.foldl (fun s g =>
      s.tuneReport .removed g.1 .load (if g.2.1.countReadable then g.2.1.version.events.length else 0)
        (if g.2.1.countReadable then g.2.1.version.blocks.length else 0) (some g.2.2)) t) := by
    intro l t ht
    refine foldl_induct (P := Loading s 96) (fun t g _ ht => ?_) ht
    obtain ⟨h1, h2, h3, h4, h5⟩ := ht
    have tunes (r : Report) : (t.report r).tunes = t.tunes ∧ (t.report r).nv = t.nv := by unfold State.report; split <;> exact ⟨rfl, rfl⟩
    unfold State.tuneReport
    refine ⟨?_, ?_, ?_, ?_, ?_⟩
    all_goals simp only [tunes]
    · exact h1
    · exact h2
    · exact h3
    · exact h4
    · exact h5
  exact reports _ _ all

/-! #### The versions loaded have no users -/

/-- No version has a user, and none is RETIRING. -/
structure TuneStore.Unused (x : TuneStore) : Prop where
  displaced : x.displaced = []
  retiring : ∀ i : Fin 96, x.slots[i].retiring = none
  users : ∀ i : Fin 96, ∀ v, x.slots[i].current = some v → v.users = 0

theorem Loading.unused {t : State} (h : Loading s 96 t) : t.tunes.Unused where
  displaced := h.displaced
  retiring i := (h.loaded i i.isLt).retiring
  users i v hv := by
    obtain ⟨h1, h2, h3⟩ := h.loaded i i.isLt
    cases ho : s.nv.entries[i] with
    | none => rw [(h1 ho).2] at hv; cases hv
    | some e =>
      by_cases hp : t.tunes.Passes i e
      · obtain ⟨-, serial, hs⟩ := h2 e ho hp
        rw [hs] at hv
        cases hv
        rfl
      · rw [(h3 e ho hp).2] at hv; cases hv

/-- A release finds nothing to lower. -/
theorem TuneStore.Unused.release {x : TuneStore} (h : x.Unused) (i : Fin 96) (n : Nat) : x.release i n = x := by
  have hret : x.retiringOf i = [] := by rw [TuneStore.retiringOf, h.retiring i, h.displaced]; rfl
  have hcur : (x.slots[i].current.map fun v => if v.serial = n then { v with users := v.users - 1 } else v) = x.slots[i].current := by
    cases hc : x.slots[i].current with
    | none => rfl
    | some v =>
      have hv := h.users i v hc
      refine congrArg some ?_
      dsimp only
      split
      · have : v.users - 1 = v.users := by rw [hv]
        rw [this]
      · rfl
  have hslot : ({ current := x.slots[i].current, retiring := none } : TuneSlot) = x.slots[i] := by rw [← h.retiring i]
  unfold TuneStore.release
  extract_lets lower
  rw [hret, show x.slots[i].current.map lower = x.slots[i].current from hcur]
  simp only [TuneStore.setVersions, List.map_nil, List.filter_nil, List.head?_nil, List.tail_nil, hslot, h.displaced, List.append_nil]
  rw [← h.displaced]
  simp

theorem State.finish_unused (h : s.tunes.Unused) (q : Play) (o : PlayOutcome) : (s.finish q o).tunes = s.tunes := by
  have hr : (s.releaseVersion q.kind).tunes = s.tunes := by
    unfold State.releaseVersion
    split
    · exact h.release _ _
    · rfl
  unfold State.finish
  rw [(State.report_frame _ _).2.2.2.2.2.2.2.2.2.2.2.2.1, hr]

theorem State.flushPlayer_unused (h : s.tunes.Unused) (p : PlayerNo) (o : PlayOutcome) : (s.flushPlayer p o).tunes = s.tunes := by
  have running (u : State) (hu : u.tunes = s.tunes) (q : Play) (x : PlayOutcome) : (u.finish q x).tunes = s.tunes :=
    (State.finish_unused (hu ▸ h) q x).trans hu
  unfold State.flushPlayer
  extract_lets x v w
  have hw : w.tunes = s.tunes := by
    show (match x.play with | some q => v.finish q _ | none => v).tunes = s.tunes
    cases x.play with
    | none => rfl
    | some q => exact running v rfl q _
  split
  · exact running w hw _ _
  · exact hw

theorem State.flushPlays_unused (h : s.tunes.Unused) (o : PlayOutcome) : (s.flushPlays o).tunes = s.tunes := by
  have h0 : (s.flushPlayer .p0 o).tunes = s.tunes := State.flushPlayer_unused h _ _
  have h1 : ((s.flushPlayer .p0 o).flushPlayer .p1 o).tunes = s.tunes := (State.flushPlayer_unused (h0 ▸ h) _ _).trans h0
  unfold State.flushPlays
  exact foldl_induct (P := fun t : State => t.tunes = s.tunes) (fun t q _ ht => (State.finish_unused (ht ▸ h) q _).trans ht) h1

/-- Entry to a mode leaves versions without users as they are. -/
theorem State.enterMode_unused (h : s.tunes.Unused) (m : Mode) (r : Option Mode) (c : ModeCause) : (s.enterMode m r c).tunes = s.tunes := by
  have ht : (s.turned m r c).tunes = s.tunes := by
    unfold State.turned State.modeCuts
    split <;> simp
  have hf : (s.turned m r c).flushQueue.tunes = s.tunes := by simp [ht]
  rw [State.enterMode_eq]
  split
  · have := State.flushPlays_unused (hf ▸ h) m.playOutcome
    simp [this, ht]
  · exact ht

/-! #### The bells at the end of loading -/

/-- No coil is driven, no window is open and no settings are pending. -/
structure State.AtRest (s : State) : Prop where
  drive : ∀ b, (s.bell b).drive = none
  window : ∀ b, (s.bell b).window = none
  pending : ∀ b, (s.bell b).pending = none

/-- Nothing of the bells, the budget or the global settings changes from one state to the other. -/
def State.SameBells (s t : State) : Prop := t.bells = s.bells ∧ t.globals = s.globals

theorem State.AtRest.same {t : State} (h : s.AtRest) (k : s.SameBells t) : t.AtRest := by
  have hb := State.bell_congr k.1
  exact ⟨fun b => by rw [hb]; exact h.drive b, fun b => by rw [hb]; exact h.window b, fun b => by rw [hb]; exact h.pending b⟩

theorem State.AtRest.cutDrive (h : s.AtRest) (b : BellNo) : s.cutDrive b = s := by
  unfold State.cutDrive; rw [h.drive b]

theorem State.AtRest.quietPoint (h : s.AtRest) (b : BellNo) : s.quietPoint b = s := by
  unfold State.quietPoint; rw [h.pending b]
  split
  · next hp => cases hp
  · rfl

/-- A change of a bell's record to what it is. -/
theorem State.modBell_same {b : BellNo} {f : Bell → Bell} (h : f (s.bell b) = s.bell b) : s.modBell b f = s := by
  unfold State.modBell
  rw [h]
  simp [State.bell]

theorem State.AtRest.modeCuts (h : s.AtRest) (m : Mode) : s.SameBells (s.modeCuts m) := by
  unfold State.modeCuts
  split
  · refine State.forBells_induct (P := s.SameBells) (fun b t ht => ?_) ⟨rfl, rfl⟩
    have k := h.same ht
    rw [k.cutDrive b, State.modBell_same (by rw [← k.window b])]
    exact ht
  · refine State.forBells_induct (P := s.SameBells) (fun b t ht => ?_) ⟨rfl, rfl⟩
    have k := h.same ht
    rw [k.drive b]
    exact ht
  · exact ⟨rfl, rfl⟩

theorem State.AtRest.enterMode (h : s.AtRest) (m : Mode) (r : Option Mode) (c : ModeCause) : s.SameBells (s.enterMode m r c) := by
  have ht : s.SameBells (s.turned m r c) := by
    obtain ⟨k1, k2⟩ := State.AtRest.modeCuts (s := (s.setCtl { s.ctl with mode := m, remembered := r }).report
      (.mode s.ctl.mode m c s.ctl.causes r (if m.flushes then s.sched.queue.length else 0))) (h.same ⟨by simp, by simp⟩) m
    exact ⟨k1.trans (by simp), k2.trans (by simp)⟩
  rw [State.enterMode_eq]
  split
  · have hf : s.SameBells ((s.turned m r c).flushQueue.flushPlays m.playOutcome) := by
      obtain ⟨k1, k2⟩ := ht
      exact ⟨by simp [k1], by simp [k2]⟩
    unfold State.quietPoints
    refine State.forBells_induct (P := s.SameBells) (fun b t ht => ?_) hf
    rw [(h.same ht).quietPoint b]
    exact ht
  · exact ht

/-! #### The mode after loading -/

/-- The target mode as the table gives it. -/
theorem targetMode_eq (commissioned autoActive valid : Bool) : targetMode commissioned autoActive valid =
    (if commissioned = false then .commission else if autoActive && valid then .active else .silent,
      commissioned && autoActive && !valid) := by
  cases commissioned <;> cases autoActive <;> cases valid <;> rfl

/-- The mode entered at the end of loading, with halt causes or without, the key asserted or not, and a target. -/
def loadedMode (noCause key : Bool) (target : Mode) : Mode := if noCause = false then .halt else if key then .console else target

/-- The mode remembered at the end of loading. -/
def loadedReturn (noCause key : Bool) (target : Mode) : Option Mode := if noCause = false ∨ key = true then some target else none

theorem State.enterMode_loaded (u : State) (noCause key : Bool) (m : Mode) :
    (if !noCause then u.enterMode .halt (some m) .loadDone else if key then u.enterMode .console (some m) .loadDone
      else u.enterMode m none .loadDone) = u.enterMode (loadedMode noCause key m) (loadedReturn noCause key m) .loadDone := by
  cases noCause <;> cases key <;> simp [loadedMode, loadedReturn]

/-- The part enters the mode that the causes, the key and the target decide. -/
theorem State.endLoading_enters (s : State) : s.endLoading =
    (s.setCtl { s.ctl with resumePending := (targetMode s.ctl.commissioned s.globals.autoActive s.clock.valid).2 }).enterMode
      (loadedMode s.ctl.causes.isEmpty s.ctl.keyOut (targetMode s.ctl.commissioned s.globals.autoActive s.clock.valid).1)
      (loadedReturn s.ctl.causes.isEmpty s.ctl.keyOut (targetMode s.ctl.commissioned s.globals.autoActive s.clock.valid).1) .loadDone := by
  rw [← State.enterMode_loaded]
  rfl

/-! #### END_OF_LOADING -/

/-- The area that is loaded. -/
def NvStore.loads (n : NvStore) : StoredArea := if n.areaMatches = true ∧ n.area.formOk = true then n.area else StoredArea.default

theorem NvStore.loads_area {n : NvStore} (h : n.areaFailure = none) : n.loads = n.area := by
  unfold NvStore.areaFailure at h
  split at h
  · cases h
  · next hm =>
    split at h
    · cases h
    · next hf => exact if_pos ⟨by simpa using hm, by simpa using hf⟩

theorem NvStore.loads_default {n : NvStore} {why : StoreReason} (h : n.areaFailure = some why) : n.loads = StoredArea.default := by
  refine if_neg fun ⟨hm, hf⟩ => ?_
  unfold NvStore.areaFailure at h
  rw [hm, hf] at h
  cases h

theorem State.report_only (r : Report) : s.report r = { s with link := (s.report r).link } := by
  unfold State.report; split <;> rfl

theorem State.loadSettings_loads (s : State) : ∃ l, s.loadSettings = { s.loadArea s.nv.loads with link := l } := by
  unfold State.loadSettings
  split
  · next h => exact ⟨s.link, by rw [NvStore.loads_area h]; rfl⟩
  · next why h => exact ⟨_, by rw [NvStore.loads_default h, State.settingsReport, State.report_only]⟩

/-- The part with its tunes and settings loaded, the mode not yet decided. -/
def State.loadedPart (s : State) : State := s.loadDirectory.loadSettings.resetRuns.restartSweep

theorem State.loadDirectory_loads (s : State) : s.loadDirectory.nv.loads = s.nv.loads := by
  obtain ⟨ha, hm, -⟩ := s.loadDirectory_loading.area
  unfold NvStore.loads
  rw [ha, hm]

theorem State.loadedPart_bell (b : BellNo) : s.loadedPart.bell b = s.nv.loads.bells[b].record (s.bell b) := by
  obtain ⟨l, hl⟩ := s.loadDirectory.loadSettings_loads
  have hbs : s.loadedPart.bells = s.loadDirectory.loadSettings.bells := by simp [State.loadedPart]
  have hb : s.loadedPart.bell b = s.loadDirectory.loadSettings.bell b := State.bell_congr hbs b
  have hd : s.loadDirectory.bell b = s.bell b := State.bell_congr (by simp) b
  have harea : s.loadDirectory.loadSettings.bells = (s.loadDirectory.loadArea s.loadDirectory.nv.loads).bells := by rw [hl]
  rw [hb, State.bell_congr harea b, State.loadArea_bell, hd, s.loadDirectory_loads]

theorem State.loadedPart_globals : s.loadedPart.globals = s.nv.loads.globals := by
  obtain ⟨l, hl⟩ := s.loadDirectory.loadSettings_loads
  simp only [State.loadedPart, State.restartSweep_frame, State.resetRuns_frame, hl, State.loadArea, s.loadDirectory_loads]

theorem State.loadedPart_ctl : s.loadedPart.ctl = { s.ctl with commissioned := s.nv.loads.commissioned } := by
  obtain ⟨l, hl⟩ := s.loadDirectory.loadSettings_loads
  simp only [State.loadedPart, State.restartSweep_frame, State.resetRuns_frame, hl, State.loadArea, s.loadDirectory_loads, State.loadDirectory_frame]

theorem State.loadedPart_slots (n : Fin 64) : s.loadedPart.slots[n].fields = s.nv.loads.slots[n] ∧ s.loadedPart.slots[n].marker = s.slots[n].marker := by
  obtain ⟨l, hl⟩ := s.loadDirectory.loadSettings_loads
  have h : s.loadedPart.slots = s.slots.zipWith (fun x f => { x with fields := f }) s.nv.loads.slots := by
    simp only [State.loadedPart, State.restartSweep_frame, State.resetRuns_frame, hl, State.loadArea, s.loadDirectory_loads,
      State.loadDirectory_frame]
  rw [h]
  simp

theorem State.loadedPart_tunes : s.loadedPart.tunes = s.loadDirectory.tunes ∧ s.loadedPart.nv = s.loadDirectory.nv := by
  simp [State.loadedPart]

theorem State.loadedPart_supply : s.loadedPart.supply = { s.supply with lowRun := 0, recoveryRun := 0 } := by
  simp only [State.loadedPart, State.restartSweep_frame, State.resetRuns, State.loadSettings_frame, State.loadDirectory_frame]

theorem State.loadedPart_sweep : s.loadedPart.sweep = { s.sweep with
    next := some ((if s.timer.tick = 0 then s.timer.ms else s.timer.ms + 1) + s.nv.loads.globals.sweepPeriod * 1250) } := by
  have hg : s.loadDirectory.loadSettings.resetRuns.globals = s.nv.loads.globals := by
    rw [← State.loadedPart_globals]; simp [State.loadedPart]
  have ht : s.loadDirectory.loadSettings.resetRuns.timer = s.timer := by simp
  have hs : s.loadDirectory.loadSettings.resetRuns.sweep = s.sweep := by simp
  rw [State.loadedPart, State.restartSweep, hg, hs, State.nextWholeMs, ht]
  rfl

theorem State.loadedPart_rest : s.loadedPart.timer = s.timer ∧ s.loadedPart.clock = s.clock ∧ s.loadedPart.warn = s.warn ∧
    s.loadedPart.pending = s.pending := by simp [State.loadedPart]

/-- With nothing driven before, the loaded part is at rest. -/
theorem State.loadedPart_atRest (h : ∀ b, (s.bell b).drive = none ∧ (s.bell b).window = none) : s.loadedPart.AtRest := by
  refine ⟨fun b => ?_, fun b => ?_, fun b => ?_⟩ <;> rw [State.loadedPart_bell]
  · exact (h b).1
  · exact (h b).2
  · rfl

theorem State.endLoading_ctl : s.endLoading.ctl = { s.ctl with
    mode := loadedMode s.ctl.causes.isEmpty s.ctl.keyOut (targetMode s.ctl.commissioned s.globals.autoActive s.clock.valid).1
    remembered := loadedReturn s.ctl.causes.isEmpty s.ctl.keyOut (targetMode s.ctl.commissioned s.globals.autoActive s.clock.valid).1
    resumePending := (targetMode s.ctl.commissioned s.globals.autoActive s.clock.valid).2 } := by
  rw [State.endLoading_enters, State.enterMode_ctl]
  rfl

theorem State.endLoading_unused (h : s.tunes.Unused) : s.endLoading.tunes = s.tunes := by
  have steered (c : ModeController) (m : Mode) (r : Option Mode) : ((s.setCtl c).enterMode m r .loadDone).tunes = s.tunes :=
    State.enterMode_unused (s := s.setCtl c) h m r .loadDone
  rw [State.endLoading_enters, steered]

theorem State.endLoading_atRest (h : s.AtRest) : s.SameBells s.endLoading := by
  have steered (c : ModeController) : s.SameBells (s.setCtl c) := ⟨rfl, rfl⟩
  obtain ⟨k1, k2⟩ := steered { s.ctl with resumePending := (targetMode s.ctl.commissioned s.globals.autoActive s.clock.valid).2 }
  rw [State.endLoading_enters]
  obtain ⟨j1, j2⟩ := (h.same ⟨k1, k2⟩).enterMode (loadedMode s.ctl.causes.isEmpty s.ctl.keyOut
      (targetMode s.ctl.commissioned s.globals.autoActive s.clock.valid).1)
    (loadedReturn s.ctl.causes.isEmpty s.ctl.keyOut (targetMode s.ctl.commissioned s.globals.autoActive s.clock.valid).1) .loadDone
  exact ⟨j1.trans k1, j2.trans k2⟩

/-- Settles O16. -/
theorem endOfLoadingDecidesTheMode : Obligations.EndOfLoadingDecidesTheMode := by
  intro s
  refine ⟨fun hm => ?_, fun hm => if_neg hm⟩
  have he : exec .endOfLoading s = done s.loadedPart.endLoading := if_pos hm
  have hload := s.loadDirectory_loading
  obtain ⟨p1, p2⟩ := State.loadedPart_tunes (s := s)
  obtain ⟨g1, g2, g3, g4⟩ := State.loadedPart_rest (s := s)
  have hbell (b : BellNo) := State.loadedPart_bell (s := s) b
  have hglobals := State.loadedPart_globals (s := s)
  have hctl := State.loadedPart_ctl (s := s)
  have hslots (n : Fin 64) := State.loadedPart_slots (s := s) n
  have hsupply := State.loadedPart_supply (s := s)
  have hsweep := State.loadedPart_sweep (s := s)
  have hrest := State.loadedPart_atRest (s := s)
  rw [he]
  generalize s.loadedPart = u at *
  generalize s.loadDirectory = v at *
  obtain ⟨f1, f2, f3, f4, f5, f6, f7, f8⟩ := State.endLoading_frame (s := u)
  have ht : u.endLoading.tunes = v.tunes := (State.endLoading_unused (p1 ▸ hload.unused)).trans p1
  have hc := State.endLoading_ctl (s := u)
  have hsame := State.endLoading_atRest (s := u)
  generalize u.endLoading = w at *
  obtain ⟨t1, t2, t3, t4, t5, -, t7, t8, t9, -, -, t12, t13, t14, t15⟩ := State.transmit_frame (s := w)
  have htunes : w.transmit.tunes = v.tunes := t13.trans ht
  have hnv : w.transmit.nv = v.nv := t14.trans (f7.trans p2)
  refine ⟨w.transmit, s.nv.loads, rfl, fun h1 h2 => if_pos ⟨h1, h2⟩, fun h => if_neg ?_, ?_, fun hq => ?_, fun n => ?_, fun i => ?_, ?_, ?_, ?_, ?_,
    t1.trans (f1.trans g1), t2.trans (f2.trans g2), t7.trans (f3.trans g3), t15.trans (f8.trans g4), ?_, ?_⟩
  · rintro ⟨h1, h2⟩
    rcases h with h | h
    · rw [h1] at h; cases h
    · rw [h2] at h; cases h
  · rw [t3, hc, hctl, hglobals, g2, targetMode_eq]
    rfl
  · obtain ⟨k1, k2⟩ := hsame (hrest hq)
    refine ⟨t4.trans (k2.trans hglobals), fun b => ?_⟩
    rw [State.bell_congr (t5.trans k1), hbell b]
    rfl
  · rw [t12, f6]
    exact hslots n
  · obtain ⟨h1, h2, h3⟩ := hload.loaded i i.isLt
    rw [htunes, hnv]
    exact ⟨h1, fun e he => ⟨h2 e he, h3 e he⟩⟩
  · rw [htunes]; exact hload.staging
  · rw [htunes]; exact hload.displaced
  · rw [t8, f4, hsupply]
  · rw [t9, f5, hsweep]
  · rw [hnv]; exact hload.area.1
  · rw [hnv]; exact hload.area.2.2

end Sys2Proof.Machine

/-! ### Proofs: the bell and global settings and their store (O32, O34, O35) -/

namespace Sys2Proof.Machine

open Sys2Proof

variable {s : State}

/-! #### A field is named at most once -/

/-- How many fields a pending record names. -/
def Patch.named (p : Patch) : Nat :=
  p.recovery.isSome.toNat + p.slack.isSome.toNat + p.leadMin.isSome.toNat + p.leadMax.isSome.toNat + p.slope.isSome.toNat +
  p.wMin.isSome.toNat + p.wMax.isSome.toNat + p.cls.isSome.toNat + p.heatWarn.isSome.toNat + p.heatRest.isSome.toNat +
  p.heatRelease.isSome.toNat + p.cooling.isSome.toNat + p.substitute.isSome.toNat + p.learning.isSome.toNat + p.lead16.isSome.toNat

/-- How many settings a SETTINGS SET names. -/
def GlobalPatch.named (p : GlobalPatch) : Nat :=
  p.driveBudget.isSome.toNat + p.stagger.isSome.toNat + p.filter.isSome.toNat + p.sweepPeriod.isSome.toNat +
  p.strikeReports.isSome.toNat + p.noteReports.isSome.toNat + p.autoActive.isSome.toNat + p.livePriority.isSome.toNat +
  p.pulseEnable.isSome.toNat + p.vNom.isSome.toNat

theorem Patch.named_le (p : Patch) : p.named ≤ 15 := by
  have (x : Bool) : x.toNat ≤ 1 := Bool.toNat_le x
  unfold Patch.named
  grind

theorem GlobalPatch.named_le (p : GlobalPatch) : p.named ≤ 10 := by
  have (x : Bool) : x.toNat ≤ 1 := Bool.toNat_le x
  unfold GlobalPatch.named
  grind

theorem Patch.put_named {p q : Patch} {f v : Nat} (h : p.put f v = some q) : q.named = p.named + 1 := by
  unfold Patch.put at h
  split at h
  on_goal 16 => cases h
  all_goals
    obtain ⟨hc, rfl⟩ := keepIf_eq.mp h
    simp only [Bool.and_eq_true, Option.isNone_iff_eq_none] at hc
    simp +arith only [Patch.named, hc, Option.isSome_some, Option.isSome_none, Bool.toNat_true, Bool.toNat_false]

theorem GlobalPatch.put_named {p q : GlobalPatch} {f v : Nat} (h : p.put f v = some q) : q.named = p.named + 1 := by
  unfold GlobalPatch.put at h
  split at h
  on_goal 11 => cases h
  all_goals
    obtain ⟨hc, rfl⟩ := keepIf_eq.mp h
    simp only [Bool.and_eq_true, Option.isNone_iff_eq_none] at hc
    simp +arith only [GlobalPatch.named, hc, Option.isSome_some, Option.isSome_none, Bool.toNat_true, Bool.toNat_false]

theorem Patch.putAll_named : ∀ {fs : List (Nat × Nat)} {p q : Patch}, p.putAll fs = some q → q.named = p.named + fs.length
  | [], p, q, h => by cases h; rfl
  | (f, v) :: rest, p, q, h => by
    obtain ⟨r, hr, hq⟩ := Option.bind_eq_some_iff.mp h
    rw [Patch.putAll_named hq, Patch.put_named hr, List.length_cons]
    omega

theorem GlobalPatch.putAll_named : ∀ {fs : List (Nat × Nat)} {p q : GlobalPatch}, p.putAll fs = some q → q.named = p.named + fs.length
  | [], p, q, h => by cases h; rfl
  | (f, v) :: rest, p, q, h => by
    obtain ⟨r, hr, hq⟩ := Option.bind_eq_some_iff.mp h
    rw [GlobalPatch.putAll_named hq, GlobalPatch.put_named hr, List.length_cons]
    omega

theorem Patch.ofPairs_count {fs : List (Nat × Nat)} (h : fs.length = 0 ∨ 15 < fs.length) : Patch.ofPairs fs = none := by
  unfold Patch.ofPairs
  rcases h with h | h
  · rw [List.length_eq_zero_iff.mp h]; rfl
  · rw [if_neg (by cases fs <;> simp at h ⊢), Option.eq_none_iff_forall_ne_some]
    intro q hq
    have := Patch.putAll_named hq
    have := q.named_le
    omega

theorem GlobalPatch.ofPairs_count {fs : List (Nat × Nat)} (h : fs.length = 0 ∨ 10 < fs.length) : GlobalPatch.ofPairs fs = none := by
  unfold GlobalPatch.ofPairs
  rcases h with h | h
  · rw [List.length_eq_zero_iff.mp h]; rfl
  · rw [if_neg (by cases fs <;> simp at h ⊢), Option.eq_none_iff_forall_ne_some]
    intro q hq
    have := GlobalPatch.putAll_named hq
    have := q.named_le
    omega

/-! #### BELL SET -/

theorem State.quiet_iff {b : BellNo} : s.quiet b = true ↔ (∀ e ∈ s.sched.queue, e.bell ≠ b) ∧ (s.bell b).hammer = .idle := by
  simp [State.quiet, State.entriesOf, List.isEmpty_iff, List.filter_eq_nil_iff]

theorem clampNat_eq {n a b : Nat} (h : a ≤ b) : clampNat n a b = max a (min n b) := by
  unfold clampNat
  grind

theorem State.modBell_modBell (b : BellNo) (f g : Bell → Bell) : (s.modBell b f).modBell b g = s.modBell b fun r => g (f r) := by
  simp [State.modBell, State.bell, Vector.set_set]

/-- The record of a bell a pending record is applied to. -/
theorem Bell.apply_eq {b : BellNo} {r : Bell} {p : Patch} (h : (r.settings.over p).wellFormed b = true) :
    r.apply p = { r with
      settings := r.settings.over p, pending := none
      lead16 := max (16 * (r.settings.over p).leadMin) (min (p.lead16.getD r.lead16) (16 * (r.settings.over p).leadMax)) } := by
  unfold Bell.apply Settings.clampLead
  rw [clampNat_eq (Nat.mul_le_mul_left 16 (Nat.le_of_lt (Settings.wellFormed_leads h)))]

theorem State.applySettings_plain (b : BellNo) {p : Patch} (h : p.namesHeat = false) : s.applySettings b p = s.modBell b fun r => r.apply p := by
  unfold State.applySettings
  simp only [h]

theorem State.applySettings_heat (b : BellNo) {p : Patch} (h : p.namesHeat = true) :
    s.applySettings b p = match ((s.bell b).apply p).heatOutcome with
      | some st => (s.modBell b fun r => { r.apply p with service := st }).report (.bell b st .heat 0)
      | none => s.modBell b fun r => r.apply p := by
  unfold State.applySettings State.changeService
  simp only [h, State.modBell_bell_self, State.modBell_modBell]
  cases ((s.bell b).apply p).heatOutcome <;> rfl

theorem ownBellSet_unreadable {n : Nat} {fs : List (Nat × Nat)} (h : bellOf n = none ∨ Patch.ofPairs fs = none) :
    ownBellSet n fs s = (.badField, .nothing, s) := by
  unfold ownBellSet
  rcases h with h | h
  · rw [h]
  · rw [h]; cases bellOf n <;> rfl

theorem ownBellSet_patch (b : BellNo) {fs : List (Nat × Nat)} {p : Patch} (h : Patch.ofPairs fs = some p) :
    ownBellSet b.val fs s =
      (let whole := ((s.bell b).pending.getD Patch.empty).merge p
       if ((s.bell b).settings.over whole).wellFormed b = false then (.badField, .nothing, s)
       else if s.quiet b then (.ok, .bellSet true, s.applySettings b whole)
       else (.ok, .bellSet false, s.modBell b fun r => { r with pending := some whole })) := by
  unfold ownBellSet
  simp only [bellOf_val, h, Bell.prospective, Settings.over_merge, Bool.not_eq_true']

/-- Settles O32. -/
theorem bellSetAppliesOrWaits : Obligations.BellSetAppliesOrWaits := by
  refine ⟨fun x old new => ⟨Settings.over_merge .., by cases h : new.lead16 <;> simp [Patch.merge, h]⟩, fun tag b fs s h => ⟨fun hl n => ?_, fun n hn => ?_,
    fun hp => ?_, fun p hp => ?_⟩⟩
  · exact takeRequest_owned h (ownBellSet_unreadable (.inr (Patch.ofPairs_count hl))) ..
  · exact takeRequest_owned h (ownBellSet_unreadable (.inl (bellOf_none hn))) ..
  · exact takeRequest_owned h (ownBellSet_unreadable (.inr hp)) ..
  · extract_lets r whole x quiet lead applied st
    have own : ownBellSet b.val fs s = if x.wellFormed b = false then (.badField, .nothing, s) else if s.quiet b then
        (.ok, .bellSet true, s.applySettings b whole) else (.ok, .bellSet false, s.modBell b fun r => { r with pending := some whole }) :=
      ownBellSet_patch b hp
    have happly (hf : x.wellFormed b = true) : r.apply whole = applied := Bell.apply_eq hf
    have hset (hf : x.wellFormed b = true) (hq : quiet) : ownBellSet b.val fs s = (.ok, .bellSet true, s.applySettings b whole) := by
      rw [own, if_neg (by rw [hf]; decide), if_pos (State.quiet_iff.mpr hq)]
    refine ⟨fun hf => ?_, fun hf hq => ?_, fun hf hq h1 h2 h3 => ?_, fun hf hq hn => ?_⟩
    · exact takeRequest_owned h (own.trans (if_pos hf)) ..
    · refine takeRequest_owned h (own.trans ?_) ..
      rw [if_neg (by rw [hf]; decide), if_neg (mt State.quiet_iff.mp hq)]
      rfl
    · refine takeRequest_owned h ((hset hf hq).trans ?_) ..
      rw [State.applySettings_plain b (by simp [Patch.namesHeat, h1, h2, h3]), ← happly hf]
      rfl
    · refine takeRequest_owned h ((hset hf hq).trans ?_) ..
      rw [State.applySettings_heat b (by simpa [Patch.namesHeat, or_assoc] using hn)]
      have hst : ((s.bell b).apply whole).heatOutcome = st := by
        rw [show (s.bell b).apply whole = applied from happly hf]; rfl
      rw [hst, ← happly hf]
      cases st <;> rfl

/-! #### SETTINGS SET -/

theorem State.coilsFree_iff : s.coilsFree = true ↔ ∀ b, (s.bell b).hammer ≠ .drive := by
  unfold State.coilsFree
  rw [List.all_eq_true, toList_eq_ofFn, List.forall_mem_ofFn_iff]
  simp only [decide_eq_true_eq]
  exact Iff.rfl

theorem ownSettingsSet_unreadable {fs : List (Nat × Nat)} (h : GlobalPatch.ofPairs fs = none) : ownSettingsSet fs s = (.badField, .nothing, s) := by
  unfold ownSettingsSet; rw [h]

theorem ownSettingsSet_patch {fs : List (Nat × Nat)} {p : GlobalPatch} (h : GlobalPatch.ofPairs fs = some p) :
    ownSettingsSet fs s = (.ok, .settingsSet (s.applyGlobals p).1, (s.applyGlobals p).2) := by
  unfold ownSettingsSet; rw [h]

/-- What a SETTINGS SET makes of the settings that take effect at once, the budget aside. -/
def State.retuned (s : State) (p : GlobalPatch) : State :=
  { s with
    globals := s.globals.over p
    supply := if p.vNom.isSome then { s.supply with lowRun := 0, recoveryRun := 0 } else s.supply
    sweep := if p.sweepPeriod.isSome then { s.sweep with next := some (s.nextWholeMs + p.sweepPeriod.getD 0 * 1250) } else s.sweep }

theorem State.applyGlobals_retuned (p : GlobalPatch) : s.applyGlobals p = match p.driveBudget with
    | some v => (some ((s.retuned p).takeBudget v).1, ((s.retuned p).takeBudget v).2)
    | none => (none, s.retuned p) := by
  have key : (if p.sweepPeriod.isSome then
      (if p.vNom.isSome then State.resetRuns { s with globals := s.globals.over p } else { s with globals := s.globals.over p }).restartSweep
      else (if p.vNom.isSome then State.resetRuns { s with globals := s.globals.over p } else { s with globals := s.globals.over p })) = s.retuned p := by
    unfold State.retuned State.resetRuns State.restartSweep visitInterval Globals.over
    cases p.vNom <;> cases p.sweepPeriod <;> rfl
  rw [← key]
  unfold State.applyGlobals
  cases p.driveBudget <;> rfl

theorem State.takeBudget_free (h : s.coilsFree = true) (v : Nat) : s.takeBudget v =
    (true, { s with globals := { s.globals with driveBudget := v }, drive := { s.drive with pendingBudget := none } }) := if_pos h

theorem State.takeBudget_busy (h : s.coilsFree ≠ true) (v : Nat) : s.takeBudget v =
    (false, { s with drive := { s.drive with pendingBudget := some v } }) := if_neg h

/-- Settles O34. -/
theorem settingsSetTakesEffect : Obligations.SettingsSetTakesEffect := by
  intro tag fs s h
  refine ⟨fun hl => takeRequest_owned h (ownSettingsSet_unreadable (GlobalPatch.ofPairs_count hl)) .., fun hp =>
    takeRequest_owned h (ownSettingsSet_unreadable hp) .., fun p hp => ?_⟩
  extract_lets free supply next sweep g
  have own := (ownSettingsSet_patch (s := s) hp)
  rw [State.applyGlobals_retuned] at own
  refine ⟨fun hb => ?_, fun v hb hf => ?_, fun v hb hf => ?_⟩ <;> rw [hb] at own
  · exact takeRequest_owned h own ..
  · have : (s.retuned p).coilsFree = true := State.coilsFree_iff.mpr hf
    dsimp only at own
    rw [State.takeBudget_free this] at own
    exact takeRequest_owned h own ..
  · have : (s.retuned p).coilsFree ≠ true := mt State.coilsFree_iff.mp hf
    dsimp only at own
    rw [State.takeBudget_busy this] at own
    exact takeRequest_owned h own ..

/-! #### SAVE and the end of a settings write -/

/-- Settles O35. -/
theorem savedSettingsReplaceTheArea : Obligations.SavedSettingsReplaceTheArea := by
  refine ⟨fun tag s h => ⟨fun hw => takeRequest_owned h (if_pos ?_) .., fun hw => ⟨s.settingsCopy, takeRequest_owned h (if_neg ?_) .., rfl,
    State.settingsCopy_bells, State.settingsCopy_slots, State.settingsCopy_commissioned⟩⟩, fun s copy op h => ?_, fun s m h => ?_⟩
  · exact State.storeBusy_true.mpr hw
  · rw [State.storeBusy_false.mpr hw]; decide
  · rcases h with ⟨hw, rfl⟩ | ⟨hw, rfl⟩ <;> simp [exec, execSettingsWriteEnd, hw, done, State.endSettingsWrite, State.settingsReport, State.endWrite]
  · show execSettingsWriteEnd m s = _
    unfold execSettingsWriteEnd
    split
    · next hw => exact absurd hw (h _).1
    · next hw => exact absurd hw (h _).2
    · rfl

end Sys2Proof.Machine

/-! ### Proofs: what the consequences of an event bring

The queue, the waiting notes and the plays after an offer, after one horizon arrival and after `settle`: which entries can be new, and which plays. -/

namespace Sys2Proof.Machine

open Sys2Proof

variable {s : State}

/-! #### Entries an offer can bring -/

/-- The two entries are of one note: an entry and the same entry moved. -/
structure Entry.OneNote (x e : Entry) : Prop where
  bell : x.bell = e.bell
  noteTime : x.noteTime = e.noteTime
  playId : x.playId = e.playId

theorem Entry.OneNote.refl (e : Entry) : e.OneNote e := ⟨rfl, rfl, rfl⟩

theorem Entry.OneNote.trans {x y z : Entry} (h : x.OneNote y) (k : y.OneNote z) : x.OneNote z :=
  ⟨h.bell.trans k.bell, h.noteTime.trans k.noteTime, h.playId.trans k.playId⟩

/-- An examination moves notes, and makes no other of them. -/
theorem examine_oneNote {recovery slack : Nat} : ∀ {fuel : Nat} {todo others removed : List Entry} {e e' : Entry} {others' removed' : List Entry},
    examine recovery slack fuel todo others removed e = .place e' others' removed' →
    e.OneNote e' ∧ ∀ y ∈ others', ∃ x ∈ others, x.OneNote y
  | 0, _, _, _, _, _, _, _, h => by cases h
  | _ + 1, [], others, _, e, _, _, _, h => by cases h; exact ⟨.refl e, fun y hy => ⟨y, hy, .refl y⟩⟩
  | fuel + 1, x :: todo, others, removed, e, e', others', removed', h => by
    unfold examine at h
    split at h
    · exact examine_oneNote h
    · split at h
      · split at h
        · obtain ⟨h1, h2⟩ := examine_oneNote h
          exact ⟨⟨h1.bell, h1.noteTime, h1.playId⟩, h2⟩
        · cases h
      · split at h
        · obtain ⟨h1, h2⟩ := examine_oneNote h
          refine ⟨h1, fun y hy => ?_⟩
          obtain ⟨z, hz, hzy⟩ := h2 y hy
          obtain ⟨w, hw, rfl⟩ := List.mem_map.mp hz
          refine ⟨w, hw, Entry.OneNote.trans ?_ hzy⟩
          split <;> exact ⟨rfl, rfl, rfl⟩
        · obtain ⟨h1, h2⟩ := examine_oneNote h
          refine ⟨h1, fun y hy => ?_⟩
          obtain ⟨z, hz, hzy⟩ := h2 y hy
          exact ⟨z, List.mem_of_mem_filter hz, hzy⟩

/-- The notes on the waiting list, granted or not (R31). -/
def State.notes (s : State) : List Held := s.sched.held ++ s.sched.granted.map (·.note)

theorem State.mem_notes {h : Held} : h ∈ s.notes ↔ h ∈ s.sched.held ∨ ∃ g ∈ s.sched.granted, g.note = h := by
  simp [State.notes]

/-- What a part of an event brings to the Strike Scheduler: every entry is one that stood, moved or not, or a new one, and every waiting note one that
waited, or a new one. -/
structure State.Brings (s t : State) (new : Entry → Prop) (fresh : Held → Prop) : Prop where
  queue : ∀ e ∈ t.sched.queue, (∃ x ∈ s.sched.queue, x.OneNote e) ∨ new e
  notes : ∀ h ∈ t.notes, h ∈ s.notes ∨ fresh h

theorem State.Brings.of_sched {t : State} {new : Entry → Prop} {fresh : Held → Prop} (h : t.sched = s.sched) : s.Brings t new fresh where
  queue e he := .inl ⟨e, h ▸ he, .refl e⟩
  notes n hn := .inl (by rwa [State.notes, h] at hn)

theorem bestHeld_mem : ∀ {l : List Held} {h : Held}, bestHeld l = some h → h ∈ l
  | x :: rest, h, hb => by
    unfold bestHeld at hb
    split at hb
    · cases hb; exact List.mem_cons_self
    · next hk =>
      split at hb <;> cases hb
      · exact List.mem_cons_self
      · exact List.mem_cons_of_mem _ (bestHeld_mem hk)

theorem State.grantOne_notes {h : Held} (hh : h ∈ s.grantOne.notes) : h ∈ s.notes := by
  unfold State.grantOne at hh
  split at hh
  · exact hh
  · next n hn =>
    split at hh
    · simp only [State.mem_notes, List.mem_append, List.mem_singleton] at hh ⊢
      rcases hh with hh | ⟨g, hg | rfl, rfl⟩
      · exact .inl (List.mem_of_mem_erase hh)
      · exact .inr ⟨g, hg, rfl⟩
      · exact .inl (bestHeld_mem hn)
    · exact hh

theorem State.grantSlots_notes {h : Held} (hh : h ∈ s.grantSlots.notes) : h ∈ s.notes := State.grantOne_notes (State.grantOne_notes hh)

/-- The queue as an insertion leaves it, before its reports and counts. -/
def State.inserting (s : State) (e : Entry) (others : List Entry) : State :=
  { s with sched := { s.sched with queue := insertQueue e others s.sched.queue, nextNumber := nextEntryNumber s.sched.nextNumber } }

/-- The reports and counts of an insertion's removals. -/
def State.dropConflicting (s : State) (e : Entry) (gone : List Entry) : State :=
  gone.foldl (fun s y => (s.countRemoved y).noteReport { reason := .conflict e.asOutranker, atOffer := false, note := y }) s

theorem State.insert_eq (e : Entry) (others removed : List Entry) :
    s.insert e others removed = ((s.inserting e others).dropConflicting e (s.sched.queue.filter fun y => removed.any y.same)).grantSlots := rfl

theorem State.dropConflicting_sched (e : Entry) (gone : List Entry) : (s.dropConflicting e gone).sched = s.sched :=
  foldl_induct (P := fun t : State => t.sched = s.sched) (fun _ _ _ h => by simpa using h) rfl

theorem State.insert_queue (e : Entry) (others removed : List Entry) : (s.insert e others removed).sched.queue = insertQueue e others s.sched.queue := by
  rw [State.insert_eq]
  simp [State.dropConflicting_sched, State.inserting]

theorem State.insert_notes {e : Entry} {others removed : List Entry} {h : Held} (hh : h ∈ (s.insert e others removed).notes) : h ∈ s.notes := by
  have := State.grantSlots_notes (State.insert_eq (s := s) e others removed ▸ hh)
  rwa [State.notes, State.dropConflicting_sched] at this

theorem State.offerPlace_brings (e : Entry) : s.Brings (s.offerPlace e).2 (fun x => e.OneNote x) fun _ => False := by
  unfold State.offerPlace
  dsimp only
  split
  · exact .of_sched (by simp)
  · next e₁ h₁ =>
    have he : e.OneNote e₁ := by
      split at h₁
      · split at h₁
        · cases h₁; exact .refl e
        · split at h₁
          · cases h₁; exact ⟨rfl, rfl, rfl⟩
          · cases h₁
      · cases h₁; exact .refl e
    split
    · exact .of_sched (by simp)
    · next e₂ others removed hx =>
      split
      · obtain ⟨h2, h3⟩ := examine_oneNote hx
        refine ⟨fun x hq => ?_, fun n hn => .inl (State.insert_notes hn)⟩
        rw [State.insert_queue, mem_insertQueue] at hq
        rcases hq with rfl | hq | ⟨hq, -⟩
        · exact .inr (he.trans h2)
        · obtain ⟨y, hy, hyx⟩ := h3 x hq
          exact .inl ⟨y, List.mem_of_mem_filter hy, hyx⟩
        · exact .inl ⟨x, hq, .refl x⟩
      · exact .of_sched rfl

/-- An offer brings at most one entry, at a bell in service, of the offer's play and note time. -/
structure State.Accepts (s : State) (playId : Nat) (noteTime : Option Int) (e : Entry) : Prop where
  served : (s.bell e.bell).service = .inService
  playId : e.playId = playId
  noteTime : ∀ t, noteTime = some t → e.noteTime = t

theorem State.receiver_served {b c : BellNo} {o : Option BellNo} (h : s.receiver b = some (c, o)) : (s.bell c).service = .inService := by
  unfold State.receiver at h
  split at h
  · cases h; assumption
  · split at h
    · split at h
      · cases h; assumption
      · cases h
    · cases h

theorem State.Brings.mono {t : State} {new new' : Entry → Prop} {fresh fresh' : Held → Prop} (h : s.Brings t new fresh) (hn : ∀ e, new e → new' e)
    (hf : ∀ n, fresh n → fresh' n) : s.Brings t new' fresh' :=
  ⟨fun e he => (h.queue e he).imp_right (hn e), fun n hh => (h.notes n hh).imp_right (hf n)⟩

theorem State.offer_brings (o : Offer) : s.Brings (s.offer o).2 (s.Accepts o.playId o.noteTime) fun _ => False := by
  unfold State.offer
  split
  · exact .of_sched rfl
  · dsimp only
    split
    · exact .of_sched rfl
    · next b original hr =>
      have accepted {e x : Entry} (hb : e.bell = b) (hi : e.playId = o.playId) (ht : ∀ t, o.noteTime = some t → e.noteTime = t) (h : e.OneNote x) :
          s.Accepts o.playId o.noteTime x :=
        ⟨by rw [← h.bell, hb]; exact State.receiver_served hr, h.playId.symm.trans hi, fun t hn => h.noteTime.symm.trans (ht t hn)⟩
      split
      · exact (State.offerPlace_brings _).mono (fun x h => accepted rfl rfl (fun t ht => by simp [ht]) h) fun _ h => h
      · split
        · exact (State.offerPlace_brings _).mono (fun x h => accepted rfl rfl (fun t ht => by simp [ht]) h) fun _ h => h
        · exact .of_sched (by simp)

theorem State.playerOffer_brings (p : PlayerNo) (b : BellNo) (t : Int) (d pr i : Nat) :
    s.Brings (s.playerOffer p b t d pr i).2 (s.Accepts i (some t)) fun n => n.playId = i := by
  unfold State.playerOffer
  split
  · refine ⟨fun e he => .inl ⟨e, he, .refl e⟩, fun n hn => ?_⟩
    simp only [State.mem_notes, List.mem_append, List.mem_singleton] at hn ⊢
    rcases hn with (hn | rfl) | hn
    · exact .inl (.inl hn)
    · exact .inr rfl
    · exact .inl (.inr hn)
  · exact (State.offer_brings _).mono (fun _ h => h) fun _ h => h.elim

/-- What one horizon arrival of a player brings: the next note of the play that feeds. -/
structure State.Feeds (s : State) (p : PlayerNo) (e : Entry) : Prop where
  served : (s.bell e.bell).service = .inService
  fed : ∃ q b d, s.feeder p = some q ∧ s.nextNote q = some (b, e.noteTime, d) ∧ e.playId = q.id

theorem State.feedOne_brings (p : PlayerNo) : s.Brings (s.feedOne p).2 (s.Feeds p) fun n => ∃ q, s.feeder p = some q ∧ n.playId = q.id := by
  unfold State.feedOne
  split
  · exact .of_sched rfl
  · next q hq =>
    split
    · exact .of_sched (by simp)
    · next b t d hn =>
      split
      · dsimp only
        generalize hu : s.modPlay q.id (fun q => { q with offered := q.offered + 1 }) = u
        have hs : u.sched = s.sched := by rw [← hu]; simp
        have hb (c : BellNo) : u.bell c = s.bell c := by rw [← hu]; exact State.bell_congr (by simp) c
        have h := State.playerOffer_brings (s := u) p b t d q.priority q.id
        refine ⟨fun e he => ?_, fun n hn => ?_⟩
        · refine (h.queue e (by simpa using he)).imp (fun hx => hs ▸ hx) fun ⟨h1, h2, h3⟩ => ⟨hb e.bell ▸ h1, q, b, d, hq, ?_, h2⟩
          rw [h3 t rfl, hn]
        · refine (h.notes n (by simpa [State.notes] using hn)).imp (fun hx => by rwa [State.notes, hs] at hx) fun hx => ⟨q, hq, hx⟩
      · exact .of_sched rfl

/-! #### Plays an offer can touch -/

/-- A change of a play's counts, its place in its notes or its state. -/
structure Tally (f : Play → Play) : Prop where
  id : ∀ q, (f q).id = q.id
  kind : ∀ q, (f q).kind = q.kind
  start : ∀ q, (f q).start = q.start
  fixed : ∀ q, (f q).fixed = q.fixed
  drives : ∀ q, (f q).drives = q.drives

theorem Tally.mk' {f : Play → Play} (h : ∀ q, (f q).id = q.id ∧ (f q).kind = q.kind ∧ (f q).start = q.start ∧ (f q).fixed = q.fixed ∧
    (f q).drives = q.drives) : Tally f :=
  ⟨fun q => (h q).1, fun q => (h q).2.1, fun q => (h q).2.2.1, fun q => (h q).2.2.2.1, fun q => (h q).2.2.2.2⟩

theorem Play.take_tally (o : OfferOutcome) : Tally (·.take o) := .mk' fun q => by cases o <;> exact ⟨rfl, rfl, rfl, rfl, rfl⟩

/-- A property of the Play Engine kept by the counts of the queue's entries is kept by an offer. -/
theorem State.offer_engine {P : PlayEngine → Prop} (removed : ∀ e ∈ s.sched.queue, ∀ t : State, P t.engine → P (t.countRemoved e).engine)
    (h : P s.engine) (o : Offer) : P (s.offer o).2.engine := by
  have dropped (e : Entry) (gone : List Entry) (hg : ∀ y ∈ gone, y ∈ s.sched.queue) (t : State) (ht : P t.engine) : P (t.dropConflicting e gone).engine :=
    foldl_induct (P := fun t : State => P t.engine) (fun t y hy ht => by simpa using removed y (hg y hy) t ht) ht
  have inserted (e : Entry) (others removed : List Entry) : P (s.insert e others removed).engine := by
    rw [State.insert_eq]
    have := dropped e (s.sched.queue.filter fun y => removed.any y.same) (fun y hy => List.mem_of_mem_filter hy) (s.inserting e others) h
    simpa using this
  have placed (e : Entry) : P (s.offerPlace e).2.engine := by
    unfold State.offerPlace
    dsimp only
    split
    · simpa using h
    · split
      · simpa using h
      · split
        · exact inserted _ _ _
        · exact h
  unfold State.offer
  split
  · exact h
  · dsimp only
    split
    · exact h
    · split
      · exact placed _
      · split
        · exact placed _
        · simpa using h

theorem State.playerOffer_engine {P : PlayEngine → Prop} (removed : ∀ e ∈ s.sched.queue, ∀ t : State, P t.engine → P (t.countRemoved e).engine)
    (h : P s.engine) (p : PlayerNo) (b : BellNo) (t : Int) (d pr i : Nat) : P (s.playerOffer p b t d pr i).2.engine := by
  unfold State.playerOffer
  split
  · exact h
  · exact State.offer_engine removed h _

/-- A horizon arrival touches the plays of the queue's entries and the one that feeds, and may turn the player's play to DRAINING. -/
theorem State.feedOne_engine {P : PlayEngine → Prop} {p : PlayerNo}
    (counted : ∀ i, (∃ e ∈ s.sched.queue, e.playId = i) ∨ (∃ q, s.feeder p = some q ∧ q.id = i) → ∀ (t : State) f, Tally f → P t.engine →
      P (t.modPlay i f).engine)
    (drained : ∀ t : State, P t.engine → P (t.drainIfDone p).engine) (h : P s.engine) : P (s.feedOne p).2.engine := by
  unfold State.feedOne
  split
  · exact h
  · next q hq =>
    split
    · exact drained s h
    · split
      · dsimp only
        refine drained _ (counted _ (.inr ⟨q, hq, rfl⟩) _ _ (Play.take_tally _) (State.playerOffer_engine (fun e he t ht => ?_) ?_ ..))
        · exact counted _ (.inl ⟨e, by simpa using he, rfl⟩) t _ (.mk' fun _ => ⟨rfl, rfl, rfl, rfl, rfl⟩) ht
        · exact counted _ (.inr ⟨q, hq, rfl⟩) s _ (.mk' fun _ => ⟨rfl, rfl, rfl, rfl, rfl⟩) h
      · exact h

/-! #### Induction over the consequences -/

/-- What holds before the consequences of an event and is kept by each of them holds after them; it may speak of the players still to be fed. -/
theorem State.settleFrom_induct {P : List PlayerNo → State → Prop}
    (ended : ∀ a s p o, s.ending = some (p, o) → P a s → P a (s.endPlay p o))
    (fed : ∀ p a s, P (p :: a) s → P (p :: a) (s.feedOne p).2) (skipped : ∀ p a s, P (p :: a) s → P a s)
    (began : ∀ s p q, s.incomingReady = some (p, q) → P [] s → P [p] (s.startPlay p q))
    (late : ∀ s q rest, s.engine.waiting = q :: rest → P [] s → P [] ((s.setWaiting rest).finish q (.missed .late)))
    (promoted : ∀ s p q rest, s.ctl.mode = .active → s.freePlayer = some p → s.engine.waiting = q :: rest → P [] s → P [p] ((s.setWaiting rest).startPlay p q)) :
    ∀ (n : Nat) (a : List PlayerNo) (s : State), P a s → P [] (State.settleFrom n a s) := by
  intro n
  induction n with
  | zero =>
    intro a
    induction a with
    | nil => exact fun s h => h
    | cons p a ih => exact fun s h => ih s (skipped _ _ _ h)
  | succ n ih =>
    intro a s h
    unfold State.settleFrom
    split
    · next hr => exact ih _ _ (ended _ _ _ _ hr h)
    · split
      · next p rest =>
        dsimp only
        split
        · exact ih _ _ (fed _ _ _ h)
        · exact ih _ _ (skipped _ _ _ (fed _ _ _ h))
      · split
        · next hr => exact ih _ _ (began _ _ _ hr h)
        · split
          · next hm =>
            split
            · next hp hw =>
              dsimp only
              split
              · exact ih _ _ (late _ _ _ hw h)
              · exact ih _ _ (promoted _ _ _ _ hm hp hw h)
            · exact h
          · exact h

/-! #### A bell out of service -/

/-- The bell is out of service and has no entry. -/
def State.Silenced (s : State) (b : BellNo) : Prop := (s.bell b).service ≠ .inService ∧ ∀ e ∈ s.sched.queue, e.bell ≠ b

theorem State.Silenced.congr {t : State} {b : BellNo} (h : s.Silenced b) (hb : t.bells = s.bells) (hs : t.sched = s.sched) : t.Silenced b := by
  unfold State.Silenced
  rw [State.bell_congr hb, hs]
  exact h

/-- The consequences of an event bring no entry to a bell out of service. -/
theorem State.Silenced.settleFrom {b : BellNo} (h : s.Silenced b) (n : Nat) (a : List PlayerNo) : (State.settleFrom n a s).Silenced b := by
  refine State.settleFrom_induct (P := fun _ s => s.Silenced b) (fun _ s p o _ h => h.congr (by simp) (by simp)) (fun p _ s h => ?_) (fun _ _ _ h => h)
    (fun s p q _ h => h.congr (by simp) (by simp)) (fun s q rest _ h => h.congr (by simp) (by simp))
    (fun s p q rest _ _ _ h => h.congr (by simp) (by simp)) n a s h
  obtain ⟨h1, h2⟩ := h
  have hb : (s.feedOne p).2.bell b = s.bell b := State.bell_congr (by simp) b
  refine ⟨by rwa [hb], fun e he hc => ?_⟩
  rcases (State.feedOne_brings (s := s) p).queue e he with ⟨x, hx, hxe⟩ | hn
  · exact h2 x hx (hxe.bell.trans hc)
  · exact h1 (hc ▸ hn.served)

theorem State.Silenced.settle {b : BellNo} (h : s.Silenced b) : s.settle.Silenced b := State.Silenced.settleFrom h _ _

end Sys2Proof.Machine

/-! ### Proofs: BELL SERVICE (O33) -/

namespace Sys2Proof.Machine

open Sys2Proof

variable {s : State}

theorem State.leaveService_silenced {b : BellNo} {st : Service} (h : st ≠ .inService) (h' : st ≠ .resting) (c : BellCause) :
    (s.leaveService b st c).Silenced b :=
  ⟨by rw [State.leaveService_service h h']; exact h, fun e he hb => by
    rw [State.leaveService_queue, List.mem_filter] at he
    simp [hb] at he⟩

theorem State.returnBell_eq (b : BellNo) :
    s.returnBell b = State.report { s with bells := s.bells.set b { s.bell b with missRun := 0, service := (s.bell b).backTo } }
      (.bell b (s.bell b).backTo .request 0) := by
  unfold State.returnBell State.changeService
  dsimp only
  rw [State.modBell_modBell]
  rfl

theorem State.returnBell_service (b : BellNo) : ((s.returnBell b).bell b).service = (s.bell b).backTo := by
  simp [State.returnBell]

/-- The miss run a withdrawal leaves (R9). -/
def State.withdrawing (s : State) (b : BellNo) : State :=
  if (s.bell b).service.code = 3 then s.modBell b fun r => { r with missRun := 0 } else s

theorem State.service_withdraws {b : BellNo} (h : (s.bell b).service ≠ .withdrawn) :
    s.service b 0 = (.ok, ((s.withdrawing b).leaveService b .withdrawn .request).settle) := by
  unfold State.service State.withdrawing
  cases hs : (s.bell b).service with
  | withdrawn => exact absurd hs h
  | faulted k => rfl
  | inService => rfl
  | resting => rfl

theorem State.withdrawing_bell (b : BellNo) :
    (s.withdrawing b).bell b = { s.bell b with missRun := if (s.bell b).service.code = 3 then 0 else (s.bell b).missRun } := by
  unfold State.withdrawing
  split <;> simp

theorem State.withdrawing_ne {b c : BellNo} (h : b ≠ c) : (s.withdrawing b).bell c = s.bell c := by
  unfold State.withdrawing
  split
  · rw [State.modBell_bell_ne _ h]
  · rfl

theorem State.withdrawing_same (b : BellNo) : s.withdrawing b = { s with bells := (s.withdrawing b).bells } := by
  unfold State.withdrawing
  split <;> rfl

theorem ownBellService_unreadable {n a : Nat} (h : bellOf n = none ∨ 2 < a) : ownBellService n a s = (.badField, .nothing, s) := by
  unfold ownBellService
  rcases h with h | h
  · rw [h]
  · cases bellOf n
    · rfl
    · exact if_pos h

theorem ownBellService_ok (b : BellNo) {a : Nat} (h : a ≤ 2) {t : State} (e : s.service b a = (.ok, t)) :
    ownBellService b.val a s = (.ok, .bellService (t.bell b).service, t) := by
  unfold ownBellService
  simp only [bellOf_val, if_neg (Nat.not_lt.mpr h), e, if_true]

theorem ownBellService_refused (b : BellNo) {a : Nat} (h : a ≤ 2) {x : Result} (hx : x ≠ .ok) (e : s.service b a = (x, s)) :
    ownBellService b.val a s = (x, .nothing, s) := by
  unfold ownBellService
  simp only [bellOf_val, if_neg (Nat.not_lt.mpr h), e, if_neg hx]

/-- Settles O33. -/
theorem bellServiceFollowsItsTable : Obligations.BellServiceFollowsItsTable := by
  intro tag b s h r refused st back
  have refuses {a : Nat} (ha : a ≤ 2) {x : Result} (hx : x ≠ .ok) (e : s.service b a = (x, s)) :
      exec (.bellService tag b.val a) s = refused x := takeRequest_owned h (ownBellService_refused b ha hx e) ..
  have stands {a : Nat} (ha : a ≤ 2) (e : s.service b a = (.ok, s)) :
      exec (.bellService tag b.val a) s = .next (s.answered 0x09 tag .ok (.bellService r.service)) := takeRequest_owned h (ownBellService_ok b ha e) ..
  have returns {a : Nat} (ha : a ≤ 2) (e : s.service b a = (.ok, s.returnBell b)) : exec (.bellService tag b.val a) s = back := by
    refine takeRequest_owned h ((ownBellService_ok b ha e).trans ?_) ..
    rw [State.returnBell_service, State.returnBell_eq]
    rfl
  have service {x : Service} (hx : r.service = x) : (s.bell b).service = x := hx
  refine ⟨fun n a hn => ?_, fun a ha => ?_, fun hs => ⟨?_, ?_, ?_⟩, fun hs => ⟨?_, ?_⟩, fun hs => ⟨?_, ?_⟩, fun k hs => ⟨?_, ?_⟩, fun hs => ?_⟩
  · exact takeRequest_owned h (ownBellService_unreadable (.inl (bellOf_none hn))) ..
  · exact takeRequest_owned h (ownBellService_unreadable (.inr ha)) ..
  · exact (stands (by decide) (by simp only [State.service, service hs])).trans (by rw [hs])
  · exact returns (by decide) (by simp only [State.service, service hs])
  · exact refuses (by decide) nofun (by simp only [State.service, service hs])
  · exact (stands (by decide) (by simp only [State.service, service hs])).trans (by rw [hs])
  · exact refuses (by decide) nofun (by simp only [State.service, service hs])
  · exact refuses (by decide) nofun (by simp only [State.service, service hs])
  · exact refuses (by decide) nofun (by simp only [State.service, service hs])
  · exact refuses (by decide) nofun (by simp only [State.service, service hs])
  · exact returns (by decide) (by simp only [State.service, service hs])
  · have own := ownBellService_ok b (by decide) (State.service_withdraws hs)
    have same := State.withdrawing_same (s := s) b
    have coil := State.leaveService_sameCoil (s := s.withdrawing b) b .withdrawn .request b
    have left := State.leaveService_service (s := s.withdrawing b) (b := b) (st := .withdrawn) nofun nofun .request
    have silent := (State.leaveService_silenced (s := s.withdrawing b) (b := b) (st := .withdrawn) nofun nofun .request).settle
    have others (c : BellNo) (hc : c ≠ b) : ((s.withdrawing b).leaveService b .withdrawn .request).bell c = s.bell c :=
      (State.leaveService_ne hc.symm _ _).trans (State.withdrawing_ne hc.symm)
    obtain ⟨l1, l2, l3, l4, l5, l6, l7, l8, l9, l10, l11, l12⟩ := State.leaveService_frame (s := s.withdrawing b) b .withdrawn .request
    generalize (s.withdrawing b).leaveService b .withdrawn .request = u at *
    obtain ⟨f1, f2, f3, f4, f5, f6, f7, f8, f9, f10, f11, f12⟩ := State.settle_frame (s := u)
    rw [State.withdrawing_bell] at coil
    rw [State.settle_bell, left] at own
    refine ⟨u.settle, takeRequest_owned h own .., ?_, silent.2, ?_, ?_, ?_, fun c hc => ?_, ?_, ?_, ?_, ?_, ?_, ?_, ?_, ?_, ?_, ?_, ?_⟩
    · rw [State.settle_bell, left]
    · rw [State.settle_bell, coil.missRun]
    · rw [State.settle_bell, coil.drive]
    · rw [State.settle_bell, coil.heat]
    · rw [State.settle_bell, others c hc]
    · rw [f1, l1, same]
    · rw [f2, l2, same]
    · rw [f3, l3, same]
    · rw [f4, l4, same]
    · rw [f6, l5, same]
    · rw [f7, l6, same]
    · rw [f8, l7, same]
    · rw [f9, l8, same]
    · rw [f10, l9, same]
    · rw [f11, l11, same]
    · rw [f12, l12, same]

end Sys2Proof.Machine

/-! ### Proofs: current samples, drive ends, rests, sensor samples and window closes (O52 to O56) -/

namespace Sys2Proof.Machine

open Sys2Proof

variable {s : State}

/-! #### One bell changed -/

theorem State.bells_set {t : State} {b : BellNo} {r : Bell} (hb : t.bell b = r) (hn : ∀ c, c ≠ b → t.bell c = s.bell c) :
    t.bells = s.bells.set b r := by
  refine Vector.ext fun i hi => ?_
  by_cases h : i = b.val
  · subst h
    rw [Vector.getElem_set_self]
    exact hb
  · rw [Vector.getElem_set_ne _ _ (Ne.symm h)]
    exact hn ⟨i, hi⟩ (fun k => h (congrArg Fin.val k))

/-- A fault found at a bell whose hammer is not at rest changes its service state alone. -/
theorem State.finding_bell_self {b : BellNo} (h : (s.bell b).hammer ≠ .idle) (k : FaultKind) (c : BellCause) :
    (s.finding b k c).bell b = { s.bell b with service := if (s.bell b).service.code = 3 then (s.bell b).service else .faulted k } := by
  unfold State.finding
  split
  · next x hx => rw [if_pos (Service.code_three.mpr ⟨x, hx⟩)]
  · next hx =>
    rw [if_neg (fun hc => by obtain ⟨x, hk⟩ := Service.code_three.mp hc; exact hx x hk)]
    unfold State.leaveService
    generalize hu : (((s.takeOut fun e => e.bell = b).changeService b (.faulted k) c (s.entriesOf b).length).grantSlots) = u
    have hub : u.bell b = { s.bell b with service := .faulted k } := by rw [← hu]; simp
    have hq : u.quiet b ≠ true := fun hq => h (by rw [← (State.quiet_iff.mp hq).2, hub])
    rw [State.quietPoint]
    split
    · next hq' _ => exact absurd hq' hq
    · exact hub

theorem State.finding_silenced {b : BellNo} (h : (s.bell b).service.code ≠ 3) (k : FaultKind) (c : BellCause) : (s.finding b k c).Silenced b := by
  unfold State.finding
  split
  · next x hx => exact absurd (Service.code_three.mpr ⟨x, hx⟩) h
  · exact State.leaveService_silenced (by simp) (by simp) c

/-- A fault found at a bell not FAULTED is the bell's service state. -/
theorem State.finding_faults {b : BellNo} (h : (s.bell b).service.code ≠ 3) (k : FaultKind) (c : BellCause) :
    ((s.finding b k c).bell b).service = .faulted k := by
  unfold State.finding
  split
  · next x hx => exact absurd (Service.code_three.mpr ⟨x, hx⟩) h
  · exact State.leaveService_service (by simp) (by simp) c

theorem State.finding_faulted {b : BellNo} {x : FaultKind} (h : (s.bell b).service = .faulted x) (k : FaultKind) (c : BellCause) : s.finding b k c = s := by
  unfold State.finding
  rw [h]

theorem State.verify_bell_self (b : BellNo) (t : Nat) :
    (s.verify b t).bell b = { s.bell b with verified := true, lastVerified := t, stale := false } := by
  unfold State.verify State.freshen
  split
  · simp
  · next h =>
    have hs : (s.bell b).stale = false := by simpa using h
    simp [hs]

theorem State.verify_ne {b c : BellNo} (h : b ≠ c) (t : Nat) : (s.verify b t).bell c = s.bell c := by
  unfold State.verify State.freshen
  split <;> simp [State.modBell_bell_ne _ h]

theorem State.freeClass_inUse (n : Nat) : (s.freeClass n).drive.inUse = s.drive.inUse - n := by
  unfold State.freeClass State.applyBudget
  split
  · split <;> rfl
  · rfl

theorem State.releaseCoil_inUse (b : BellNo) (d : Drive) : (s.releaseCoil b d).drive.inUse = s.drive.inUse - d.cls := by
  unfold State.releaseCoil
  split
  · simp [State.driveNotice, State.freeClass_inUse]
  · simp [State.freeClass_inUse]

theorem State.releaseCoil_globals (h : s.drive.pendingBudget = none) (b : BellNo) (d : Drive) : (s.releaseCoil b d).globals = s.globals := by
  have free (t : State) (ht : t.drive.pendingBudget = none) : (t.freeClass d.cls).globals = t.globals := by
    unfold State.freeClass State.applyBudget
    simp [ht]
  unfold State.releaseCoil
  split
  · simp [State.driveNotice, free (s.modBell b fun r => { r with hammer := .swing, drive := none }) h]
  · simp [free (s.modBell b fun r => { r with hammer := .idle, drive := none }) h]

/-! #### A strike's drive ends -/

/-- The drive is one of a note. -/
theorem Drive.strike_kind {d : Drive} (h : d.kind ≠ .testPulse) : ∃ o n dy i, d.kind = .strike o n dy i := by
  cases hk : d.kind with
  | testPulse => exact absurd hk h
  | strike o n dy i => exact ⟨o, n, dy, i, rfl⟩

theorem State.cutDrive_strike {b : BellNo} {d : Drive} (h : (s.bell b).drive = some d) (hk : d.kind ≠ .testPulse) :
    s.cutDrive b = (s.releaseCoil b d).modBell b fun r => { r with window := none } := by
  obtain ⟨o, n, dy, i, hk⟩ := Drive.strike_kind hk
  unfold State.cutDrive
  simp only [h, hk]

theorem State.releaseCoil_strike {d : Drive} (hk : d.kind ≠ .testPulse) (b : BellNo) :
    (s.releaseCoil b d).bell b = { s.bell b with hammer := .swing, drive := none } := by
  obtain ⟨o, n, dy, i, hk⟩ := Drive.strike_kind hk
  rw [State.releaseCoil_bell_self, hk]

/-- The bell as a cut with a HIGH current leaves it. -/
theorem State.short_bell {b : BellNo} {d : Drive} (h : (s.bell b).drive = some d) (hk : d.kind ≠ .testPulse) (c : BellCause) :
    ((s.cutDrive b).finding b .short c).bell b = { s.bell b with
      hammer := .swing, drive := none, window := none
      service := if (s.bell b).service.code = 3 then (s.bell b).service else .faulted .short } := by
  have hc : (s.cutDrive b).bell b = { s.bell b with hammer := .swing, drive := none, window := none } := by
    rw [State.cutDrive_strike h hk]
    simp [State.releaseCoil_strike hk]
  rw [State.finding_bell_self (by rw [hc]; nofun), hc]

theorem State.short_silenced {b : BellNo} {d : Drive} (h : (s.bell b).drive = some d) (hk : d.kind ≠ .testPulse) (hs : (s.bell b).service.code ≠ 3)
    (c : BellCause) : ((s.cutDrive b).finding b .short c).Silenced b := by
  refine State.finding_silenced ?_ _ _
  rw [State.cutDrive_strike h hk]
  simpa [State.releaseCoil_strike hk] using hs

theorem State.short_inUse {b : BellNo} {d : Drive} (h : (s.bell b).drive = some d) (hk : d.kind ≠ .testPulse) (c : BellCause) :
    ((s.cutDrive b).finding b .short c).drive.inUse = s.drive.inUse - d.cls := by
  rw [State.cutDrive_strike h hk]
  simp [State.releaseCoil_inUse]

theorem State.short_ne {b c : BellNo} (h : c ≠ b) (w : BellCause) : ((s.cutDrive b).finding b .short w).bell c = s.bell c :=
  (State.finding_ne h.symm _ _).trans (State.cutDrive_bell_ne h.symm)

theorem currentClass_high {c n : Nat} : currentClass c n = .high ↔ 20 * c < n := by
  unfold currentClass
  split
  · exact ⟨(fun h => by cases h), fun h => by omega⟩
  · split
    · exact ⟨fun _ => by assumption, fun _ => rfl⟩
    · exact ⟨(fun h => by cases h), fun h => by omega⟩

theorem currentClass_low {c n : Nat} (h : n < 4 * c) : currentClass c n = .low := if_pos h

theorem currentClass_normal {c n : Nat} (h : 4 * c ≤ n) (h' : n ≤ 20 * c) : currentClass c n = .normal := by
  unfold currentClass
  rw [if_neg (by omega), if_neg (by omega)]

/-! #### The first current sample -/

theorem exec_firstSample_passes {b : BellNo} (h : ∀ d, (s.bell b).drive = some d → d.kind = .testPulse ∨ d.sampled = true ∨ d.width ≤ 10 ∨
    s.timer.ms < d.start + 1) (reading : Nat) : exec (.firstCurrentSample b reading) s = .next s.transmit := by
  have hd : s.firstSampleDue b = none := by
    unfold State.firstSampleDue
    split
    · next d hd =>
      split
      · next hk =>
        refine if_neg fun ⟨h1, h2, h3⟩ => ?_
        rcases h d hd with k | k | k | k
        · rw [hk] at k; cases k
        · rw [h1] at k; cases k
        · omega
        · omega
      · rfl
    · rfl
  show execFirstCurrentSample b reading s = _
  unfold execFirstCurrentSample
  rw [hd]
  rfl

theorem exec_firstSample_due {b : BellNo} {d : Drive} (h : (s.bell b).drive = some d) (hk : d.kind ≠ .testPulse) (hs : d.sampled = false)
    (hw : 10 < d.width) (ht : d.start + 1 ≤ s.timer.ms) (reading : Nat) :
    exec (.firstCurrentSample b reading) s = .next (State.transmit
      (let u := s.modBell b fun r => { r with drive := some { d with sampled := true } }
       if currentClass d.cls reading = .high then ((u.cutDrive b).finding b .short .driveCurrent).settle else u)) := by
  have hd : s.firstSampleDue b = some d := by
    obtain ⟨o, n, dy, i, hk⟩ := Drive.strike_kind hk
    unfold State.firstSampleDue
    simp only [h, hk]
    exact if_pos ⟨hs, hw, ht⟩
  show execFirstCurrentSample b reading s = _
  unfold execFirstCurrentSample
  rw [hd]
  dsimp only
  split <;> rfl

/-- Settles O52. -/
theorem highFirstSampleCutsTheDrive : Obligations.HighFirstSampleCutsTheDrive := by
  intro b reading s r
  refine ⟨fun h => exec_firstSample_passes h reading, fun d h hk hs hw ht => ⟨fun hr => ?_, fun hr => ?_⟩⟩ <;>
    rw [exec_firstSample_due h hk hs hw ht]
  · rw [if_neg (fun hc => absurd (currentClass_high.mp hc) (Nat.not_lt.mpr hr))]
    rfl
  · rw [if_pos (currentClass_high.mpr hr)]
    generalize hu : s.modBell b (fun r => { r with drive := some { d with sampled := true } }) = u
    have hub : u.bell b = { r with drive := some { d with sampled := true } } := by rw [← hu]; simp [r]
    have hud : (u.bell b).drive = some { d with sampled := true } := by rw [hub]
    have others (c : BellNo) (hc : c ≠ b) : u.bell c = s.bell c := by rw [← hu, State.modBell_bell_ne _ hc.symm]
    have short := State.short_bell hud hk .driveCurrent
    have silent (hc : r.service.code ≠ 3) := (State.short_silenced hud hk (by rw [hub]; exact hc) .driveCurrent).settle
    have used := State.short_inUse hud hk .driveCurrent
    have ne (c : BellNo) (hc : c ≠ b) := (State.short_ne (s := u) hc .driveCurrent).trans (others c hc)
    obtain ⟨l1, l2, l3, l4, l5, l6, l7, l8, l9, l10, l11, l12⟩ := State.finding_frame (s := u.cutDrive b) b .short .driveCurrent
    obtain ⟨c1, c2, c3, c4, c5, c6, c7, c8, c9, c10, c11⟩ := State.cutDrive_frame (s := u) b
    generalize (u.cutDrive b).finding b .short .driveCurrent = v at *
    obtain ⟨f1, f2, f3, f4, f5, f6, f7, f8, f9, f10, f11, f12⟩ := State.settle_frame (s := v)
    refine ⟨v.settle, rfl, ?_, fun hc => (silent hc).2, ?_, ?_, ?_, ?_, ?_, ?_, ?_, ?_, ?_, ?_⟩
    · rw [f5, State.bells_set (short.trans (by rw [hub])) ne]
    · rw [f6, used, ← hu]; rfl
    · rw [f1, l1, c1, ← hu]; rfl
    · rw [f2, l2, c2, ← hu]; rfl
    · rw [f3, l3, c3, ← hu]; rfl
    · rw [f7, l6, c4, ← hu]; rfl
    · rw [f8, l7, c5, ← hu]; rfl
    · rw [f9, l8, c6, ← hu]; rfl
    · rw [f10, l9, ← hu]; simp
    · rw [f11, l11, ← hu]; simp
    · rw [f12, l12, ← hu]; simp

end Sys2Proof.Machine

/-! ### Proofs: the ends of drives and test pulses, and rests (O53, O54) -/

namespace Sys2Proof.Machine

open Sys2Proof

variable {s : State}

/-! #### DRIVE_END -/

/-- What the end of a drive leaves of its bell, by its end sample (R50, R54 to R56). -/
def Bell.ended (r : Bell) (d : Drive) (reading : Nat) : Bell :=
  let found (k : FaultKind) : Service := if r.service.code = 3 then r.service else .faulted k
  match currentClass d.cls reading with
  | .high => { r with hammer := .swing, drive := none, window := none, service := found .short }
  | .low => { r with hammer := .swing, drive := none, service := found .openCoil }
  | .normal => { r with hammer := .swing, drive := none, verified := true, lastVerified := d.start + d.width / 10, stale := false }

theorem State.strikeEnd_ne {b c : BellNo} (hc : c ≠ b) (d : Drive) (n : Nat) : (s.strikeEnd b d n).bell c = s.bell c := by
  unfold State.strikeEnd
  split
  · exact State.short_ne hc _
  · exact (State.finding_ne hc.symm _ _).trans (State.releaseCoil_bell_ne hc.symm _)
  · exact (State.verify_ne hc.symm _).trans (State.releaseCoil_bell_ne hc.symm _)

section
variable {b : BellNo} {d : Drive} (h : (s.bell b).drive = some d) (hk : d.kind ≠ .testPulse)

include h hk

theorem State.strikeEnd_bell_self (n : Nat) : (s.strikeEnd b d n).bell b = (s.bell b).ended d n := by
  have hr : ((s.releaseCoil b d).bell b).hammer ≠ .idle := by rw [State.releaseCoil_strike hk]; nofun
  unfold State.strikeEnd Bell.ended
  cases currentClass d.cls n with
  | high => exact State.short_bell h hk _
  | low => exact (State.finding_bell_self hr _ _).trans (by rw [State.releaseCoil_strike hk])
  | normal => exact (State.verify_bell_self ..).trans (by rw [State.releaseCoil_strike hk])

theorem State.strikeEnd_inUse (n : Nat) : (s.strikeEnd b d n).drive.inUse = s.drive.inUse - d.cls := by
  unfold State.strikeEnd
  split
  · exact State.short_inUse h hk _
  · simp [State.releaseCoil_inUse]
  · simp [State.releaseCoil_inUse]

theorem State.strikeEnd_globals (hp : s.drive.pendingBudget = none) (n : Nat) : (s.strikeEnd b d n).globals = s.globals := by
  unfold State.strikeEnd
  split
  · simp [State.cutDrive_strike h hk, State.releaseCoil_globals hp]
  · simp [State.releaseCoil_globals hp]
  · simp [State.releaseCoil_globals hp]

theorem State.strikeEnd_silenced {n : Nat} (hn : n < 4 * d.cls ∨ 20 * d.cls < n) (hs : (s.bell b).service.code ≠ 3) :
    (s.strikeEnd b d n).Silenced b := by
  unfold State.strikeEnd
  split
  · exact State.short_silenced h hk hs _
  · exact State.finding_silenced (by rw [State.releaseCoil_strike hk]; exact hs) _ _
  · next hc =>
    rcases hn with hn | hn
    · rw [currentClass_low hn] at hc; cases hc
    · rw [currentClass_high.mpr hn] at hc; cases hc

end

theorem exec_driveEnd_passes {b : BellNo} (h : ∀ d, (s.bell b).drive = some d → d.kind = .testPulse ∨ 10 * s.timer.ms + 9 < d.start * 10 + d.width)
    (reading : Nat) : exec (.driveEnd b reading) s = .next s.transmit := by
  show execDriveEnd b reading s = _
  unfold execDriveEnd
  split
  · next d hd =>
    split
    · next hk =>
      refine if_neg fun ht => ?_
      rcases h d hd with k | k
      · rw [hk] at k; cases k
      · unfold Drive.endTenths at ht; omega
    · rfl
  · rfl

theorem exec_driveEnd_due {b : BellNo} {d : Drive} (h : (s.bell b).drive = some d) (hk : d.kind ≠ .testPulse)
    (ht : d.start * 10 + d.width ≤ 10 * s.timer.ms + 9) (reading : Nat) :
    exec (.driveEnd b reading) s = .next (State.transmit (((s.atTenth d.endTenths).strikeEnd b d reading).settle)) := by
  obtain ⟨o, n, dy, i, hk⟩ := Drive.strike_kind hk
  show execDriveEnd b reading s = _
  unfold execDriveEnd
  simp only [h, hk]
  exact if_pos ht

/-- Settles O53. -/
theorem driveEndClassesItsSample : Obligations.DriveEndClassesItsSample := by
  intro b reading s r found
  refine ⟨fun h => exec_driveEnd_passes h reading, fun d h hk ht => ?_⟩
  rw [exec_driveEnd_due h hk ht]
  generalize hu : s.atTenth d.endTenths = u
  have hub (c : BellNo) : u.bell c = s.bell c := by rw [← hu]; rfl
  have hud : (u.bell b).drive = some d := (hub b).symm ▸ h
  have self := State.strikeEnd_bell_self hud hk reading
  have ne (c : BellNo) (hc : c ≠ b) := (State.strikeEnd_ne (s := u) hc d reading).trans (hub c)
  have used := State.strikeEnd_inUse hud hk reading
  have globals (hp : u.drive.pendingBudget = none) := State.strikeEnd_globals hud hk hp reading
  have silent (hn : reading < 4 * d.cls ∨ 20 * d.cls < reading) (hs : r.service.code ≠ 3) :=
    (State.strikeEnd_silenced hud hk hn (by rw [hub]; exact hs)).settle
  obtain ⟨l1, l2, l3, l4, l5, l6, l7, -, l9, l10⟩ := State.strikeEnd_frame (s := u) b d reading
  rw [hub] at self
  generalize u.strikeEnd b d reading = v at *
  have bells : v.bells = s.bells.set b (r.ended d reading) := State.bells_set self ne
  obtain ⟨f1, f2, f3, f4, f5, f6, f7, f8, f9, f10, f11, f12⟩ := State.settle_frame (s := v)
  refine ⟨v.settle, rfl, fun h1 h2 => ?_, fun h1 => ?_, fun h1 => ?_, fun hn hs => (silent hn hs).2, ?_, fun hp => ?_, ?_, ?_, ?_, ?_, ?_, ?_, ?_, ?_, ?_,
    ?_⟩
  · rw [f5, bells, Bell.ended, currentClass_normal h1 h2]
  · rw [f5, bells, Bell.ended, currentClass_low h1]
  · rw [f5, bells, Bell.ended, currentClass_high.mpr h1]
  · rw [f6, used, ← hu]; rfl
  · rw [f4, globals (by rw [← hu]; exact hp), ← hu]; rfl
  · rw [f1, l1, ← hu]; rfl
  · rw [f1, l1, ← hu]; rfl
  · rw [f2, l2, ← hu]; rfl
  · rw [f3, l3, ← hu]; rfl
  · rw [f7, l4, ← hu]; rfl
  · rw [f8, l5, ← hu]; rfl
  · rw [f9, l6, ← hu]; rfl
  · rw [f10, l7, ← hu]; rfl
  · rw [f11, l9, ← hu]; rfl
  · rw [f12, l10, ← hu]; rfl

/-! #### READY_TIME_RETURN -/

theorem exec_return_passes {b : BellNo} (h : (s.bell b).hammer ≠ .swing ∨ ∀ t, (s.bell b).readyTime = some t → s.timer.ms < t) :
    exec (.readyTimeReturn b) s = .next s.transmit := by
  show execReadyTimeReturn b s = _
  unfold execReadyTimeReturn
  split
  · next t hh ht =>
    refine if_neg fun hle => ?_
    rcases h with h | h
    · exact h hh
    · exact absurd (h t ht) (Nat.not_lt.mpr hle)
  · rfl

theorem exec_return_due {b : BellNo} {t : Nat} (hh : (s.bell b).hammer = .swing) (hr : (s.bell b).readyTime = some t) (ht : t ≤ s.timer.ms) :
    exec (.readyTimeReturn b) s = .next (State.transmit ((s.modBell b fun r => { r with hammer := .idle }).quietPoint b)) := by
  show execReadyTimeReturn b s = _
  unfold execReadyTimeReturn
  simp only [hh, hr]
  exact if_pos ht

theorem State.quietPoint_stays {b : BellNo} (h : (s.bell b).pending = none ∨ s.quiet b = false) : s.quietPoint b = s := by
  unfold State.quietPoint
  split
  · next hq hp =>
    rcases h with h | h
    · rw [h] at hp; cases hp
    · rw [h] at hq; cases hq
  · rfl

theorem State.quietPoint_applies {b : BellNo} {p : Patch} (h : (s.bell b).pending = some p) (hq : s.quiet b = true) :
    s.quietPoint b = s.applySettings b p := by
  unfold State.quietPoint
  rw [hq, h]

/-! #### TEST_PULSE_END -/

theorem exec_pulseEnd_passes {b : BellNo} (h : ∀ d, (s.bell b).drive = some d → d.kind ≠ .testPulse ∨ s.timer.ms < d.start) (reading : Nat) :
    exec (.testPulseEnd b reading) s = .next s.transmit := by
  show execTestPulseEnd b reading s = _
  unfold execTestPulseEnd
  split
  · next d hd =>
    split
    · next hk =>
      refine if_neg fun ht => ?_
      rcases h d hd with k | k
      · exact k hk
      · omega
    · rfl
  · rfl

theorem exec_pulseEnd_due {b : BellNo} {d : Drive} (h : (s.bell b).drive = some d) (hk : d.kind = .testPulse) (ht : d.start ≤ s.timer.ms)
    (reading : Nat) : exec (.testPulseEnd b reading) s = .next (State.transmit (((s.atTenth d.endTenths).pulseEnd b d reading).settle)) := by
  show execTestPulseEnd b reading s = _
  unfold execTestPulseEnd
  simp only [h, hk]
  exact if_pos ht

/-- The part as the end of a test pulse leaves it before its quiet point. -/
def State.pulseClassed (s : State) (b : BellNo) (d : Drive) (reading : Nat) : State :=
  match currentClass d.cls reading with
  | .high => (s.releaseCoil b d).finding b .short .testPulse
  | .low => (s.releaseCoil b d).finding b .openCoil .testPulse
  | .normal => ((s.releaseCoil b d).verify b d.start).modBell b fun r => { r with verified := false }

theorem State.pulseEnd_eq (b : BellNo) (d : Drive) (n : Nat) : s.pulseEnd b d n = (s.pulseClassed b d n).quietPoint b := by
  unfold State.pulseEnd State.pulseClassed
  cases currentClass d.cls n <;> rfl

theorem State.pulseEnd_ne {b c : BellNo} (hc : c ≠ b) (d : Drive) (n : Nat) : (s.pulseEnd b d n).bell c = s.bell c := by
  have hr := State.releaseCoil_bell_ne (s := s) hc.symm d
  rw [State.pulseEnd_eq, State.quietPoint_ne hc.symm]
  unfold State.pulseClassed
  split
  · rw [State.finding_ne hc.symm, hr]
  · rw [State.finding_ne hc.symm, hr]
  · rw [State.modBell_bell_ne _ hc.symm, State.verify_ne hc.symm, hr]

theorem State.pulseEnd_inUse (b : BellNo) (d : Drive) (n : Nat) : (s.pulseEnd b d n).drive.inUse = s.drive.inUse - d.cls := by
  unfold State.pulseEnd
  split <;> simp [State.releaseCoil_inUse]

section
variable {b : BellNo} {d : Drive} (hk : d.kind = .testPulse)

include hk

theorem State.releaseCoil_pulse : (s.releaseCoil b d).bell b = { s.bell b with hammer := .idle, drive := none } := by
  rw [State.releaseCoil_bell_self, hk]

/-- The coil of a test pulse that has ended. -/
theorem State.pulseClassed_coil (n : Nat) : ({ s.bell b with hammer := .idle, drive := none } : Bell).SameCoil ((s.pulseClassed b d n).bell b) ∨
    currentClass d.cls n = .normal ∧
    (s.pulseClassed b d n).bell b = { s.bell b with hammer := .idle, drive := none, verified := false, lastVerified := d.start, stale := false } := by
  rw [← State.releaseCoil_pulse hk]
  unfold State.pulseClassed
  split
  · exact .inl (State.finding_sameCoil ..)
  · exact .inl (State.finding_sameCoil ..)
  · next hc =>
    refine .inr ⟨hc, ?_⟩
    rw [State.modBell_bell_self, State.verify_bell_self, State.releaseCoil_pulse hk]

theorem State.pulseEnd_coil (n : Nat) : ((s.pulseEnd b d n).bell b).hammer = .idle ∧ ((s.pulseEnd b d n).bell b).drive = none := by
  have hq := State.quietPoint_sameCoil (s := s.pulseClassed b d n) b b
  rw [State.pulseEnd_eq, hq.hammer, hq.drive]
  rcases State.pulseClassed_coil (s := s) hk n with h | ⟨-, h⟩
  · exact ⟨h.hammer, h.drive⟩
  · rw [h]; exact ⟨rfl, rfl⟩

theorem State.pulseEnd_normal {n : Nat} (h : 4 * d.cls ≤ n) (h' : n ≤ 20 * d.cls) :
    ((s.pulseEnd b d n).bell b).verified = false ∧ ((s.pulseEnd b d n).bell b).lastVerified = d.start ∧
    ((s.pulseEnd b d n).bell b).stale = false := by
  have hq := State.quietPoint_sameCoil (s := s.pulseClassed b d n) b b
  have hb : (s.pulseClassed b d n).bell b = { s.bell b with hammer := .idle, drive := none, verified := false, lastVerified := d.start, stale := false } := by
    unfold State.pulseClassed
    simp [currentClass_normal h h', State.verify_bell_self, State.releaseCoil_pulse hk]
  rw [State.pulseEnd_eq, hq.verified, hq.lastVerified, hq.stale, hb]
  exact ⟨rfl, rfl, rfl⟩

/-- A quiet point after a fault found leaves the fault, and no entry. -/
theorem State.found_pulse {k : FaultKind} (hs : (s.bell b).service.code ≠ 3) :
    ((((s.releaseCoil b d).finding b k .testPulse).quietPoint b).bell b).service = .faulted k ∧
    (((s.releaseCoil b d).finding b k .testPulse).quietPoint b).Silenced b := by
  have hr : ((s.releaseCoil b d).bell b).service.code ≠ 3 := by rw [State.releaseCoil_pulse hk]; exact hs
  have hf := State.finding_faults hr k .testPulse
  have hq : ((((s.releaseCoil b d).finding b k .testPulse).quietPoint b).bell b).service = .faulted k := by
    rw [State.quietPoint_service (by rw [hf]; simp) (by rw [hf]; simp), hf]
  refine ⟨hq, by rw [hq]; simp, ?_⟩
  simpa using (State.finding_silenced hr k .testPulse).2

theorem State.pulseEnd_low {n : Nat} (h : n < 4 * d.cls) (hs : (s.bell b).service.code ≠ 3) :
    ((s.pulseEnd b d n).bell b).service = .faulted .openCoil ∧ (s.pulseEnd b d n).Silenced b := by
  unfold State.pulseEnd
  rw [currentClass_low h]
  exact State.found_pulse hk hs

theorem State.pulseEnd_high {n : Nat} (h : 20 * d.cls < n) (hs : (s.bell b).service.code ≠ 3) :
    ((s.pulseEnd b d n).bell b).service = .faulted .short ∧ (s.pulseEnd b d n).Silenced b := by
  unfold State.pulseEnd
  rw [currentClass_high.mpr h]
  exact State.found_pulse hk hs

theorem State.pulseEnd_faulted {k : FaultKind} (hs : (s.bell b).service = .faulted k) (n : Nat) :
    ((s.pulseEnd b d n).bell b).service = .faulted k := by
  have hr : ((s.releaseCoil b d).bell b).service = .faulted k := by rw [State.releaseCoil_pulse hk]; exact hs
  have hc : ((s.pulseClassed b d n).bell b).service = .faulted k := by
    unfold State.pulseClassed
    split
    · rw [State.finding_faulted hr, hr]
    · rw [State.finding_faulted hr, hr]
    · rw [State.modBell_bell_self, State.verify_bell_self]; exact hr
  rw [State.pulseEnd_eq, State.quietPoint_service (by rw [hc]; simp) (by rw [hc]; simp), hc]

end

/-- Settles O54. -/
theorem hammersComeToRest : Obligations.HammersComeToRest := by
  refine ⟨fun b s => ?_, fun b reading s => ?_⟩
  · intro r
    refine ⟨exec_return_passes, fun t hh hr ht => ⟨fun hp => ?_, fun p hp hq h1 h2 h3 => ?_⟩⟩ <;> rw [exec_return_due hh hr ht]
    · rw [State.quietPoint_stays]
      · rfl
      · refine hp.imp (fun hp => by simpa using hp) fun ⟨e, he, hb⟩ => ?_
        exact Bool.eq_false_iff.mpr fun hq => (State.quiet_iff.mp hq).1 e he hb
    · have hu : ((s.modBell b fun r => { r with hammer := .idle }).bell b).pending = some p := by simpa using hp
      have hn : p.namesHeat = false := by simp [Patch.namesHeat, h1, h2, h3]
      rw [State.quietPoint_applies hu (State.quiet_iff.mpr ⟨hq, by simp⟩), State.applySettings_plain b hn, State.modBell_modBell]
      rfl
  · intro r
    refine ⟨fun h => exec_pulseEnd_passes h reading, fun d h hk ht => ?_⟩
    rw [exec_pulseEnd_due h hk ht]
    generalize hu : s.atTenth d.endTenths = u
    have hub (c : BellNo) : u.bell c = s.bell c := by rw [← hu]; rfl
    have coil := State.pulseEnd_coil (s := u) (b := b) hk reading
    have normal (h1 : 4 * d.cls ≤ reading) (h2 : reading ≤ 20 * d.cls) := State.pulseEnd_normal (s := u) (b := b) hk h1 h2
    have low (h1 : reading < 4 * d.cls) (hs : r.service.code ≠ 3) := State.pulseEnd_low (s := u) (b := b) hk h1 (by rw [hub]; exact hs)
    have high (h1 : 20 * d.cls < reading) (hs : r.service.code ≠ 3) := State.pulseEnd_high (s := u) (b := b) hk h1 (by rw [hub]; exact hs)
    have faulted (k : FaultKind) (hs : r.service = .faulted k) := State.pulseEnd_faulted (s := u) (b := b) hk ((congrArg Bell.service (hub b)).trans hs) reading
    have ne (c : BellNo) (hc : c ≠ b) := (State.pulseEnd_ne (s := u) hc d reading).trans (hub c)
    have used := State.pulseEnd_inUse (s := u) b d reading
    obtain ⟨l1, l2, l3, l4, l5, l6, l7, -, l9, l10⟩ := State.pulseEnd_frame (s := u) b d reading
    generalize u.pulseEnd b d reading = v at *
    obtain ⟨f1, f2, f3, f4, f5, f6, f7, f8, f9, f10, f11, f12⟩ := State.settle_frame (s := v)
    refine ⟨v.settle, rfl, ?_, ?_, ?_, fun h1 h2 => ?_, fun h1 hs => ⟨?_, (low h1 hs).2.settle.2⟩, fun h1 hs => ⟨?_, (high h1 hs).2.settle.2⟩, fun k hs => ?_,
      fun c hc => ?_, ?_, ?_, ?_, ?_, ?_, ?_, ?_, ?_, ?_⟩
    · rw [State.settle_bell, coil.1]
    · rw [State.settle_bell, coil.2]
    · rw [f6, used, ← hu]; rfl
    · rw [State.settle_bell]; exact normal h1 h2
    · rw [State.settle_bell]; exact (low h1 hs).1
    · rw [State.settle_bell]; exact (high h1 hs).1
    · rw [State.settle_bell]; exact faulted k hs
    · rw [State.settle_bell]; exact ne c hc
    · rw [f1, l1, ← hu]; rfl
    · rw [f2, l2, ← hu]; rfl
    · rw [f3, l3, ← hu]; rfl
    · rw [f7, l4, ← hu]; rfl
    · rw [f8, l5, ← hu]; rfl
    · rw [f9, l6, ← hu]; rfl
    · rw [f10, l7, ← hu]; rfl
    · rw [f11, l9, ← hu]; rfl
    · rw [f12, l10, ← hu]; rfl

end Sys2Proof.Machine

/-! ### Proofs: sensor samples and window closes (O55, O56) -/

namespace Sys2Proof.Machine

open Sys2Proof

variable {s : State}

/-! #### SENSOR_SAMPLE -/

/-- The filter's output rises, falls, or stands (R59). -/
theorem filterOut_eq (m n : Nat) (h : List Bool) (x out : Bool) : filterOut m n (pushSample h x) out =
    if out = false ∧ m ≤ (((x :: h).take 5).take n).countP id then true
    else if out = true ∧ (((x :: h).take 5).take n).countP id < m then false else out := by
  have : highs (pushSample h x) n = (((x :: h).take 5).take n).countP id := rfl
  simp only [filterOut, this, Bool.and_eq_true, Bool.not_eq_true', decide_eq_true_eq]

/-- What a rise at q does to a window (R60, R62). -/
theorem Window.edge_eq (w : Window) (q : Nat) (edge : Int) : w.edge q edge =
    if w.openQ ≤ q ∧ q < w.closeQ then
      if w.capture = none then { w with capture := some { edge := edge, rise := q } } else { w with rebound := some (w.rebound.getD q) }
    else w := by
  obtain ⟨_, _, _, _, _, _, _, _, capture, rebound⟩ := w
  unfold Window.edge
  cases capture with
  | none => simp
  | some c => cases rebound <;> simp

theorem filterOut_rises {m n : Nat} {h : List Bool} {out : Bool} : (filterOut m n h out && !out) = true ↔ out = false ∧ m ≤ highs h n := by
  unfold filterOut
  cases out <;> simp

/-- Settles O55. -/
theorem sensorSamplesCaptureStrikes : Obligations.SensorSamplesCaptureStrikes := by
  intro levels s
  refine ⟨fun h => if_neg (Nat.not_lt.mpr h), fun h => ⟨_, if_pos h, fun b => ?_⟩⟩
  intro r q m n hist count rises out
  have hm : s.globals.filter.m = m := by
    show s.globals.filter.m = match s.globals.filter with | .none => 1 | .twoOf2 => 2 | .twoOf3 => 2 | .threeOf5 => 3
    cases s.globals.filter <;> rfl
  have hn : s.globals.filter.n = n := by
    show s.globals.filter.n = match s.globals.filter with | .none => 1 | .twoOf2 => 2 | .twoOf3 => 3 | .threeOf5 => 5
    cases s.globals.filter <;> rfl
  have hout : filterOut s.globals.filter.m s.globals.filter.n (pushSample r.sensorHist (levels.getLsbD b.val)) r.sensorOut = out := by
    rw [hm, hn]; exact filterOut_eq m n ..
  have hrise : (filterOut s.globals.filter.m s.globals.filter.n (pushSample r.sensorHist (levels.getLsbD b.val)) r.sensorOut && !r.sensorOut) = true ↔
      rises := by
    rw [hm, hn]; exact filterOut_rises
  have sensed : (s.bells.mapFinIdx fun b r _ => r.sense s.globals.filter q (levels.getLsbD b))[b] = r.sense s.globals.filter q (levels.getLsbD b.val) :=
    Vector.getElem_mapFinIdx ..
  refine sensed.trans ?_
  unfold Bell.sense
  dsimp only
  rw [hout]
  rw [hout] at hrise
  rw [hm]
  by_cases hr : rises
  · rw [if_pos (hrise.mpr hr)]
    cases hw : r.window with
    | none => rfl
    | some w =>
      simp only [Option.map_some, Window.edge_eq, hr, true_and]
      split
      · split <;> rfl
      · rfl
  · rw [if_neg (mt hrise.mp hr)]
    cases hw : r.window with
    | none => rfl
    | some w => simp only [hr, false_and, if_false]; rfl

/-! #### WINDOW_CLOSE -/

theorem exec_windowClose_passes {b : BellNo} (h : ∀ w, (s.bell b).window = some w → 4 * s.timer.ms < w.closeQ) :
    exec (.windowClose b) s = .next s.transmit := by
  show execWindowClose b s = _
  unfold execWindowClose
  split
  · next w hw => exact if_neg (Nat.not_le.mpr (h w hw))
  · rfl

theorem exec_windowClose_due {b : BellNo} {w : Window} (h : (s.bell b).window = some w) (ht : w.closeQ ≤ 4 * s.timer.ms) :
    exec (.windowClose b) s = .next (State.transmit ((s.closeWindow b).settle)) := by
  show execWindowClose b s = _
  unfold execWindowClose
  simp only [h]
  exact if_pos ht

theorem State.strikeReport_bell (b c : BellNo) (w : Window) : (s.strikeReport b w).bell c = s.bell c := State.bell_congr (by simp) c

/-- The bell's window gone by a miss, before the third miss tells (R63). -/
def State.missed (s : State) (b : BellNo) (w : Window) : State :=
  (s.modBell b fun r => { r with window := none, missRun := min (r.missRun + 1) Config.missLimit }).strikeReport b w

theorem State.missed_bell (b : BellNo) (w : Window) :
    (s.missed b w).bell b = { s.bell b with window := none, missRun := min ((s.bell b).missRun + 1) 3 } := by
  rw [State.missed, State.strikeReport_bell, State.modBell_bell_self]
  rfl

theorem State.missed_ne {b c : BellNo} (h : b ≠ c) (w : Window) : (s.missed b w).bell c = s.bell c := by
  rw [State.missed, State.strikeReport_bell, State.modBell_bell_ne _ h]

theorem State.missClose_eq (b : BellNo) (w : Window) :
    s.missClose b w = if (s.bell b).missRun = 2 then (s.missed b w).finding b .noStrike .misses else s.missed b w := by
  unfold State.missClose State.missed
  dsimp only
  simp only [Config.missLimit, decide_eq_true_eq, Nat.reduceEqDiff]

theorem State.closeWindow_miss {b : BellNo} {w : Window} (h : (s.bell b).window = some w) (hc : w.capture = none) : s.closeWindow b = s.missClose b w := by
  unfold State.closeWindow
  simp only [h, hc]

theorem State.closeWindow_capture {b : BellNo} {w : Window} {c : Capture} (h : (s.bell b).window = some w) (hc : w.capture = some c) :
    s.closeWindow b = s.captureClose b w c.edge := by
  unfold State.closeWindow
  simp only [h, hc]

theorem learningStep_eq (d k : Int) : learningStep d k = if d.tdiv k = 0 ∧ d ≠ 0 then d.sign else d.tdiv k := by
  unfold learningStep
  by_cases h : d.tdiv k = 0
  · rcases lt_trichotomy d 0 with hd | hd | hd
    · simp [h, hd, hd.ne, not_lt.mpr hd.le, Int.sign_eq_neg_one_of_neg hd]
    · simp [hd]
    · simp [h, hd, hd.ne', Int.sign_eq_one_of_pos hd]
  · simp [h]

theorem clampInt_max_min {x a b : Int} (h : a ≤ b) : clampInt x a b = max a (min x b) := by
  unfold clampInt
  grind

theorem State.Settled.congr {t : State} (h : s.Settled) (he : t.engine = s.engine) (hc : t.ctl = s.ctl) : t.Settled := by
  have hp (p : PlayerNo) : t.player p = s.player p := by rw [State.player, he]; rfl
  refine ⟨?_, ?_, fun hm => ?_⟩
  · rw [← h.ending]; simp only [State.ending, hp]
  · rw [← h.incoming]; simp only [State.incomingReady, hp]
  · refine (h.waiting (hc ▸ hm)).imp (fun k => ?_) fun k => by rw [he]; exact k
    rw [← k]; simp only [State.freePlayer, hp]

/-- Settles O56. -/
theorem windowsCloseInAMissOrALesson : Obligations.WindowsCloseInAMissOrALesson := by
  intro b s r
  refine ⟨exec_windowClose_passes, fun w h ht => ⟨fun hc => ?_, fun c hc hs => ?_⟩⟩
  · rw [exec_windowClose_due h ht, State.closeWindow_miss h hc]
    have coil : ({ r with window := none, missRun := min (r.missRun + 1) 3 } : Bell).SameCoil ((s.missClose b w).bell b) := by
      rw [State.missClose_eq, ← State.missed_bell b w]
      split
      · exact State.finding_sameCoil ..
      · exact .refl _
    have stays (hn : r.missRun ≠ 2 ∨ r.service.code = 3) :
        ((s.missClose b w).bell b).service = r.service ∧ ((s.missClose b w).bell b).lead16 = r.lead16 := by
      have hm : s.missClose b w = s.missed b w := by
        rw [State.missClose_eq]
        split
        · next h2 =>
          obtain ⟨k, hk⟩ := Service.code_three.mp (hn.resolve_left (not_not.mpr h2))
          exact State.finding_faulted (by rw [State.missed_bell]; exact hk) _ _
        · rfl
      rw [hm, State.missed_bell]
      exact ⟨rfl, rfl⟩
    have third (h2 : r.missRun = 2) (hk : r.service.code ≠ 3) :
        ((s.missClose b w).bell b).service = .faulted .noStrike ∧ (s.missClose b w).Silenced b := by
      have hb : ((s.missed b w).bell b).service.code ≠ 3 := by rw [State.missed_bell]; exact hk
      rw [State.missClose_eq, if_pos h2]
      exact ⟨State.finding_faults hb _ _, State.finding_silenced hb _ _⟩
    have ne (x : BellNo) (hx : x ≠ b) : (s.missClose b w).bell x = s.bell x := by
      rw [State.missClose_eq]
      split
      · rw [State.finding_ne hx.symm, State.missed_ne hx.symm]
      · rw [State.missed_ne hx.symm]
    obtain ⟨l1, l2, l3, l4, l5, -, -, -, l9, -, l11, l12⟩ := State.missClose_frame (s := s) b w
    generalize s.missClose b w = v at *
    obtain ⟨f1, f2, f3, f4, f5, f6, f7, f8, f9, f10, f11, f12⟩ := State.settle_frame (s := v)
    refine ⟨v.settle, rfl, ?_, ?_, fun x hx => ?_, fun hn => ?_, fun h2 hk => ⟨?_, (third h2 hk).2.settle.2⟩, f1.trans l1, f2.trans l2, f3.trans l3,
      f4.trans l4, f6.trans l5, f10.trans l9, f11.trans l11, f12.trans l12⟩
    · rw [State.settle_bell, coil.window]
    · rw [State.settle_bell, coil.missRun]
    · rw [State.settle_bell, ne x hx]
    · rw [State.settle_bell]; exact stays hn
    · rw [State.settle_bell]; exact (third h2 hk).1
  · intro x m16 diff divisor step learned after strike hl
    rw [exec_windowClose_due h ht, State.closeWindow_capture h hc]
    have hstrike : w.strike b = strike := by simp [Window.strike, hc, strike]
    have hlead : learnedLead x r.lead16 (c.edge - 4 * (w.start : Int)) w.dynamic (learningDivisor s.ctl.mode) = learned.toNat := by
      unfold learnedLead
      dsimp only
      rw [clampInt_max_min (by omega), learningStep_eq]
      rfl
    have hafter : (s.modBell b fun r => { r with
        window := none, missRun := 0
        lead16 := if w.rebound.isNone && r.settings.learning then
          learnedLead r.settings r.lead16 (c.edge - 4 * (w.start : Int)) w.dynamic (learningDivisor s.ctl.mode) else r.lead16 }) = after := by
      show State.modBell s b _ = _
      simp only [State.modBell, after, ← hlead, Bool.and_eq_true, Option.isNone_iff_eq_none]
      rfl
    have hclose : s.captureClose b w c.edge = if s.globals.strikeReports then after.report (.strike strike) else after := by
      unfold State.captureClose State.strikeReport
      dsimp only
      rw [hafter, hstrike]
    have settled : (s.captureClose b w c.edge).Settled := hs.congr (by simp) (by simp)
    rw [State.settle_settled settled, hclose]

end Sys2Proof.Machine

/-! ### Proofs: a volley that starts a drive (O50) -/

namespace Sys2Proof.Machine

open Sys2Proof

variable {s : State}

/-! #### Nothing waits to be done -/

theorem State.ending_none_iff : s.ending = none ↔ ∀ p q, (s.player p).play = some q → q.endsNow = none := by
  have bind_iff (x : Option Play) : x.bind Play.endsNow = none ↔ ∀ q, x = some q → q.endsNow = none := by cases x <;> simp
  have players : (∀ p q, (s.player p).play = some q → q.endsNow = none) ↔
      (s.player .p0).play.bind Play.endsNow = none ∧ (s.player .p1).play.bind Play.endsNow = none := by
    rw [bind_iff, bind_iff]
    exact ⟨fun h => ⟨h _, h _⟩, fun h p => by cases p; exacts [h.1, h.2]⟩
  rw [players]
  unfold State.ending
  cases (s.player .p0).play.bind Play.endsNow <;> simp

theorem State.incomingReady_none_iff : s.incomingReady = none ↔ ∀ p, (s.player p).play = none → (s.player p).incoming = none := by
  have players : (∀ p, (s.player p).play = none → (s.player p).incoming = none) ↔
      ((s.player .p0).play = none → (s.player .p0).incoming = none) ∧ ((s.player .p1).play = none → (s.player .p1).incoming = none) :=
    ⟨fun h => ⟨h _, h _⟩, fun h p => by cases p; exacts [h.1, h.2]⟩
  rw [players]
  unfold State.incomingReady
  cases (s.player .p0).play <;> cases (s.player .p0).incoming <;> cases (s.player .p1).play <;> cases (s.player .p1).incoming <;> simp

theorem State.freePlayer_none_iff : s.freePlayer = none ↔ ∀ p, (s.player p).isFree = false := by
  have players : (∀ p, (s.player p).isFree = false) ↔ (s.player .p0).isFree = false ∧ (s.player .p1).isFree = false :=
    ⟨fun h => ⟨h _, h _⟩, fun h p => by cases p; exacts [h.1, h.2]⟩
  rw [players]
  unfold State.freePlayer
  cases (s.player .p0).isFree <;> cases (s.player .p1).isFree <;> simp

/-- The Play Engine with every play record changed. -/
def PlayEngine.each (e : PlayEngine) (g : Play → Play) : PlayEngine :=
  { e with
    player0 := { play := e.player0.play.map g, incoming := e.player0.incoming.map g }
    player1 := { play := e.player1.play.map g, incoming := e.player1.incoming.map g }
    waiting := e.waiting.map g }

theorem PlayEngine.each_player (e : PlayEngine) (g : Play → Play) (p : PlayerNo) :
    (e.each g).player p = { play := (e.player p).play.map g, incoming := (e.player p).incoming.map g } := by cases p <;> rfl

theorem State.modPlay_eq (i : Nat) (f : Play → Play) :
    s.modPlay i f = { s with engine := s.engine.each fun q => if i ≠ 0 ∧ q.id = i then f q else q } := by
  unfold State.modPlay
  split
  · next h =>
    have : (fun q : Play => if i ≠ 0 ∧ q.id = i then f q else q) = id := by funext q; simp [h]
    rw [this]
    simp [PlayEngine.each]
  · next h =>
    have : (fun q : Play => if i ≠ 0 ∧ q.id = i then f q else q) = fun q => q.modIf i f := by funext q; simp [h, Play.modIf]
    rw [this]
    rfl

/-- With the plays counted otherwise nothing waits to be done, if none of them now ends. -/
theorem State.Settled.each {t : State} (h : s.Settled) {g : Play → Play} (he : t.engine = s.engine.each g) (hc : t.ctl = s.ctl)
    (hg : ∀ p q, (s.player p).play = some q → (g q).endsNow = none) : t.Settled := by
  have hp (p : PlayerNo) : t.player p = { play := (s.player p).play.map g, incoming := (s.player p).incoming.map g } := by
    rw [State.player, he, PlayEngine.each_player]; rfl
  refine ⟨State.ending_none_iff.mpr fun p q hq => ?_, State.incomingReady_none_iff.mpr fun p hn => ?_, fun hm => ?_⟩
  · rw [hp] at hq
    obtain ⟨q₀, h₀, rfl⟩ := Option.map_eq_some_iff.mp hq
    exact hg p q₀ h₀
  · rw [hp] at hn ⊢
    exact Option.map_eq_none_iff.mpr (State.incomingReady_none_iff.mp h.incoming p (Option.map_eq_none_iff.mp hn))
  · refine (h.waiting (hc ▸ hm)).imp (fun k => State.freePlayer_none_iff.mpr fun p => ?_) fun k => ?_
    · rw [hp]; simpa [Player.isFree] using State.freePlayer_none_iff.mp k p
    · rw [he]; simp [PlayEngine.each, k]

/-! #### The drive -/

/-- A drive start counts an entry of the play from queued to drives (R140). -/
def Entry.dispatched (e : Entry) (q : Play) : Play :=
  if e.playId ≠ 0 ∧ q.id = e.playId then { q with queued := q.queued - 1, drives := q.drives + 1 } else q

theorem Entry.dispatched_stays (e : Entry) {q : Play} (h : q.endsNow = none) : (e.dispatched q).endsNow = none := by
  unfold Entry.dispatched
  split
  · unfold Play.endsNow
    dsimp only
    split <;> exact if_neg (by omega)
  · exact h

theorem State.dispatchEntry_eq (h : s.sched.held = []) (e : Entry) : s.dispatchEntry e = { s with
    sched := { s.sched with queue := withoutEntry e s.sched.queue }, engine := s.engine.each e.dispatched } := by
  unfold State.dispatchEntry
  rw [State.grantSlots_none (by simpa [State.setQueue] using h), State.modPlay_eq]
  rfl

/-- The record of a bell whose drive has just started on an entry (R46). -/
def State.driven (s : State) (e : Entry) : Bell :=
  let r := s.bell e.bell
  let x := r.settings
  let start := e.fire.toNat
  let width := s.widthFor e.bell e.dynamic
  { r with
    hammer := .drive
    drive := some { kind := .strike e.original e.noteTime e.dynamic e.playId, start := start, width := width, cls := x.cls, sampled := false }
    lastDriveStart := some start
    readyTime := some (start + x.recovery)
    window := some (newWindow x e start width)
    heat := min (r.heat + width * x.cls) Config.heatMax }

theorem State.energise_eq {e : Entry} (hh : s.sched.held = []) (hs : (s.bell e.bell).service = .inService)
    (hr : (s.driven e).heat < (s.bell e.bell).settings.heatRest) : s.energise e = { s with
      bells := s.bells.set e.bell (s.driven e)
      drive := { s.drive with inUse := s.drive.inUse + (s.bell e.bell).settings.cls }
      sched := { s.sched with queue := withoutEntry e s.sched.queue }
      engine := s.engine.each e.dispatched } := by
  have outcome : (s.driven e).heatOutcome = none := by
    unfold Bell.heatOutcome
    rw [show (s.driven e).service = .inService from hs]
    exact if_neg (Nat.not_le.mpr hr)
  unfold State.energise
  dsimp only
  rw [State.dispatchEntry_eq (by exact hh)]
  unfold State.accumulate
  rw [State.modBell_modBell, State.heatTest_stays]
  · simp [State.modBell, State.bell, State.driven, Vector.set_set]
  · rw [State.modBell_bell_self, ← outcome]
    simp [State.bell, State.driven, State.modBell]

theorem State.widthFor_eq {b : BellNo} (h : (s.bell b).settings.wMin ≤ 600) (d : Nat) : s.widthFor b d =
    (let x := (s.bell b).settings
     let v := max (s.supply.vMeas.getD s.globals.vNom) (2 * s.globals.vNom / 3)
     let scaled := ((x.wMin + (x.wMax - x.wMin) * (d - 1) / 7) * s.globals.vNom + v / 2) / v
     max x.wMin (min (if x.heatWarn ≤ (s.bell b).heat ∨ s.warn = true then scaled * 3 / 4 else scaled) 600)) :=
  clampNat_eq h

/-- The early close before a drive start, where no edge rose before it (R46, R62, R63). -/
theorem State.earlyClose_eq {b : BellNo} {t : Nat} (h : (s.bell b).window = none ∨ ∃ w, (s.bell b).window = some w ∧
    (∀ c, w.capture = some c → 4 * t ≤ c.rise) ∧ (s.bell b).missRun + 1 < 3 ∧ s.globals.strikeReports = false) :
    s.earlyClose b t = s.modBell b fun r =>
      { r with window := none, missRun := if r.window = none then r.missRun else r.missRun + 1 } := by
  rcases h with h | ⟨w, h, hc, hm, hr⟩
  · rw [State.earlyClose_none h]
    exact (State.modBell_same (by rw [if_pos h, ← h])).symm
  · have hb : (w.before (4 * t)).capture = none := by
      unfold Window.before
      cases hw : w.capture with
      | none => rfl
      | some c => simp [Option.filter, hc c hw]
    unfold State.earlyClose
    rw [State.closeWindow_miss (w := w.before (4 * t)) (by simp [h]) hb, State.missClose_eq, if_neg (by simp; omega), State.missed, State.strikeReport,
      if_neg (by simp [hr]), State.modBell_modBell]
    unfold State.modBell
    simp only [h, Config.missLimit, Nat.min_eq_left (Nat.le_of_lt hm)]
    simp

/-! #### VOLLEY -/

theorem exec_volley_passes (h : ∀ e ∈ s.sched.queue, (s.timer.ms : Int) < e.fire) (currents : Vector Nat 48) :
    exec (.volley currents) s = .next s.transmit := by
  have hd : s.dueEntries = [] := List.filter_eq_nil_iff.mpr fun e he => by
    rw [decide_eq_true_eq]; exact not_le.mpr (h e he)
  show execVolley currents s = _
  unfold execVolley
  rw [hd]
  rfl

theorem exec_volley_one {e : Entry} (h : s.sched.queue.filter (fun y => decide (y.fire ≤ (s.timer.ms : Int))) = [e]) (currents : Vector Nat 48) :
    exec (.volley currents) s = .next (State.transmit ((s.takeEntry currents[e.bell] e).settle)) := by
  have hd : s.dueEntries = [e] := h
  show execVolley currents s = _
  unfold execVolley
  rw [hd]
  rfl

theorem State.queues_of_mem {e : Entry} (h : e ∈ s.sched.queue) : s.queues e = true :=
  List.any_eq_true.mpr ⟨e, h, Entry.same_iff.mpr ⟨rfl, rfl⟩⟩

/-- A bell without a due drive end and not in RETURN has nothing to settle. -/
theorem State.settleDue_stays {b : BellNo} (hd : ∀ d, (s.bell b).drive = some d → d.kind = .testPulse) (hh : (s.bell b).hammer ≠ .swing) (n : Nat) :
    s.settleDue b n = s := by
  have rests : (match (s.bell b).hammer, (s.bell b).readyTime with
      | .swing, some t => if t ≤ s.timer.ms then (s.modBell b fun r => { r with hammer := .idle }).quietPoint b else s
      | _, _ => s) = s := by
    split
    · next h _ => exact absurd h hh
    · rfl
  unfold State.settleDue
  cases hb : (s.bell b).drive with
  | none => exact rests
  | some d => simp only [hd d hb]; exact rests

theorem withoutEntry_eq (e : Entry) (q : List Entry) : withoutEntry e q = q.filter fun y => decide (¬ (y.bell = e.bell ∧ y.noteTime = e.noteTime)) := by
  refine List.filter_congr fun y _ => ?_
  rw [Bool.eq_iff_iff, Bool.not_eq_true', ← Bool.not_eq_true, Entry.same_iff, decide_eq_true_eq, @eq_comm _ e.bell, @eq_comm _ e.noteTime]

/-- One queued entry of a volley, at a bell with nothing due to settle (R36). -/
theorem State.takeEntry_undue {e : Entry} (hq : e ∈ s.sched.queue) (hd : ∀ d, (s.bell e.bell).drive = some d → d.kind = .testPulse)
    (hh : (s.bell e.bell).hammer ≠ .swing) (n : Nat) : s.takeEntry n e =
    if (s.bell e.bell).hammer ≠ .idle then s.deferEntry e
    else if s.drive.inUse + (s.bell e.bell).settings.cls ≤ s.globals.driveBudget then s.driveStart e
    else s.deferEntry e := by
  unfold State.takeEntry
  simp only [State.settleDue_stays hd hh, State.queues_of_mem hq, Bool.not_true, Bool.false_eq_true, if_false]

/-- Settles O50. -/
theorem volleyStartsADrive : Obligations.VolleyStartsADrive := by
  refine ⟨fun currents s h => exec_volley_passes h currents, fun currents e s => ?_⟩
  intro r x vMeas vEff scaled derated width start heat he hs hh hservice hidle hdrive hw hwin hb hheat counted player
  have hmem : e ∈ s.sched.queue := List.mem_of_mem_filter (he ▸ List.mem_singleton_self e)
  have hclose := State.earlyClose_eq (s := s) (b := e.bell) (t := start) hwin
  have hwidth : s.widthFor e.bell e.dynamic = width := State.widthFor_eq hw _
  have htake : s.takeEntry currents[e.bell] e = s.driveStart e := by
    rw [State.takeEntry_undue hmem (fun d hd => by rw [show (s.bell e.bell).drive = none from hdrive] at hd; cases hd)
      (by rw [show (s.bell e.bell).hammer = .idle from hidle]; nofun)]
    exact (if_neg (not_not.mpr hidle)).trans (if_pos hb)
  rw [exec_volley_one he, htake]
  generalize hu : s.modBell e.bell (fun r => { r with window := none, missRun := if r.window = none then r.missRun else r.missRun + 1 }) = u at hclose
  have hub : u.bell e.bell = { r with window := none, missRun := if r.window = none then r.missRun else r.missRun + 1 } := by rw [← hu]; simp [r]
  have huw : u.widthFor e.bell e.dynamic = width := by
    rw [← hwidth, ← hu]
    simp [State.widthFor]
  have hdriven : u.driven e = { r with
      missRun := if r.window = none then r.missRun else r.missRun + 1
      hammer := .drive
      drive := some { kind := .strike e.original e.noteTime e.dynamic e.playId, start := start, width := width, cls := x.cls, sampled := false }
      lastDriveStart := some start
      readyTime := some (start + x.recovery)
      window := some (newWindow x e start width)
      heat := heat } := by
    unfold State.driven
    rw [hub, huw]
    rfl
  have hen := State.energise_eq (s := u) (e := e) (by rw [← hu]; exact hh) (by rw [hub]; exact hservice) (by rw [hdriven, hub]; exact hheat)
  have hstart : s.driveStart e = u.energise e := by
    unfold State.driveStart
    dsimp only
    rw [show e.fire.toNat = start from rfl, hclose]
    exact if_pos (by rw [hub]; exact hservice)
  have hset : u.bells.set e.bell (u.driven e) = s.bells.set e.bell (u.driven e) := by
    rw [← hu]
    simp [State.modBell, Vector.set_set]
  have hq : withoutEntry e u.sched.queue = s.sched.queue.filter fun y => decide (¬ (y.bell = e.bell ∧ y.noteTime = e.noteTime)) := by
    rw [← hu]; exact withoutEntry_eq ..
  have settled : (u.energise e).Settled := by
    rw [hen]
    refine hs.each (g := e.dispatched) ?_ ?_ fun p q hq => e.dispatched_stays (State.ending_none_iff.mp hs.ending p q hq)
    · rw [← hu]; rfl
    · rw [← hu]; rfl
  rw [hstart, State.settle_settled settled, hen, hset, hq, hdriven, hub, ← hu]
  rfl

end Sys2Proof.Machine

/-! ### Proofs: a volley that defers an entry (O51) -/

namespace Sys2Proof.Machine

open Sys2Proof

variable {s : State}

/-! #### The entry goes LATE -/

/-- A removal counts the entry as dropped (R38). -/
def Entry.dropped (e : Entry) (q : Play) : Play :=
  if e.playId ≠ 0 ∧ q.id = e.playId then { q with queued := q.queued - 1, dropped := q.dropped + 1 } else q

/-- Two entries of one bell and note time are one. -/
theorem State.QueueLaw.filter_same (h : s.QueueLaw) {e : Entry} (he : e ∈ s.sched.queue) : s.sched.queue.filter e.same = [e] := by
  have nodup : s.sched.queue.Nodup := (State.queueLaw_iff.mp h).1.nodup
  have only (y : Entry) (hy : y ∈ s.sched.queue) (hs : e.same y = true) : y = e := by
    obtain ⟨hb, hn⟩ := Entry.same_iff.mp hs
    have mem (x : Entry) (hx : x ∈ s.sched.queue) (hxb : x.bell = e.bell) : x ∈ s.entriesOf e.bell := List.mem_filter.mpr ⟨hx, decide_eq_true hxb⟩
    exact apart_eq ((State.queueLaw_iff.mp h).1.entriesOf_apart e.bell) (mem y hy hb.symm) (mem e he rfl) hn.symm
  refine List.perm_singleton.mp ((List.perm_ext_iff_of_nodup (nodup.filter _) (List.nodup_singleton e)).mpr fun y => ?_)
  rw [List.mem_filter, List.mem_singleton]
  exact ⟨fun ⟨hy, hs⟩ => only y hy hs, fun hy => by rw [hy]; exact ⟨he, Entry.same_iff.mpr ⟨rfl, rfl⟩⟩⟩

theorem State.takeOut_one {p : Entry → Bool} {e : Entry} (h : s.sched.queue.filter p = [e]) : s.takeOut p = { s with
    sched := { s.sched with queue := s.sched.queue.filter fun y => !p y }, engine := s.engine.each e.dropped } := by
  unfold State.takeOut
  rw [h]
  show State.countRemoved _ e = _
  unfold State.countRemoved
  rw [State.modPlay_eq]
  rfl

theorem State.removeEntries_one {p : Entry → Bool} {e : Entry} (h : s.sched.queue.filter p = [e]) :
    s.removeEntries p = ((s.takeOut p).grantSlots).quietPoint e.bell := by
  unfold State.removeEntries
  rw [h]
  rfl

/-- The removal of one entry that grants no note and reaches no quiet point. -/
theorem State.removeEntries_plain {p : Entry → Bool} {e : Entry} (h : s.sched.queue.filter p = [e]) (hh : s.sched.held = [])
    (hq : (s.bell e.bell).pending = none ∨ (s.bell e.bell).hammer ≠ .idle ∨ ∃ y ∈ s.sched.queue, p y = false ∧ y.bell = e.bell) :
    s.removeEntries p = { s with
      sched := { s.sched with queue := s.sched.queue.filter fun y => !p y }, engine := s.engine.each e.dropped } := by
  rw [State.removeEntries_one h, State.takeOut_one h, State.grantSlots_none (by exact hh), State.quietPoint_stays]
  refine hq.imp_right fun hq => Bool.eq_false_iff.mpr fun k => ?_
  obtain ⟨k1, k2⟩ := State.quiet_iff.mp k
  rcases hq with hq | ⟨y, hy, hp, hb⟩
  · exact hq k2
  · exact k1 y (List.mem_filter.mpr ⟨hy, by rw [hp]; rfl⟩) hb

theorem State.deferable_iff {e : Entry} {fire : Int} : s.deferable e fire = true ↔ fire ≤ e.origFire + (s.bell e.bell).settings.slack ∧
    ∀ y ∈ s.sched.queue, y.bell = e.bell → y.noteTime ≠ e.noteTime → ((s.bell e.bell).settings.recovery : Int) ≤ |y.fire - fire| := by
  unfold State.deferable State.entriesOf
  dsimp only
  rw [Bool.and_eq_true, decide_eq_true_eq, List.all_eq_true]
  refine and_congr_right fun _ => ⟨fun h y hy hb hn => ?_, fun h y hy => ?_⟩
  · have := h y (List.mem_filter.mpr ⟨hy, decide_eq_true hb⟩)
    rw [Bool.or_eq_true, Entry.same_iff, decide_eq_true_eq] at this
    exact this.resolve_left fun k => hn k.2.symm
  · obtain ⟨hy, hb⟩ := List.mem_filter.mp hy
    rw [decide_eq_true_eq] at hb
    rw [Bool.or_eq_true, Entry.same_iff, decide_eq_true_eq]
    by_cases hn : y.noteTime = e.noteTime
    · exact .inl ⟨hb.symm, hn.symm⟩
    · exact .inr (h y hy hb hn)

theorem State.deferEntry_moves {e : Entry} (h : s.deferable e (e.fire + s.globals.stagger) = true) :
    s.deferEntry e = s.setQueue (placeEntry { e with fire := e.fire + s.globals.stagger } (withoutEntry e s.sched.queue)) := by
  unfold State.deferEntry
  exact if_pos h

theorem State.deferEntry_late {e : Entry} (h : ¬ s.deferable e (e.fire + s.globals.stagger) = true) :
    s.deferEntry e = (s.noteReport { reason := .late, atOffer := false, note := e }).removeEntries e.same := by
  unfold State.deferEntry
  exact if_neg h

/-! #### No entry of the note comes back -/

/-- The bell has no entry of the note time, and the plays still to be fed have their notes after it. -/
structure State.Passed (s : State) (b : BellNo) (noteTime : Int) (a : List PlayerNo) : Prop where
  versions : s.VersionsSound
  recent : noteTime ≤ s.timer.ms + 400
  gone : ∀ y ∈ s.sched.queue, y.bell = b → y.noteTime ≠ noteTime
  later : ∀ p ∈ a, ∀ q, (s.player p).play = some q → ∀ st, q.start = some st → noteTime < st - 50

theorem State.nextNote_after {q : Play} {b : BellNo} {t : Int} {d : Nat} (h : s.VersionsSound) (hn : s.nextNote q = some (b, t, d)) :
    ∃ st, q.start = some st ∧ st - 50 ≤ t := by
  unfold State.nextNote at hn
  split at hn
  · next st _ _ interval _ hst _ =>
    split at hn
    · cases hn
      refine ⟨st, hst, ?_⟩
      have : (0 : Int) ≤ (q.nextIndex : Int) * (interval : Int) := Int.mul_nonneg (Int.natCast_nonneg _) (Int.natCast_nonneg _)
      omega
    · cases hn
  · next st i serial hst _ =>
    obtain ⟨v, hv, he⟩ := Option.bind_eq_some_iff.mp hn
    obtain ⟨e, hev, he⟩ := Option.map_eq_some_iff.mp he
    cases he
    have hr := (State.versionsLaw_iff.mpr h).ranged i v (List.mem_of_find?_eq_some hv) e (List.mem_of_getElem? hev)
    refine ⟨st, hst, ?_⟩
    have : (0 : Int) ≤ (e.step : Int) * (v.stepLength : Int) := Int.mul_nonneg (Int.natCast_nonneg _) (Int.natCast_nonneg _)
    omega
  · cases hn

/-- A play that starts holds its player alone, from its intended start or 500 ms from now, or its player is free (R145). -/
theorem State.startPlay_engine (p : PlayerNo) (q : Play) : ∃ x : Player, (s.startPlay p q).engine = s.engine.setPlayer p x ∧ x.incoming = none ∧
    (x.play = none ∨ ∃ k, x.play = some (s.running q k)) := by
  unfold State.startPlay
  dsimp only
  split
  · exact ⟨_, rfl, rfl, .inr ⟨_, rfl⟩⟩
  · split
    · exact ⟨_, rfl, rfl, .inr ⟨_, rfl⟩⟩
    · exact ⟨Player.free, by simp [State.finish, State.setPlayer], rfl, .inl rfl⟩

/-- The end of a play leaves its player without one, and its INCOMING play. -/
theorem State.endPlay_engine (p : PlayerNo) (o : PlayOutcome) :
    (s.endPlay p o).engine = s.engine.setPlayer p { play := none, incoming := (s.player p).incoming } := by
  unfold State.endPlay
  split
  · simp [State.finish, State.setPlayer]
  · next h =>
    cases p <;> simp only [State.player, PlayEngine.player] at h ⊢ <;> simp only [PlayEngine.setPlayer, ← h]

theorem State.drainIfDone_player (p p' : PlayerNo) {q : Play} (h : ((s.drainIfDone p).player p').play = some q) :
    ∃ q₀, (s.player p').play = some q₀ ∧ (q = q₀ ∨ p = p' ∧ q₀.state = .feeding ∧ q = { q₀ with state := .draining }) := by
  unfold State.drainIfDone at h
  split at h
  · next q₀ hq =>
    split at h
    · next hf =>
      by_cases hp : p = p'
      · subst hp
        simp only [State.setPlayer_player_self, Option.some.injEq] at h
        exact ⟨q₀, hq, .inr ⟨rfl, hf.1, h.symm⟩⟩
      · rw [State.setPlayer_player_ne _ hp] at h
        exact ⟨q, h, .inl rfl⟩
    · exact ⟨q, h, .inl rfl⟩
  · exact ⟨q, h, .inl rfl⟩

theorem PlayEngine.player_setPlayer_self (e : PlayEngine) (p : PlayerNo) (x : Player) : (e.setPlayer p x).player p = x := by cases p <;> rfl

theorem PlayEngine.player_setPlayer_ne (e : PlayEngine) {p p' : PlayerNo} (h : p ≠ p') (x : Player) : (e.setPlayer p x).player p' = e.player p' := by
  cases p <;> cases p' <;> simp_all [PlayEngine.setPlayer, PlayEngine.player]

namespace State.Passed

variable {b : BellNo} {n : Int} {a : List PlayerNo}

theorem feedOne {p : PlayerNo} (h : s.Passed b n (p :: a)) : (s.feedOne p).2.Passed b n (p :: a) where
  versions := State.versionsSound_kept.feedOne h.versions p
  recent := by simpa using h.recent
  gone y hy hb := by
    rcases (State.feedOne_brings (s := s) p).queue y hy with ⟨x, hx, hxy⟩ | hf
    · rw [← hxy.noteTime]; exact h.gone x hx (hxy.bell.trans hb)
    · obtain ⟨-, q, c, d, hq, hn, -⟩ := hf
      obtain ⟨st, hst, hle⟩ := State.nextNote_after h.versions hn
      have hplay : (s.player p).play = some q := by
        unfold State.feeder at hq
        split at hq
        · next hp =>
          split at hq
          · cases hq; exact hp
          · cases hq
        · cases hq
      have := h.later p List.mem_cons_self q hplay st hst
      omega
  later := by
    refine State.feedOne_engine (P := fun e => ∀ p' ∈ p :: a, ∀ q, (e.player p').play = some q → ∀ st, q.start = some st → n < st - 50)
      (fun i _ t f hf ht p' hp' q hq st hst => ?_) (fun t ht p' hp' q hq st hst => ?_) h.later
    · rw [State.modPlay_eq, PlayEngine.each_player] at hq
      obtain ⟨q₀, h₀, rfl⟩ := Option.map_eq_some_iff.mp hq
      refine ht p' hp' q₀ h₀ st ?_
      split at hst
      · rw [← hf.start]; exact hst
      · exact hst
    · obtain ⟨q₀, h₀, hq⟩ := State.drainIfDone_player p p' hq
      refine ht p' hp' q₀ h₀ st ?_
      rcases hq with rfl | ⟨-, -, rfl⟩ <;> exact hst

theorem startPlay {t : State} (h : s.Passed b n []) (p : PlayerNo) (q : Play) (hv : (t.startPlay p q).VersionsSound) (ht : t.timer = s.timer)
    (hs : t.sched = s.sched) : (t.startPlay p q).Passed b n [p] where
  versions := hv
  recent := by simpa [ht] using h.recent
  gone := by simpa [hs] using h.gone
  later p' hp' q' hq' st hst := by
    obtain rfl := List.mem_singleton.mp hp'
    obtain ⟨x, he, -, hx⟩ := State.startPlay_engine (s := t) p' q
    rw [State.player, he, PlayEngine.player_setPlayer_self] at hq'
    rcases hx with hx | ⟨k, hx⟩
    · rw [hx] at hq'; cases hq'
    · rw [hx] at hq'; cases hq'
      have h1 : max q.s0 (t.now + Config.lateStart) = st := Option.some.inj hst
      have h2 : n ≤ t.timer.ms + 400 := by rw [ht]; exact h.recent
      have h3 : t.now + 500 ≤ st := h1 ▸ le_max_right _ _
      have h4 : t.now = t.timer.ms := rfl
      omega

/-- The consequences of an event bring no entry of a note whose time has passed. -/
theorem settle (h : s.Passed b n []) : s.settle.Passed b n [] := by
  refine State.settleFrom_induct (P := fun a s => s.Passed b n a) (fun a s p o _ h => ?_) (fun p a s h => h.feedOne)
    (fun p a s h => ⟨h.versions, h.recent, h.gone, fun p' hp' => h.later p' (List.mem_cons_of_mem _ hp')⟩) (fun s p q hr h => ?_)
    (fun s q rest hw h => ?_) (fun s p q rest hm hp hw h => ?_) _ _ s h
  · refine ⟨State.versionsSound_kept.endPlay h.versions p o, by simpa using h.recent, by simpa using h.gone, fun p' hp' q hq => h.later p' hp' q ?_⟩
    rw [State.player, State.endPlay_engine] at hq
    by_cases hpp : p = p'
    · rw [hpp, PlayEngine.player_setPlayer_self] at hq; cases hq
    · rwa [PlayEngine.player_setPlayer_ne _ hpp] at hq
  · obtain ⟨h1, h2⟩ := State.incomingReady_eq hr
    exact h.startPlay p q (State.versionsSound_kept.begun _ _ _ h1 h2 h.versions) rfl rfl
  · exact ⟨State.versionsSound_kept.finish (State.versionsSound_kept.dropped _ _ (hw ▸ List.sublist_cons_self q rest) h.versions)
      (h.versions.waiting (hw ▸ List.mem_cons_self)) _, by simpa using h.recent, by simpa using h.gone, fun p' hp' => by cases hp'⟩
  · exact h.startPlay p q (State.versionsSound_kept.startWaiting h.versions hp hw hm) rfl rfl

end State.Passed

/-- A NOTE report does not ask for the queue or the plays. -/
theorem State.noteReport_moves (r : NoteReport) (x : Scheduler) (e : PlayEngine) :
    ({ s.noteReport r with sched := x, engine := e } : State) = State.noteReport { s with sched := x, engine := e } r := by
  unfold State.noteReport State.report
  dsimp only
  repeat' split
  all_goals rfl

/-- Settles O51. -/
theorem volleyDefersAnEntry : Obligations.VolleyDefersAnEntry := by
  intro currents e s hlaw hs he r hbell fire allowed rest counted player reported
  have hmem : e ∈ s.sched.queue ∧ e.fire ≤ s.timer.ms := by
    have := he ▸ List.mem_singleton_self e
    exact ⟨List.mem_of_mem_filter this, of_decide_eq_true (List.mem_filter.mp this).2⟩
  have hsame := hlaw.filter_same hmem.1
  have htake : s.takeEntry currents[e.bell] e = s.deferEntry e := by
    rcases hbell with ⟨hh, hd, hb⟩ | ⟨hh, d, hd, hk⟩
    · rw [State.takeEntry_undue hmem.1 (fun d hd' => by rw [show (s.bell e.bell).drive = none from hd] at hd'; cases hd')
        (by rw [show (s.bell e.bell).hammer = .idle from hh]; nofun)]
      exact (if_neg (not_not.mpr hh)).trans (if_neg (Nat.not_le.mpr hb))
    · rw [State.takeEntry_undue hmem.1 (fun d' hd' => by rw [show (s.bell e.bell).drive = some d from hd] at hd'; cases hd'; exact hk)
        (by rw [show (s.bell e.bell).hammer = .drive from hh]; nofun)]
      exact if_pos (by rw [show (s.bell e.bell).hammer = .drive from hh]; nofun)
  have hallowed : s.deferable e (e.fire + s.globals.stagger) = true ↔ allowed := State.deferable_iff
  have hrest : (s.sched.queue.filter fun y => !e.same y) = rest := withoutEntry_eq e s.sched.queue
  rw [exec_volley_one he, htake]
  refine ⟨fun ha => ?_, fun ha hheld hq hends => ?_, fun ha hv => ?_⟩
  · rw [State.deferEntry_moves (hallowed.mpr ha), State.settle_settled (hs.congr (by rfl) (by rfl)), withoutEntry_eq]
    rfl
  · rw [State.deferEntry_late (mt hallowed.mp ha)]
    generalize hu : s.noteReport { reason := .late, atOffer := false, note := e } = u
    have huq : u.sched = s.sched := by rw [← hu]; simp
    have hue : u.engine = s.engine := by rw [← hu]; simp
    have huc : u.ctl = s.ctl := by rw [← hu]; simp
    have hub (c : BellNo) : u.bell c = s.bell c := by rw [← hu]; exact State.bell_congr (by simp) c
    have hplain := State.removeEntries_plain (s := u) (p := e.same) (e := e) (by rw [huq]; exact hsame) (by rw [huq]; exact hheld) (by
      rw [hub, huq]
      refine hq.imp_right (Or.imp_right fun ⟨y, hy, hb⟩ => ?_)
      obtain ⟨hy, hn⟩ := List.mem_filter.mp hy
      refine ⟨y, hy, Bool.eq_false_iff.mpr fun k => of_decide_eq_true hn ?_, hb⟩
      exact ⟨hb, (Entry.same_iff.mp k).2.symm⟩)
    have settled : (u.removeEntries e.same).Settled := by
      rw [hplain]
      exact hs.each (g := e.dropped) (by rw [hue]) huc fun p q hq => hends p q hq
    rw [State.settle_settled settled, hplain, huq, hue, hrest, ← hu, State.noteReport_moves]
    unfold State.noteReport
    rfl
  · rw [State.deferEntry_late (mt hallowed.mp ha)]
    generalize hu : s.noteReport { reason := .late, atOffer := false, note := e } = u
    have huq : u.sched = s.sched := by rw [← hu]; simp
    have hub (c : BellNo) : u.bell c = s.bell c := by rw [← hu]; exact State.bell_congr (by simp) c
    have hut : u.timer = s.timer := by rw [← hu]; simp
    have hone : u.sched.queue.filter e.same = [e] := by rw [huq]; exact hsame
    have passed : (u.removeEntries e.same).Passed e.bell e.noteTime [] := by
      refine ⟨State.versionsSound_kept.removeEntries (hu ▸ State.versionsSound_kept.noteReport (State.versionsLaw_iff.mp hv) _) _, ?_, ?_,
        fun p hp => by cases hp⟩
      · have h1 := hlaw.lead e hmem.1
        have h2 := (hlaw.slack e hmem.1).1
        have h3 := hmem.2
        have h4 : (u.removeEntries e.same).timer = s.timer := by simp [hut]
        rw [h4]
        omega
      · intro y hy hb hn
        rw [State.removeEntries_queue, List.mem_filter] at hy
        rw [Entry.same_iff.mpr ⟨hb.symm, hn.symm⟩] at hy
        exact absurd hy.2 (by decide)
    have ne (c : BellNo) (hc : c ≠ e.bell) : (u.removeEntries e.same).bell c = s.bell c := by
      rw [State.removeEntries_one hone, State.quietPoint_ne hc.symm]
      simp [hub]
    have coil : r.SameCoil ((u.removeEntries e.same).bell e.bell) := by
      have := State.quietPoint_sameCoil (s := (u.takeOut e.same).grantSlots) e.bell e.bell
      rw [← State.removeEntries_one hone] at this
      simpa [hub] using this
    obtain ⟨l1, l2, l3, l4, l5, -, -, -, l9, -, l11, l12⟩ := State.removeEntries_frame (s := u) e.same
    generalize u.removeEntries e.same = v at *
    obtain ⟨f1, f2, f3, f4, f5, f6, f7, f8, f9, f10, f11, f12⟩ := State.settle_frame (s := v)
    refine ⟨v.settle, rfl, passed.settle.gone, fun c hc => ?_, ?_, ?_, ?_, ?_, ?_, ?_, ?_, ?_, ?_, ?_⟩
    · rw [State.settle_bell, ne c hc]
    · rw [State.settle_bell, coil.hammer]
    · rw [State.settle_bell, coil.drive]
    · rw [f6, l5, ← hu]; simp
    · rw [f1, l1, ← hu]; simp
    · rw [f2, l2, ← hu]; simp
    · rw [f3, l3, ← hu]; simp
    · rw [f4, l4, ← hu]; simp
    · rw [f10, l9, ← hu]; simp
    · rw [f11, l11, ← hu]; simp
    · rw [f12, l12, ← hu]; simp

end Sys2Proof.Machine

/-! ### Proofs: LIVE NOTE (O46, O47) -/

namespace Sys2Proof.Machine

open Sys2Proof

variable {s : State}

/-! #### The lead -/

theorem leadMs_eq {x : Settings} (h : x.leadMin < x.leadMax) (l d : Nat) : leadMs x l d =
    (max (16 * (x.leadMin : Int)) (min ((l : Int) + x.slope * (5 - (d : Int))) (16 * x.leadMax)) + 8) / 16 := by
  unfold leadMs
  rw [clampInt_max_min (by omega)]

theorem leadMs_within {x : Settings} (h : x.leadMin < x.leadMax) (l d : Nat) : (x.leadMin : Int) ≤ leadMs x l d ∧ leadMs x l d ≤ x.leadMax := by
  rw [leadMs_eq h]
  omega

/-! #### A note with nothing in its way -/

/-- An examination that meets no clash places the note as it is (R27). -/
theorem examine_clear {recovery slack : Nat} {others removed : List Entry} {e : Entry} : ∀ {fuel : Nat} {todo : List Entry}, todo.length < fuel →
    (∀ x ∈ todo, x.clashes recovery e = false) → examine recovery slack fuel todo others removed e = .place e others removed
  | fuel + 1, [], _, _ => rfl
  | fuel + 1, x :: todo, hf, hc => by
    unfold examine
    rw [hc x List.mem_cons_self]
    exact examine_clear (Nat.lt_of_succ_lt_succ hf) fun y hy => hc y (List.mem_cons_of_mem _ hy)

/-- The insertion of a note that moves and removes none. -/
theorem State.insert_clear (h : s.sched.held = []) (e : Entry) : s.insert e (s.entriesOf e.bell) [] = { s with sched := s.sched.withEntry e } := by
  have hq : insertQueue e (s.entriesOf e.bell) s.sched.queue = placeEntry e s.sched.queue :=
    insertQueue_unmoved (fun y hy hb => List.mem_filter.mpr ⟨hy, decide_eq_true hb⟩) fun y hy => List.mem_of_mem_filter hy
  rw [State.insert_eq, State.grantSlots_none]
  · simp only [List.any_nil, List.filter_false]
    unfold State.inserting
    rw [hq]
    rfl
  · simp [State.dropConflicting_sched, State.inserting, h]

/-- The examination of a note against the bell's entries, and what comes of it (R27 to R31). -/
def State.examined (s : State) (e : Entry) : OfferOutcome × State :=
  match examine (s.bell e.bell).settings.recovery (s.bell e.bell).settings.slack examineFuel (s.entriesOf e.bell) (s.entriesOf e.bell) [] e with
  | .drop o => (.conflict e.origFire o, s.offerReport (.conflict o) { e with fire := e.origFire })
  | .place e others removed =>
    if s.slotsTaken < Config.queueCap + removed.length then (if e.late then .queuedLate e else .queued e, s.insert e others removed)
    else (.noSpace, s)

/-- The hammer is ready by the note's fire time (R26). -/
theorem State.offerPlace_ready {e : Entry} (h : ∀ t, (s.bell e.bell).readyTime = some t → (t : Int) ≤ e.fire) : s.offerPlace e = s.examined e := by
  unfold State.offerPlace State.examined
  dsimp only
  cases hr : (s.bell e.bell).readyTime with
  | none => rfl
  | some t => simp only [if_pos (h t hr)] <;> rfl

theorem State.offerPlace_clear {e : Entry} (hh : s.sched.held = []) (h : s.Admits e.bell e.noteTime e.fire) :
    s.offerPlace e = (if e.late then .queuedLate e else .queued e, { s with sched := s.sched.withEntry e }) := by
  have hfuel : (s.entriesOf e.bell).length < examineFuel := by
    have h1 : (s.entriesOf e.bell).length ≤ s.sched.queue.length := List.length_filter_le ..
    have h2 : s.slotsTaken < 64 := h.room
    have h3 : s.slotsTaken = s.sched.queue.length + s.sched.granted.length := rfl
    unfold examineFuel
    omega
  have hex := examine_clear (recovery := (s.bell e.bell).settings.recovery) (slack := (s.bell e.bell).settings.slack) (others := s.entriesOf e.bell)
    (removed := []) hfuel fun x hx => Entry.clashes_iff.mpr (by
      obtain ⟨hx, hb⟩ := List.mem_filter.mp hx
      exact h.clear x hx (of_decide_eq_true hb))
  rw [State.offerPlace_ready h.ready, State.examined, hex]
  exact (if_pos h.room).trans (by rw [State.insert_clear hh])

/-! #### The offer -/

section
variable {o : Offer} {b : BellNo} {original : Option BellNo}

theorem State.offer_unready (h : s.ctl.mode ≠ .active) (h' : s.ctl.mode ≠ .commission) (o : Offer) : s.offer o = (.wrongMode, s) := if_pos ⟨h, h'⟩

theorem State.offer_bellOut (hm : s.ctl.mode = .active ∨ s.ctl.mode = .commission) (hr : s.receiver o.bell = none) : s.offer o = (.bellOut, s) := by
  unfold State.offer
  rw [if_neg (by rcases hm with hm | hm <;> simp [hm])]
  dsimp only
  rw [hr]

/-- What an offer comes to once its bell is known (R23, R24). -/
theorem State.offer_received (hm : s.ctl.mode = .active ∨ s.ctl.mode = .commission) (hr : s.receiver o.bell = some (b, original)) {d : Nat}
    (hd : clampNat o.dynamic 1 8 = d) {noteTime : Int} (ht : o.noteTime.getD (s.timer.ms + s.lead b d) = noteTime) :
    s.offer o =
      (let e := s.entryOf b original noteTime d o.priority o.source o.playId
       if (s.timer.ms : Int) ≤ noteTime - s.lead b d then s.offerPlace e
       else if (s.timer.ms : Int) - (noteTime - s.lead b d) ≤ (s.bell b).settings.slack then s.offerPlace { e with fire := s.timer.ms, late := true }
       else (.late (noteTime - s.lead b d), s.offerReport .late e)) := by
  subst hd ht
  unfold State.offer
  rw [if_neg (by rcases hm with hm | hm <;> simp [hm])]
  dsimp only
  rw [hr]
  rfl

theorem State.offer_queued (hh : s.sched.held = []) (hr : s.receiver o.bell = some (b, original)) {d : Nat} (hd : clampNat o.dynamic 1 8 = d)
    {noteTime : Int} (ht : o.noteTime.getD (s.timer.ms + s.lead b d) = noteTime) (hf : (s.timer.ms : Int) ≤ noteTime - s.lead b d)
    (h : s.Admits b noteTime (noteTime - s.lead b d)) :
    s.offer o = (.queued (s.entryOf b original noteTime d o.priority o.source o.playId),
      { s with sched := s.sched.withEntry (s.entryOf b original noteTime d o.priority o.source o.playId) }) := by
  rw [State.offer_received h.mode hr hd ht]
  refine (if_pos hf).trans ?_
  rw [State.offerPlace_clear hh (by exact h)]
  rfl

theorem State.offer_late (hm : s.ctl.mode = .active ∨ s.ctl.mode = .commission) (hr : s.receiver o.bell = some (b, original)) {d : Nat}
    (hd : clampNat o.dynamic 1 8 = d) {noteTime : Int} (ht : o.noteTime.getD (s.timer.ms + s.lead b d) = noteTime)
    (hl : noteTime - s.lead b d + (s.bell b).settings.slack < s.timer.ms) :
    s.offer o = (.late (noteTime - s.lead b d), s.offerReport .late (s.entryOf b original noteTime d o.priority o.source o.playId)) := by
  rw [State.offer_received hm hr hd ht]
  exact (if_neg (by omega)).trans (if_neg (by omega))

theorem State.offer_queuedLate (hh : s.sched.held = []) (hr : s.receiver o.bell = some (b, original)) {d : Nat} (hd : clampNat o.dynamic 1 8 = d)
    {noteTime : Int} (ht : o.noteTime.getD (s.timer.ms + s.lead b d) = noteTime) (hf : noteTime - s.lead b d < s.timer.ms)
    (hs : (s.timer.ms : Int) ≤ noteTime - s.lead b d + (s.bell b).settings.slack) (h : s.Admits b noteTime s.timer.ms) :
    s.offer o =
      (let e : Entry := { s.entryOf b original noteTime d o.priority o.source o.playId with fire := s.timer.ms, late := true }
       (.queuedLate e, { s with sched := s.sched.withEntry e })) := by
  rw [State.offer_received h.mode hr hd ht]
  refine (if_neg (not_le.mpr hf)).trans ((if_pos (by omega)).trans ?_)
  rw [State.offerPlace_clear hh (by exact h)]
  rfl

end

/-! #### LIVE NOTE -/

theorem ownLiveNote_offer (b : BellNo) {m : Nat} (h : m ≤ 1) (d n : Nat) {o : OfferOutcome} {t : State}
    (e : s.offer { bell := b, noteTime := if m = 0 then none else some n, dynamic := d, priority := s.globals.livePriority, source := .live, playId := 0 } =
      (o, t)) : ownLiveNote b.val d m n s = (o.result, .liveNote o, o.follow t) := by
  unfold ownLiveNote
  simp only [bellOf_val, if_neg (Nat.not_lt.mpr h), e]

theorem State.receiver_of_served {b : BellNo} (h : (s.bell b).service = .inService) : s.receiver b = some (b, none) := if_pos h

theorem State.receiver_of_substitute {b c : BellNo} (h : (s.bell b).service ≠ .inService) (hc : (s.bell b).settings.substitute = some c)
    (hs : (s.bell c).service = .inService) : s.receiver b = some (c, some b) := by
  unfold State.receiver
  rw [if_neg h, hc]
  exact if_pos hs

theorem State.receiver_none {b : BellNo} (h : (s.bell b).service ≠ .inService)
    (hc : ∀ c, (s.bell b).settings.substitute = some c → (s.bell c).service ≠ .inService) : s.receiver b = none := by
  unfold State.receiver
  rw [if_neg h]
  split
  · next c hs => exact if_neg (hc c hs)
  · rfl

/-- Settles O46. -/
theorem liveNotesAreOffered : Obligations.LiveNotesAreOffered := by
  refine ⟨fun x l d h => ⟨leadMs_eq h l d, leadMs_within h l d⟩, fun tag bell dynamic time s h => ⟨fun n m hn => ?_, fun m hm => ?_, fun h1 h2 m hm => ?_,
    fun hmode m hm hs hc => ?_, fun b original hb => ?_⟩⟩
  · refine takeRequest_owned h ?_ ..
    unfold ownLiveNote
    rw [bellOf_none hn]
  · refine takeRequest_owned h ?_ ..
    unfold ownLiveNote
    rw [bellOf_val]
    exact if_pos hm
  · exact takeRequest_owned h (ownLiveNote_offer bell hm _ _ (State.offer_unready h1 h2 _)) ..
  · exact takeRequest_owned h (ownLiveNote_offer bell hm _ _ (State.offer_bellOut hmode (State.receiver_none hs hc))) ..
  · intro d e late queued
    have hr : s.receiver bell = some (b, original) := by
      rcases hb with ⟨h1, rfl, rfl⟩ | ⟨h1, h2, h3, rfl⟩
      · exact State.receiver_of_served h1
      · exact State.receiver_of_substitute h1 h2 h3
    have hd : clampNat dynamic 1 8 = d := clampNat_eq (by decide)
    refine ⟨fun hmode hlate => ?_, fun hlaw hs hh => ⟨fun hf ha => ?_, fun hf hsl ha => ?_, fun ha => ?_⟩⟩
    · exact takeRequest_owned h (ownLiveNote_offer bell (m := 1) (by decide) dynamic time (State.offer_late (noteTime := time) hmode hr hd rfl hlate)) ..
    · refine takeRequest_owned h ((ownLiveNote_offer bell (m := 1) (by decide) dynamic time (State.offer_queued (noteTime := time) hh hr hd rfl hf ha)).trans ?_) ..
      rw [OfferOutcome.follow, State.settle_settled (hs.congr (by rfl) (by rfl))]
      rfl
    · refine takeRequest_owned h ((ownLiveNote_offer bell (m := 1) (by decide) dynamic time (State.offer_queuedLate (noteTime := time) hh hr hd rfl hf hsl ha)).trans ?_) ..
      dsimp only
      rw [OfferOutcome.follow, State.settle_settled (hs.congr (by rfl) (by rfl))]
      rfl
    · have hfire : (s.timer.ms : Int) + s.lead b d - s.lead b d = s.timer.ms := add_sub_cancel_right _ _
      refine takeRequest_owned h ((ownLiveNote_offer bell (m := 0) (by decide) dynamic time (State.offer_queued (noteTime := s.timer.ms + s.lead b d) hh hr hd rfl (le_of_eq hfire.symm) ?_)).trans ?_) ..
      · exact (congrArg (s.Admits b _) hfire).mpr ha
      · rw [OfferOutcome.follow, State.settle_settled (hs.congr (by rfl) (by rfl))]
        rfl

/-! #### A conflict without slack -/

/-- The one entry clashes with the note, outranks it, and neither can move: the note is dropped (R27, R28). -/
theorem examine_outranked {recovery : Nat} {x e : Entry} (hc : x.clashes recovery e = true) (ho : x.outranks e = true)
    (hs : e.origFire < x.fire + recovery) : examine recovery 0 examineFuel [x] [x] [] e = .drop x.asOutranker := by
  show examine recovery 0 (8191 + 1) _ _ _ _ = _
  unfold examine
  rw [hc, ho]
  exact (if_neg (by decide)).trans ((if_pos rfl).trans (if_neg fun k => by have := k.2; omega))

/-- The one entry clashes with the note, is outranked by it, and cannot move: it is removed (R27, R28). -/
theorem examine_outranking {recovery : Nat} {x e : Entry} (hc : x.clashes recovery e = true) (ho : x.outranks e = false)
    (hs : x.origFire < e.fire + recovery) : examine recovery 0 examineFuel [x] [x] [] e = .place e [] [x] := by
  show examine recovery 0 (8191 + 1) _ _ _ _ = _
  unfold examine
  rw [hc, ho]
  refine (if_neg (by decide)).trans ((if_neg (by decide)).trans ((if_neg fun k => by have := k.2.1; omega).trans ?_))
  have : withoutEntry x [x] = [] := by simp [withoutEntry, Entry.same]
  rw [this]
  rfl

/-- The insertion of a note that removes one live entry without a report. -/
theorem State.insert_replaces {e x : Entry} (hx : s.sched.queue.filter x.same = [x]) (hp : x.playId = 0) (hr : s.globals.noteReports = false)
    (hh : s.sched.held = []) : s.insert e [] [x] = { s with sched := { s.sched with
      queue := placeEntry e (s.sched.queue.filter fun y => decide (y.bell ≠ e.bell)), nextNumber := nextEntryNumber s.sched.nextNumber } } := by
  have hgone : (s.sched.queue.filter fun y => [x].any y.same) = [x] :=
    (List.filter_congr fun y _ => by simp [Entry.same, eq_comm]).trans hx
  have hq : insertQueue e [] s.sched.queue = placeEntry e (s.sched.queue.filter fun y => decide (y.bell ≠ e.bell)) := by
    simp [insertQueue]
  rw [State.insert_eq, hgone, State.grantSlots_none (by simp [State.dropConflicting_sched, State.inserting, hh])]
  simp only [State.dropConflicting, List.foldl_cons, List.foldl_nil, State.countRemoved, hp, State.modPlay, if_true, State.noteReport, State.inserting, hr,
    Bool.false_eq_true, if_false, hq]

/-- Settles O47. -/
theorem conflictsKeepTheOutrankingNote : Obligations.ConflictsKeepTheOutrankingNote := by
  intro tag b d time s x h hlaw hmode hb hslack hready hd hd8 hrec hx hfire hclash e outranks
  have hmem : x ∈ s.sched.queue ∧ x.bell = b := by
    have := hx ▸ List.mem_singleton_self x
    exact ⟨List.mem_of_mem_filter this, of_decide_eq_true (List.mem_filter.mp this).2⟩
  have hc : x.clashes (s.bell b).settings.recovery e = true := by
    unfold Entry.clashes
    rw [Bool.or_eq_true, decide_eq_true_eq]
    exact .inl hclash
  have ho : x.outranks e = true ↔ outranks := by
    unfold Entry.outranks
    rw [Bool.or_eq_true, Bool.and_eq_true, decide_eq_true_eq, decide_eq_true_eq, decide_eq_true_eq]
    exact Iff.rfl
  have hnear : x.fire < e.fire + (s.bell b).settings.recovery ∧ e.fire < x.fire + (s.bell b).settings.recovery := by
    have := abs_lt.mp hclash
    have he : e.fire = (time : Int) - s.lead b d := rfl
    omega
  have horig := (hlaw.slack x hmem.1).1
  have hdyn : clampNat d 1 8 = d := (clampNat_eq (by decide)).trans (by omega)
  have hoffer := State.offer_received (s := s) (o := { bell := b, noteTime := some time, dynamic := d, priority := s.globals.livePriority, source := .live, playId := 0 })
    hmode (State.receiver_of_served hb) (d := d) hdyn rfl
  have hexamine : examine (s.bell e.bell).settings.recovery (s.bell e.bell).settings.slack examineFuel (s.entriesOf e.bell) (s.entriesOf e.bell) [] e =
      examine (s.bell b).settings.recovery 0 examineFuel [x] [x] [] e := by
    rw [← hslack, ← hx]
    rfl
  have hplace : s.offerPlace e = s.examined e := State.offerPlace_ready fun t ht => by
    rw [show (s.bell e.bell).readyTime = none from hready] at ht; cases ht
  rw [if_pos (by exact hfire)] at hoffer
  have hoffer := hoffer.trans hplace
  refine ⟨fun hout => ?_, fun hout hs hp hn hh => ?_⟩
  · rw [State.examined, hexamine, examine_outranked hc (ho.mpr hout) hnear.2] at hoffer
    exact takeRequest_owned h (ownLiveNote_offer b (m := 1) (by decide) d time hoffer) ..
  · rw [State.examined, hexamine, examine_outranking hc (Bool.eq_false_iff.mpr (mt ho.mp hout)) (lt_of_le_of_lt horig hnear.1)] at hoffer
    dsimp only at hoffer
    rw [if_pos (show s.slotsTaken < Config.queueCap + [x].length from Nat.lt_succ_of_le hlaw.capped), State.insert_replaces (hlaw.filter_same hmem.1) hp hn hh] at hoffer
    refine takeRequest_owned h ((ownLiveNote_offer b (m := 1) (by decide) d time hoffer).trans ?_) ..
    rw [if_neg (show ¬ e.late = true from Bool.false_ne_true), OfferOutcome.follow, State.settle_settled (hs.congr (by rfl) (by rfl))]
    rfl

end Sys2Proof.Machine

/-! ### Proofs: the notes a player offers (O48) -/

namespace Sys2Proof.Machine

open Sys2Proof

variable {s : State}

/-! #### One play among the records -/

theorem PlayEngine.each_each (e : PlayEngine) (f g : Play → Play) : (e.each f).each g = e.each fun q => g (f q) := by
  simp [PlayEngine.each, Function.comp_def]

/-- A running play's id is its own (R140). -/
structure State.OwnId (s : State) (p : PlayerNo) (q : Play) : Prop where
  play : (s.player p).play = some q
  incoming : ∀ p' x, (s.player p').incoming = some x → x.id ≠ q.id
  other : ∀ p', p' ≠ p → ∀ x, (s.player p').play = some x → x.id ≠ q.id
  waiting : ∀ x ∈ s.engine.waiting, x.id ≠ q.id

theorem State.PlayIdsLaw.ownId (h : s.PlayIdsLaw) {p : PlayerNo} {q : Play} (hq : (s.player p).play = some q) : s.OwnId p q := by
  have hd := h.distinct
  simp only [State.playRecords, List.map_append, List.append_assoc] at hd
  cases p with
  | p0 =>
    have hq0 : s.engine.player0.play = some q := hq
    rw [hq0] at hd
    simp only [Option.toList_some, List.map_cons, List.map_nil, List.singleton_append, List.nodup_cons, List.mem_append, List.mem_map, Option.mem_toList,
      not_or, not_exists, not_and] at hd
    obtain ⟨⟨h1, h2, h3, h4⟩, -⟩ := hd
    refine ⟨hq, fun p' x hx => ?_, fun p' hp x hx => ?_, h4⟩
    · cases p'
      exacts [h1 x hx, h3 x hx]
    · cases p'
      exacts [absurd rfl hp, h2 x hx]
  | p1 =>
    have hq1 : s.engine.player1.play = some q := hq
    rw [hq1] at hd
    simp only [Option.toList_some, List.map_cons, List.map_nil, List.singleton_append, List.nodup_append, List.nodup_cons, List.mem_cons, List.mem_append,
      List.mem_map, Option.mem_toList, not_or, not_exists, not_and] at hd
    obtain ⟨-, ⟨-, ⟨⟨h3, h4⟩, -⟩, h1⟩, h2⟩ := hd
    refine ⟨hq, fun p' x hx => ?_, fun p' hp x hx => ?_, h4⟩
    · cases p'
      · exact h1 x.id ⟨x, hx, rfl⟩ q.id (.inl rfl)
      · exact h3 x hx
    · cases p'
      · exact h2 x.id ⟨x, hx, rfl⟩ q.id (.inr (.inl rfl))
      · exact absurd rfl hp

theorem Option.map_stays {g : Play → Play} : ∀ {x : Option Play}, (∀ q, x = some q → g q = q) → x.map g = x
  | none, _ => rfl
  | some q, h => congrArg some (h q rfl)

/-- A change of the plays of one id is a change of the running play that has it. -/
theorem State.OwnId.each {p : PlayerNo} {q : Play} (h : s.OwnId p q) {g : Play → Play} (hg : ∀ x, x.id ≠ q.id → g x = x) :
    s.engine.each g = s.engine.setPlayer p { s.player p with play := some (g q) } := by
  have hplay := h.play
  have hi (p' : PlayerNo) : (s.player p').incoming.map g = (s.player p').incoming := Option.map_stays fun x hx => hg x (h.incoming p' x hx)
  have ho (p' : PlayerNo) (hp : p' ≠ p) : (s.player p').play.map g = (s.player p').play := Option.map_stays fun x hx => hg x (h.other p' hp x hx)
  have hw : s.engine.waiting.map g = s.engine.waiting := (List.map_congr_left (g := id) fun x hx => hg x (h.waiting x hx)).trans (List.map_id _)
  cases p with
  | p0 =>
    have h1 := ho .p1 nofun
    simp only [State.player, PlayEngine.player] at hi hplay h1
    simp only [PlayEngine.each, PlayEngine.setPlayer, State.player, PlayEngine.player, hi .p0, hi .p1, h1, hplay, hw, Option.map_some]
  | p1 =>
    have h1 := ho .p0 nofun
    simp only [State.player, PlayEngine.player] at hi hplay h1
    simp only [PlayEngine.each, PlayEngine.setPlayer, State.player, PlayEngine.player, hi .p0, hi .p1, h1, hplay, hw, Option.map_some]

/-! #### A horizon arrival -/

theorem State.nextNote_congr {t : State} (ht : t.tunes = s.tunes) {q q' : Play} (hk : q'.kind = q.kind) (hs : q'.start = q.start)
    (hi : q'.nextIndex = q.nextIndex) : t.nextNote q' = s.nextNote q := by
  unfold State.nextNote State.versionOf
  rw [hk, hs, hi, ht]

/-- With nothing waiting to be done and no player to feed, an event brings nothing about. -/
theorem State.settleFrom_settled (h : s.Settled) (n : Nat) : State.settleFrom (n + 1) [] s = s := by
  unfold State.settleFrom
  simp only [h.ending, h.incoming]
  split
  · next hm => rcases h.waiting hm with k | k <;> simp [k]
  · rfl

theorem State.feeder_eq {p : PlayerNo} {q : Play} (h : s.feeder p = some q) : (s.player p).play = some q ∧ q.state = .feeding ∧ q.fixed = none := by
  unfold State.feeder at h
  split at h
  · next hp =>
    split at h
    · next hf => cases h; exact ⟨hp, hf.1, hf.2.1⟩
    · cases h
  · cases h

/-- A horizon arrival passes over a player without a play, and one whose play has its next note beyond the horizon. -/
theorem State.feedOne_beyond {p : PlayerNo} (h : ∀ q, (s.player p).play = some q → ∃ next, s.nextNote q = some next ∧ 2000 < next.2.1 - s.timer.ms) :
    s.feedOne p = (false, s) := by
  unfold State.feedOne
  split
  · rfl
  · next q hq =>
    obtain ⟨⟨b, t, d⟩, hn, ht⟩ := h q (State.feeder_eq hq).1
    rw [hn]
    exact if_neg (not_le.mpr ht)

theorem State.settleWith_beyond (hs : s.Settled) {p : PlayerNo}
    (h : ∀ q, (s.player p).play = some q → ∃ next, s.nextNote q = some next ∧ 2000 < next.2.1 - s.timer.ms) : s.settleWith [p] = s := by
  show State.settleFrom (65535 + 1) [p] s = s
  unfold State.settleFrom
  simp only [hs.ending, State.feedOne_beyond h]
  exact State.settleFrom_settled hs 65534

/-- One note is offered, and the next lies beyond the horizon. -/
theorem State.settleWith_feeds (hs : s.Settled) {p : PlayerNo} {t : State} (hf : s.feedOne p = (true, t)) (ht : t.Settled)
    (h : ∀ q, (t.player p).play = some q → ∃ next, t.nextNote q = some next ∧ 2000 < next.2.1 - t.timer.ms) : s.settleWith [p] = t := by
  show State.settleFrom (65535 + 1) [p] s = t
  unfold State.settleFrom
  simp only [hs.ending, hf]
  show State.settleFrom (65534 + 1) [p] t = t
  unfold State.settleFrom
  simp only [ht.ending, State.feedOne_beyond h]
  exact State.settleFrom_settled ht 65533

theorem State.drainIfDone_stays {p : PlayerNo} {q : Play} (h : (s.player p).play = some q) {n : BellNo × Int × Nat} (hn : s.nextNote q = some n) :
    s.drainIfDone p = s := by
  unfold State.drainIfDone
  rw [h]
  exact if_neg fun k => by rw [hn] at k; exact Bool.false_ne_true k.2

/-- A queued note goes on in its play's count and place (R146). -/
def Play.tookNote (q : Play) : Play := { q with queued := q.queued + 1, nextIndex := q.nextIndex + 1 }

/-- The change of the play of an id alone. -/
def onlyId (i : Nat) (f : Play → Play) (q : Play) : Play := if i ≠ 0 ∧ q.id = i then f q else q

theorem onlyId_ne {i : Nat} (f : Play → Play) {q : Play} (h : q.id ≠ i) : onlyId i f q = q := if_neg fun k => h k.2

theorem onlyId_self {q : Play} (h : q.id ≠ 0) (f : Play → Play) : onlyId q.id f q = f q := if_pos ⟨h, rfl⟩

/-- The outcome QUEUED comes back to a feeding play that has a next note. -/
theorem State.takeOutcome_queued {p : PlayerNo} {q : Play} (h : s.OwnId p q) (h0 : q.id ≠ 0) {n : BellNo × Int × Nat}
    (hn : s.nextNote { q with nextIndex := q.nextIndex + 1 } = some n) (e : Entry) :
    s.takeOutcome p q.id (.queued e) = { s with engine := s.engine.setPlayer p { s.player p with play := some q.tookNote } } := by
  have he : s.modPlay q.id (·.take (.queued e)) = { s with engine := s.engine.setPlayer p { s.player p with play := some q.tookNote } } := by
    rw [State.modPlay_eq, show (fun x : Play => if q.id ≠ 0 ∧ x.id = q.id then x.take (.queued e) else x) = onlyId q.id (·.take (.queued e)) from rfl,
      h.each fun x hx => onlyId_ne _ hx, onlyId_self h0]
    rfl
  unfold State.takeOutcome
  rw [he]
  exact State.drainIfDone_stays (q := q.tookNote) (by rw [State.player, PlayEngine.player_setPlayer_self]) ((State.nextNote_congr rfl rfl rfl rfl).trans hn)

theorem PlayEngine.setPlayer_player (e : PlayEngine) (p : PlayerNo) : e.setPlayer p (e.player p) = e := by cases p <;> rfl

/-- A running play changed, that does not end, leaves nothing waiting to be done. -/
theorem State.Settled.running {t : State} (h : s.Settled) {p : PlayerNo} {q q' : Play} (hq : (s.player p).play = some q)
    (he : t.engine = s.engine.setPlayer p { s.player p with play := some q' }) (hc : t.ctl = s.ctl) (hn : q'.endsNow = none) : t.Settled := by
  have self : t.player p = { s.player p with play := some q' } := by rw [State.player, he, PlayEngine.player_setPlayer_self]
  have other (p' : PlayerNo) (hp : p ≠ p') : t.player p' = s.player p' := by rw [State.player, he, PlayEngine.player_setPlayer_ne _ hp]; rfl
  refine ⟨State.ending_none_iff.mpr fun p' x hx => ?_, State.incomingReady_none_iff.mpr fun p' hx => ?_, fun hm => ?_⟩
  · by_cases hp : p = p'
    · subst hp; rw [self] at hx; cases hx; exact hn
    · rw [other p' hp] at hx; exact State.ending_none_iff.mp h.ending p' x hx
  · by_cases hp : p = p'
    · subst hp; rw [self] at hx; cases hx
    · rw [other p' hp] at hx ⊢; exact State.incomingReady_none_iff.mp h.incoming p' hx
  · refine (h.waiting (hc ▸ hm)).imp (fun k => State.freePlayer_none_iff.mpr fun p' => ?_) fun k => by rw [he]; cases p <;> exact k
    by_cases hp : p = p'
    · subst hp; rw [self]; rfl
    · rw [other p' hp]; exact State.freePlayer_none_iff.mp k p'

theorem Play.feeding_stays {q : Play} (hs : q.state = .feeding) (hf : q.fixed = none) : q.endsNow = none := by
  unfold Play.endsNow
  rw [hf]
  exact if_neg fun k => by rw [hs] at k; cases k.1

/-- The offer of a player's note with nothing in its way (R146). -/
theorem State.feedOne_queued {p : PlayerNo} {q : Play} {bell b : BellNo} {original : Option BellNo} {noteTime : Int} {d : Nat} (hi : s.OwnId p q)
    (h0 : q.id ≠ 0) (hh : s.sched.held = []) (hg : ∀ g ∈ s.sched.granted, g.note.player ≠ p) (hs : q.state = .feeding) (hf : q.fixed = none)
    (hd : 1 ≤ d) (hd8 : d ≤ 8) (hr : s.receiver bell = some (b, original)) (hn : s.nextNote q = some (bell, noteTime, d))
    {n : BellNo × Int × Nat} (hnext : s.nextNote { q with nextIndex := q.nextIndex + 1 } = some n) (hnow : (s.timer.ms : Int) ≤ noteTime - s.lead b d)
    (hle : noteTime - s.timer.ms ≤ 2000) (ha : s.Admits b noteTime (noteTime - s.lead b d)) :
    s.feedOne p = (true, { s with
      sched := s.sched.withEntry (s.entryOf b original noteTime d q.priority (.player p) q.id)
      engine := s.engine.setPlayer p { s.player p with play := some { q with offered := q.offered + 1 }.tookNote } }) := by
  have holding : s.holding p = false := by
    unfold State.holding
    rw [hh, Bool.or_eq_false_iff, List.any_eq_false, List.any_eq_false]
    exact ⟨nofun, fun g hm => by rw [decide_eq_true_eq]; exact hg g hm⟩
  have hfeed : s.feeder p = some q := by
    unfold State.feeder
    rw [hi.play]
    exact if_pos ⟨hs, hf, holding⟩
  have hcount : s.modPlay q.id (fun q => { q with offered := q.offered + 1 }) =
      { s with engine := s.engine.setPlayer p { s.player p with play := some { q with offered := q.offered + 1 } } } := by
    rw [State.modPlay_eq, show (fun x : Play => if q.id ≠ 0 ∧ x.id = q.id then { x with offered := x.offered + 1 } else x) =
      onlyId q.id (fun x => { x with offered := x.offered + 1 }) from rfl, hi.each fun x hx => onlyId_ne _ hx, onlyId_self h0]
  have hdyn : clampNat d 1 8 = d := (clampNat_eq (by decide)).trans (by omega)
  generalize hu : ({ s with engine := s.engine.setPlayer p { s.player p with play := some { q with offered := q.offered + 1 } } } : State) = u at hcount
  have hplay : u.player p = { s.player p with play := some { q with offered := q.offered + 1 } } := by
    rw [← hu, State.player, PlayEngine.player_setPlayer_self]
  have hother (p' : PlayerNo) (hp : p' ≠ p) : u.player p' = s.player p' := by
    rw [← hu, State.player, PlayEngine.player_setPlayer_ne _ hp.symm]; rfl
  have hwait : u.engine.waiting = s.engine.waiting := by rw [← hu]; cases p <;> rfl
  have hui : u.OwnId p { q with offered := q.offered + 1 } := by
    refine ⟨by rw [hplay], fun p' x hx => hi.incoming p' x ?_, fun p' hp x hx => hi.other p' hp x (by rwa [hother p' hp] at hx), by
      rw [hwait]; exact hi.waiting⟩
    by_cases hp : p' = p
    · subst hp; rwa [hplay] at hx
    · rwa [hother p' hp] at hx
  have hoffer : u.playerOffer p bell noteTime d q.priority q.id =
      (.queued (s.entryOf b original noteTime d q.priority (.player p) q.id),
        { u with sched := s.sched.withEntry (s.entryOf b original noteTime d q.priority (.player p) q.id) }) := by
    unfold State.playerOffer
    rw [if_neg (by rw [← hu]; exact Nat.not_le.mpr ha.room)]
    have := State.offer_queued (s := u)
      (o := { bell := bell, noteTime := some noteTime, dynamic := d, priority := q.priority, source := .player p, playId := q.id })
      (b := b) (original := original) (d := d) (noteTime := noteTime) (by rw [← hu]; exact hh) (by rw [← hu]; exact hr) hdyn rfl
      (by rw [← hu]; exact hnow) (by rw [← hu]; exact ⟨ha.mode, ha.ready, ha.clear, ha.room⟩)
    rw [this, ← hu]
    rfl
  unfold State.feedOne
  rw [hfeed]
  dsimp only
  rw [hn]
  dsimp only
  rw [if_pos (show noteTime - s.now ≤ Config.horizon from hle), hcount, hoffer]
  have htake := State.takeOutcome_queued
    (s := { u with sched := s.sched.withEntry (s.entryOf b original noteTime d q.priority (.player p) q.id) })
    (p := p) (q := { q with offered := q.offered + 1 }) ⟨hui.play, hui.incoming, hui.other, hui.waiting⟩ h0 (n := n)
    ((State.nextNote_congr (by rw [← hu]) rfl rfl rfl).trans hnext) (s.entryOf b original noteTime d q.priority (.player p) q.id)
  have hset : u.engine.setPlayer p { u.player p with play := some { q with offered := q.offered + 1 }.tookNote } =
      s.engine.setPlayer p { s.player p with play := some { q with offered := q.offered + 1 }.tookNote } := by
    rw [hplay, ← hu, PlayEngine.setPlayer_setPlayer]
  refine Prod.ext rfl (htake.trans ?_)
  show ({ u with sched := _, engine := u.engine.setPlayer p { u.player p with play := some { q with offered := q.offered + 1 }.tookNote } } : State) = _
  rw [hset, ← hu]

/-! #### The two commands -/

theorem exec_granted_passes (h : ∀ g ∈ s.sched.granted, s.timer.ms ≤ g.grantedAt) : exec .grantedNoteOffer s = .next s.transmit := by
  show execGrantedNoteOffer s = _
  unfold execGrantedNoteOffer
  split
  · next g rest hg => exact if_neg (Nat.not_le.mpr (Nat.lt_succ_of_le (h g (hg ▸ List.mem_cons_self))))
  · rfl

theorem exec_granted_due {g : Granted} {rest : List Granted} (hg : s.sched.granted = g :: rest) (ht : g.grantedAt < s.timer.ms) :
    exec .grantedNoteOffer s =
      (let r := State.offer { s with sched := { s.sched with granted := rest } }
         { bell := g.note.bell, noteTime := some g.note.noteTime, dynamic := g.note.dynamic, priority := g.note.priority,
           source := .player g.note.player, playId := g.note.playId }
       .next (State.transmit (((r.2.takeOutcome g.note.player g.note.playId r.1).grantSlots).settleWith [g.note.player]))) := by
  show execGrantedNoteOffer s = _
  unfold execGrantedNoteOffer
  simp only [hg]
  exact if_pos ht

theorem exec_granted_next (s : State) : ∃ t, exec .grantedNoteOffer s = .next t := by
  show ∃ t, execGrantedNoteOffer s = .next t
  unfold execGrantedNoteOffer
  split
  · split <;> exact ⟨_, rfl⟩
  · exact ⟨_, rfl⟩

/-- Settles O48. -/
theorem playersOfferTheirNotes : Obligations.PlayersOfferTheirNotes := by
  refine ⟨fun p q bell b original noteTime d s hlaw hids hs hh hq hfeed hfix hd hd8 hr hn hnext hnow => ?_, fun p s hs hq => ?_,
    fun s h => exec_granted_passes h, fun s => ⟨exec_granted_next s, fun p => ⟨_, rfl⟩⟩⟩
  · intro e taken
    obtain ⟨next, hnext, hbeyond⟩ := hnext
    have hi := hids.ownId hq
    have h0 : q.id ≠ 0 := fun k => by
      have := (hids.range q (by cases p <;> simp [State.playRecords] <;> [exact .inl hq; exact .inr (.inr (.inl hq))])).1
      omega
    have ends (n : Nat) : Play.endsNow { q with offered := n, queued := q.queued + 1, nextIndex := q.nextIndex + 1 } = none :=
      Play.feeding_stays hfeed hfix
    have after {t : State} {n : Nat} (ht : t.tunes = s.tunes) (hm : t.timer = s.timer)
        (he : t.player p = { s.player p with play := some { q with offered := n, queued := q.queued + 1, nextIndex := q.nextIndex + 1 } }) (q' : Play)
        (hq' : (t.player p).play = some q') : ∃ next, t.nextNote q' = some next ∧ 2000 < next.2.1 - t.timer.ms := by
      rw [he] at hq'
      cases hq'
      exact ⟨next, (State.nextNote_congr ht rfl rfl rfl).trans hnext, by rw [hm]; exact hbeyond⟩
    refine ⟨fun hle hg ha => ?_, fun g rest hg ht hnote ha => ?_⟩
    · have hfed := State.feedOne_queued hi h0 hh hg hfeed hfix hd hd8 hr hn hnext hnow hle ha
      have hset := State.settleWith_feeds hs hfed (hs.running hq rfl rfl (ends (q.offered + 1)))
        (after rfl rfl (by rw [State.player, PlayEngine.player_setPlayer_self]; rfl))
      show Host.Outcome.next (State.transmit (s.settleWith [p])) = _
      rw [hset]
      rfl
    · rw [exec_granted_due hg ht, hnote]
      generalize hv : ({ s with sched := { s.sched with granted := rest } } : State) = v at ha
      have hdyn : clampNat d 1 8 = d := (clampNat_eq (by decide)).trans (by omega)
      have hoffer := State.offer_queued (s := v)
        (o := { bell := bell, noteTime := some noteTime, dynamic := d, priority := q.priority, source := .player p, playId := q.id })
        (b := b) (original := original) (d := d) (noteTime := noteTime) (by rw [← hv]; exact hh) (by rw [← hv]; exact hr) hdyn rfl
        (by rw [← hv]; exact hnow) (by rw [← hv] at ha ⊢; exact ha)
      dsimp only
      rw [hoffer]
      have htake := State.takeOutcome_queued (s := { v with sched := v.sched.withEntry (v.entryOf b original noteTime d q.priority (.player p) q.id) })
        (p := p) (q := q) (by rw [← hv]; exact ⟨hi.play, hi.incoming, hi.other, hi.waiting⟩) h0 (n := next)
        ((State.nextNote_congr (by rw [← hv]) rfl rfl rfl).trans hnext) (v.entryOf b original noteTime d q.priority (.player p) q.id)
      dsimp only
      rw [htake, State.grantSlots_none (by rw [← hv]; exact hh), State.settleWith_beyond]
      · rw [← hv]; rfl
      · exact hs.running hq (by rw [← hv]; rfl) (by rw [← hv]) (ends q.offered)
      · exact after (by rw [← hv]) (by rw [← hv]) (by rw [← hv, State.player, PlayEngine.player_setPlayer_self]; rfl)
  · show Host.Outcome.next (State.transmit (s.settleWith [p])) = _
    rw [State.settleWith_beyond hs fun q hq' => by rw [hq] at hq'; cases hq']

end Sys2Proof.Machine

/-! ### Proofs: run time, slew and minute pulses (O29 to O31) -/

namespace Sys2Proof.Machine

open Sys2Proof

variable {s : State}

/-! #### The wall clock's advance -/

theorem State.advanceWall_hold {n : Nat} (h : Config.rangeEnd ≤ s.clock.wall + n) : s.advanceWall n = s.rangeHold lastWall := if_pos h

/-- Within the current second the wall time alone moves. -/
theorem State.advanceWall_within {n : Nat} (h : s.clock.wall + n < Config.rangeEnd) (hs : s.clock.wall + n < s.clock.second + 1000) :
    s.advanceWall n = { s with clock := { s.clock with wall := s.clock.wall + n } } :=
  (if_neg (Nat.not_le.mpr h)).trans (if_neg (Nat.not_le.mpr hs))

/-- At a whole second the scanner is offered the crossing. -/
theorem State.advanceWall_crosses {n : Nat} (h : s.clock.wall + n < Config.rangeEnd) (hs : s.clock.second + 1000 ≤ s.clock.wall + n) :
    s.advanceWall n = ({ s with clock := { s.clock with wall := s.clock.wall + n, second := wholeSecond (s.clock.wall + n) } } : State).crossing
      (wholeSecond (s.clock.wall + n)) :=
  (if_neg (Nat.not_le.mpr h)).trans (if_pos hs)

theorem State.advanceWall_clock {n : Nat} (h : s.clock.wall + n < Config.rangeEnd) :
    (s.advanceWall n).clock.wall = s.clock.wall + n ∧ (s.advanceWall n).clock.slew = s.clock.slew ∧ (s.advanceWall n).clock.valid = s.clock.valid := by
  rcases Nat.lt_or_ge (s.clock.wall + n) (s.clock.second + 1000) with hs | hs
  · rw [State.advanceWall_within h hs]
    exact ⟨rfl, rfl, rfl⟩
  · have hc := State.advanceWall_crosses h hs
    have hf := (State.crossing_frame (s := { s with clock := { s.clock with wall := s.clock.wall + n, second := wholeSecond (s.clock.wall + n) } })
      (wholeSecond (s.clock.wall + n))).2.1
    rw [hc, hf]
    exact ⟨rfl, rfl, rfl⟩

/-- The part as a new ms begins. -/
def State.ticked (s : State) : State := { s with timer := { ms := s.timer.ms + 1, tick := 0, quarters := 0, due := dueAt (s.timer.ms + 1) } }

theorem exec_advance_still (h : s.clock.valid = false ∨ (s.timer.ms + 1) % 50 = 0) : exec .wallClockAdvance s = .next s.ticked.transmit := by
  refine congrArg (fun t => Host.Outcome.next (State.transmit t)) (if_neg fun ⟨h1, h2⟩ => ?_)
  rcases h with h | h
  · exact Bool.false_ne_true (h.symm.trans h1)
  · exact h2 h

theorem exec_advance_moves (h : s.clock.valid = true) (h' : (s.timer.ms + 1) % 50 ≠ 0) :
    exec .wallClockAdvance s = .next (s.ticked.advanceWall 1).transmit :=
  congrArg (fun t => Host.Outcome.next (State.transmit t)) (if_pos ⟨h, h'⟩)

/-- Settles O29. -/
theorem runTimeAdvancesEveryMs : Obligations.RunTimeAdvancesEveryMs := by
  intro s ms timer
  refine ⟨?_, fun h => exec_advance_still h, fun hv hm h1 h2 => ?_, fun hv hm h => ?_⟩
  · by_cases h : s.clock.valid = true ∧ (s.timer.ms + 1) % 50 ≠ 0
    · obtain ⟨f1, f2, f3, f4, f5, f6, f7, f8, f9⟩ := State.advanceWall_frame (s := s.ticked) 1
      refine ⟨_, exec_advance_moves h.1 h.2, f1, f2, f3, f4, f5, f6, f7, f8, f9, fun hw => ?_, fun _ _ hw => ?_⟩
      · exact (State.advanceWall_clock (s := s.ticked) hw).2.1
      · obtain ⟨h1, -, h3⟩ := State.advanceWall_clock (s := s.ticked) hw
        exact ⟨h1, h3.trans h.1⟩
    · refine ⟨s.ticked, exec_advance_still ?_, rfl, rfl, rfl, rfl, rfl, rfl, rfl, rfl, rfl, fun _ => rfl, fun hv hm => absurd ⟨hv, hm⟩ h⟩
      by_cases hv : s.clock.valid = true
      · exact .inr (not_not.mp fun hm => h ⟨hv, hm⟩)
      · exact .inl (Bool.eq_false_iff.mpr hv)
  · rw [exec_advance_moves hv hm, State.advanceWall_within (s := s.ticked) h2 h1]
    rfl
  · rw [exec_advance_moves hv hm, State.advanceWall_hold (s := s.ticked) h.ge]
    rfl

/-! #### The slew -/

theorem slewMove_eq (r : Int) : slewMove r = (if 0 < r then 2 else if r < 0 then 0 else 1, if 0 < r then r - 1 else if r < 0 then r + 1 else 0) := by
  unfold slewMove
  split
  · rfl
  · split <;> rfl

/-- The part with the slew instant taken, its remainder moved. -/
def State.slewing (s : State) (left : Int) : State :=
  { s with timer := { s.timer with due := { s.timer.due with slew := false } }, clock := { s.clock with slew := left } }

theorem exec_slew_valid (h : s.timer.due.slew = true) (hv : s.clock.valid = true) :
    exec .slewInstant s = .next (State.transmit ((s.slewing (slewMove s.clock.slew).2).advanceWall (slewMove s.clock.slew).1)) :=
  (if_pos h).trans (if_pos hv)

/-- Settles O30. -/
theorem slewMovesTheRemainderTowardZero : Obligations.SlewMovesTheRemainderTowardZero := by
  intro s timer move left
  refine ⟨fun h => if_neg (by rw [h]; decide), fun h hv => (if_pos h).trans (if_neg (by rw [hv]; decide)), fun h hv hw => ?_⟩
  have hmove : slewMove s.clock.slew = (move, left) := slewMove_eq _
  rw [exec_slew_valid h hv, hmove]
  refine ⟨?_, fun hs => ?_⟩
  · obtain ⟨h1, h2, h3⟩ := State.advanceWall_clock (s := s.slewing left) (n := move) hw
    obtain ⟨f1, f2, f3, -, -, -, -, f8, f9⟩ := State.advanceWall_frame (s := s.slewing left) move
    exact ⟨_, rfl, f1, h1, h2, h3.trans hv, f2, f3, f8, f9⟩
  · rw [State.advanceWall_within (s := s.slewing left) hw hs]
    rfl

/-! #### The minute pulse -/

theorem State.scanStep_backward {w0 w1 : Nat} (h : w1 ≤ w0) : s.scanStep w0 w1 = s := if_pos (.inr h)

theorem exec_pulse_due (h : s.timer.due.pulse = true) (high : Bool) : exec (.minutePulseSample high) s =
    .next (State.transmit (({ s with timer := { s.timer with due := { s.timer.due with pulse := false } } } : State).pulseSample high)) := if_pos h

/-- The part with a sample of the minute pulse noted (R121). -/
def State.sampled (s : State) (high : Bool) : State := { s with clock := { s.clock with
  pulseHist := pushSample s.clock.pulseHist high, pulseOut := filterOut 3 5 (pushSample s.clock.pulseHist high) s.clock.pulseOut } }

theorem State.pulseSample_eq (high : Bool) : s.pulseSample high =
    if (s.clock.pulseOut = false ∧ 3 ≤ ((high :: s.clock.pulseHist).take 5).countP id) ∧ s.ctl.mode ≠ .loading ∧ s.globals.pulseEnable = true ∧
      s.clock.valid = true then (s.sampled high).judgeEdge (s.timer.ms - 2) else s.sampled high := by
  have hhigh : highs (pushSample s.clock.pulseHist high) 5 = ((high :: s.clock.pulseHist).take 5).countP id := by
    rw [highs, pushSample, List.take_take, Nat.min_self]
  have hr := filterOut_rises (m := 3) (n := 5) (h := pushSample s.clock.pulseHist high) (out := s.clock.pulseOut)
  rw [hhigh] at hr
  refine if_congr ?_ rfl rfl
  rw [Bool.and_eq_true, Bool.and_eq_true, Bool.and_eq_true, hr, decide_eq_true_eq, and_assoc, and_assoc]

theorem State.judgeEdge_near {last edge : Nat} (h : s.clock.lastPulse = some last) (hn : edge < last + 50000) :
    s.judgeEdge edge = s.clockReport (.pulseRejected s.timer.ms edge (edge - last)) := by
  unfold State.judgeEdge
  rw [h]
  exact if_pos hn

theorem State.judgeEdge_far {edge : Nat} (h : ∀ last, s.clock.lastPulse = some last → last + 50000 ≤ edge) : s.judgeEdge edge = s.pulseAccepted edge := by
  unfold State.judgeEdge
  split
  · next last hl => exact if_neg (Nat.not_lt.mpr (h last hl))
  · rfl

/-- The part with an accepted pulse noted (R123). -/
def State.pulsed (s : State) (edge : Nat) : State := { s with clock := { s.clock with lastPulse := some edge } }

theorem State.pulseAccepted_slews {edge : Nat} {offset : Int} (ho : pulseOffset (((s.clock.wall : Int) - 2) % 60000) = offset)
    (h : -2000 ≤ offset ∧ offset ≤ 2000) :
    s.pulseAccepted edge = { s with clock := { s.clock with lastPulse := some edge, slew := offset } } := by
  unfold State.pulseAccepted
  dsimp only
  rw [ho]
  exact if_pos h

theorem State.pulseAccepted_steps {edge : Nat} {offset : Int} (ho : pulseOffset (((s.clock.wall : Int) - 2) % 60000) = offset)
    (h : ¬ (-2000 ≤ offset ∧ offset ≤ 2000)) (h0 : 0 ≤ (s.clock.wall : Int) + offset) (hw : (s.clock.wall : Int) + offset < Config.rangeEnd) :
    s.pulseAccepted edge = (((s.pulsed edge).stepTo ((s.clock.wall : Int) + offset).toNat).clockReport
      (.stepped s.timer.ms offset s.clock.wall ((s.clock.wall : Int) + offset).toNat)).scanStep s.clock.wall ((s.clock.wall : Int) + offset).toNat := by
  unfold State.pulseAccepted
  dsimp only
  rw [ho]
  exact (if_neg h).trans ((if_neg (not_lt.mpr h0)).trans (if_neg (not_le.mpr hw)))

/-- Settles O31. -/
theorem minutePulsesSetTheSlew : Obligations.MinutePulsesSetTheSlew := by
  intro high s hist rises out sampled edge p offset judged
  have hout : filterOut 3 5 (pushSample s.clock.pulseHist high) s.clock.pulseOut = out := filterOut_three_of_five ..
  have hsampled : State.sampled { s with timer := { s.timer with due := { s.timer.due with pulse := false } } } high = sampled := by
    unfold State.sampled
    dsimp only
    rw [hout]
    rfl
  have hrun (h : s.timer.due.pulse = true) : exec (.minutePulseSample high) s =
      .next (State.transmit (if judged then sampled.judgeEdge edge else sampled)) := by
    rw [exec_pulse_due h, State.pulseSample_eq, hsampled]
  have hoffset : pulseOffset (((sampled.clock.wall : Int) - 2) % 60000) = offset := rfl
  refine ⟨fun h => if_neg (by rw [h]; decide), fun h hj => (hrun h).trans (by rw [if_neg hj]), fun h hj => ?_⟩
  rw [hrun h, if_pos hj]
  refine ⟨fun last hl hn => ?_, fun hf ho => ?_, fun hf ho h0 hw => ?_, fun hf ho hw => ?_⟩
  · rw [State.judgeEdge_near (s := sampled) hl hn]
    rfl
  · rw [State.judgeEdge_far (s := sampled) hf, State.pulseAccepted_slews hoffset ho]
  · rw [State.judgeEdge_far (s := sampled) hf, State.pulseAccepted_steps hoffset (fun k => by omega) h0 hw, State.scanStep_backward]
    · rfl
    · show ((s.clock.wall : Int) + offset).toNat ≤ s.clock.wall
      omega
  · rw [State.judgeEdge_far (s := sampled) hf, State.pulseAccepted_steps hoffset (fun k => by omega) (by show 0 ≤ (s.clock.wall : Int) + offset; omega) hw]
    generalize hu : ((sampled.pulsed edge).stepTo ((sampled.clock.wall : Int) + offset).toNat).clockReport
      (.stepped sampled.timer.ms offset sampled.clock.wall ((sampled.clock.wall : Int) + offset).toNat) = u
    have hc : u.clock = ((sampled.pulsed edge).stepTo ((sampled.clock.wall : Int) + offset).toNat).clock := by rw [← hu]; simp
    obtain ⟨f1, f2, f3, f4, -, -, -, -, f9, f10⟩ := State.scanStep_frame (s := u) sampled.clock.wall ((sampled.clock.wall : Int) + offset).toNat
    refine ⟨_, rfl, ?_, ?_, ?_, ?_, ?_, ?_, ?_, ?_, ?_⟩
    · rw [f2, hc]
      show ((((s.clock.wall : Int) + offset).toNat : Nat) : Int) = _
      omega
    · rw [f2, hc]; rfl
    · rw [f2, hc]; exact hj.2.2.2
    · rw [f2, hc]; rfl
    · rw [f1, ← hu]; simp; rfl
    · rw [f3, ← hu]; simp; rfl
    · rw [f4, ← hu]; simp; rfl
    · rw [f9, ← hu]; simp; rfl
    · rw [f10, ← hu]; simp; rfl

end Sys2Proof.Machine

/-! ### Proofs: the scanner and the Program Table (O28, O41, O42) -/

namespace Sys2Proof.Machine

open Sys2Proof

variable {s : State}

/-! #### Occurrences -/

theorem SlotFields.matchesAt_place {f : SlotFields} {d : Nat} (h : f.matchesAt d = true) :
    d / 1000 % 3600 = f.minute * 60 + f.second ∧ f.minute < 60 ∧ f.second < 60 := by
  unfold SlotFields.matchesAt at h
  simp only [Bool.and_eq_true, decide_eq_true_eq] at h
  obtain ⟨⟨⟨⟨-, h1⟩, h2⟩, -⟩, -⟩ := h
  unfold wallSecond wallMs Config.dayMs at h1
  unfold wallMinute wallMs Config.dayMs at h2
  omega

/-- The slot's occurrence within k seconds of a whole second w, in the range (R129). -/
structure SlotFields.Ahead (f : SlotFields) (w k d : Nat) : Prop where
  whole : d % 1000 = 0
  after : w < d
  near : d ≤ w + k * 1000
  range : d < Config.rangeEnd
  hits : f.matchesAt d = true

theorem SlotFields.occurrenceAfter_some {f : SlotFields} {w k d : Nat} (hw : w % 1000 = 0) (h : f.occurrenceAfter w k = some d) :
    f.Ahead w k d ∧ d ≤ w + 3600000 := by
  unfold SlotFields.occurrenceAfter at h
  dsimp only at h
  obtain ⟨hc, hd⟩ := keepIf_eq.mp h
  rw [Bool.and_eq_true, decide_eq_true_eq] at hc
  have ha := Nat.mod_lt (f.minute * 60 + f.second + 3600 - w / 1000 % 3600) (show 0 < 3600 by decide)
  generalize (f.minute * 60 + f.second + 3600 - w / 1000 % 3600) % 3600 = a at hc hd ha
  obtain ⟨⟨h1, h2⟩, h3⟩ := hc
  rw [hd] at h2 h3
  split at hd <;> split at h1 <;> exact ⟨⟨by omega, by omega, by omega, h2, h3⟩, by omega⟩

theorem SlotFields.Ahead.occurrenceAfter {f : SlotFields} {w k d : Nat} (h : f.Ahead w k d) (hw : w % 1000 = 0) (hk : k ≤ 3600) :
    f.occurrenceAfter w k = some d := by
  obtain ⟨hp, hm, hs⟩ := SlotFields.matchesAt_place h.hits
  have h1 := h.whole
  have h2 := h.after
  have h3 := h.near
  have ha : w + (if (f.minute * 60 + f.second + 3600 - w / 1000 % 3600) % 3600 = 0 then 3600
      else (f.minute * 60 + f.second + 3600 - w / 1000 % 3600) % 3600) * 1000 = d := by
    split <;> omega
  unfold SlotFields.occurrenceAfter
  dsimp only
  rw [ha]
  refine keepIf_eq.mpr ⟨?_, rfl⟩
  rw [Bool.and_eq_true, decide_eq_true_eq]
  exact ⟨⟨by omega, h.range⟩, h.hits⟩

/-! #### The latest occurrence a forward step passes -/

/-- The test of the backward search (R133). -/
def SlotFields.Reached (f : SlotFields) (w0 w1 k : Nat) (marker : Option Nat) (d : Int) : Prop :=
  0 ≤ d ∧ d < (Config.rangeEnd : Int) ∧ (w0 : Int) < d - k * 1000 ∧ (w1 : Int) - Config.dayMs ≤ d - k * 1000 ∧ d - k * 1000 ≤ w1 ∧
    (marker.all fun m => decide (m < d.toNat)) ∧ f.matchesAt d.toNat

/-- The search finds the first place, going back hour by hour, that passes its test. -/
theorem SlotFields.latestFrom_some {f : SlotFields} {w0 w1 k o : Nat} {marker : Option Nat} : ∀ {n : Nat} {d : Int},
    f.latestFrom w0 w1 k marker n d = some o → ∃ j, j < n ∧ (o : Int) = d - j * 3600000 ∧ f.Reached w0 w1 k marker o ∧
      ∀ i, i < j → ¬ f.Reached w0 w1 k marker (d - i * 3600000)
  | n + 1, d, h => by
    unfold SlotFields.latestFrom at h
    dsimp only at h
    split at h
    · next hc =>
      cases h
      have : ((d.toNat : Nat) : Int) = d := Int.toNat_of_nonneg hc.1
      exact ⟨0, by omega, by omega, by rw [this]; exact hc, fun i hi => by omega⟩
    · next hc =>
      obtain ⟨j, hj, ho, hr, hl⟩ := SlotFields.latestFrom_some h
      refine ⟨j + 1, by omega, by push_cast; omega, hr, fun i hi => ?_⟩
      cases i with
      | zero => rw [show d - ((0 : Nat) : Int) * 3600000 = d by omega]; exact hc
      | succ i =>
        have := hl i (by omega)
        rwa [show d - 3600000 - (i : Int) * 3600000 = d - ((i + 1 : Nat) : Int) * 3600000 by push_cast; omega] at this

theorem SlotFields.latestFrom_none {f : SlotFields} {w0 w1 k : Nat} {marker : Option Nat} : ∀ {n : Nat} {d : Int},
    f.latestFrom w0 w1 k marker n d = none → ∀ j, j < n → ¬ f.Reached w0 w1 k marker (d - j * 3600000)
  | 0, _, _, j, hj => absurd hj (Nat.not_lt_zero j)
  | n + 1, d, h, j, hj => by
    unfold SlotFields.latestFrom at h
    dsimp only at h
    split at h
    · cases h
    · next hc =>
      cases j with
      | zero => rw [show d - ((0 : Nat) : Int) * 3600000 = d by omega]; exact hc
      | succ i =>
        have := SlotFields.latestFrom_none h i (by omega)
        rwa [show d - 3600000 - (i : Int) * 3600000 = d - ((i + 1 : Nat) : Int) * 3600000 by push_cast; omega] at this

theorem State.launchOffset_seconds (f : SlotFields) : launchOffset (s.anchorOf f) = (s.anchorOf f + 2999) / 1000 := rfl

theorem State.passes_iff {n : Fin 64} {w0 w1 o : Nat} : s.Passes n w0 w1 o ↔
    o % 1000 = 0 ∧ s.slots[n].fields.Reached w0 w1 (launchOffset (s.anchorOf s.slots[n].fields)) s.slots[n].marker o := by
  unfold State.Passes SlotFields.Reached
  dsimp only
  rw [State.launchOffset_seconds]
  have hm : (s.slots[n].marker.all fun m => decide (m < o)) = true ↔ ∀ m, s.slots[n].marker = some m → m < o := by
    cases s.slots[n].marker <;> simp
  constructor
  · rintro ⟨h1, h2, h3, h4, h5, h6, h7⟩
    exact ⟨h1, by omega, by exact_mod_cast h2, h4, h5, h6, hm.mpr h7, h3⟩
  · rintro ⟨h1, -, h2, h4, h5, h6, h7, h3⟩
    exact ⟨h1, by exact_mod_cast h2, h3, h4, h5, h6, hm.mp h7⟩

/-- An occurrence a step passes lies whole hours before the place the search begins at, and not more than a day. -/
theorem SlotFields.Reached.place {f : SlotFields} {w0 w1 k o : Nat} {marker : Option Nat} (h : f.Reached w0 w1 k marker o) (ho : o % 1000 = 0) :
    ∃ j : Nat, j < 26 ∧ (o : Int) = f.placeBefore (w1 + k * 1000) - j * 3600000 := by
  obtain ⟨-, -, -, h4, h5, -, h7⟩ := h
  obtain ⟨hp, hm, hs⟩ := SlotFields.matchesAt_place h7
  rw [Int.toNat_natCast] at hp
  unfold Config.dayMs at h4
  unfold SlotFields.placeBefore
  dsimp only
  refine ⟨(((w1 + k * 1000) / 1000 - (((w1 + k * 1000) / 1000 % 3600 + 3600 - (f.minute * 60 + f.second)) % 3600)) - o / 1000) / 3600, ?_, ?_⟩ <;> omega

theorem SlotFields.placeBefore_whole (f : SlotFields) (limit : Nat) (j : Nat) {o : Nat} (h : (o : Int) = f.placeBefore limit - j * 3600000) :
    o % 1000 = 0 := by
  unfold SlotFields.placeBefore at h
  dsimp only at h
  omega

/-- The scanner's search of a slot. -/
def State.found (s : State) (n : Fin 64) (w0 w1 : Nat) : Option Nat :=
  s.slots[n].fields.latestPassed w0 w1 (launchOffset (s.anchorOf s.slots[n].fields)) s.slots[n].marker

theorem State.found_passes {n : Fin 64} {w0 w1 o : Nat} (h : s.found n w0 w1 = some o) : s.Passes n w0 w1 o := by
  obtain ⟨j, -, ho, hr, -⟩ := SlotFields.latestFrom_some h
  exact State.passes_iff.mpr ⟨SlotFields.placeBefore_whole _ _ j ho, hr⟩

theorem State.LatestPassed.found {n : Fin 64} {w0 w1 o : Nat} (h : s.LatestPassed n w0 w1 o) : s.found n w0 w1 = some o := by
  obtain ⟨hp, hlast⟩ := h
  obtain ⟨ho, hr⟩ := State.passes_iff.mp hp
  obtain ⟨j, hj, hoj⟩ := hr.place ho
  cases hf : s.found n w0 w1 with
  | none =>
    have := SlotFields.latestFrom_none hf j hj
    rw [← hoj] at this
    exact absurd hr this
  | some o' =>
    have hle := hlast o' (State.found_passes hf)
    obtain ⟨i, -, ho', -, hbefore⟩ := SlotFields.latestFrom_some hf
    have hij : i ≤ j := by
      by_contra hc
      have := hbefore j (by omega)
      rw [← hoj] at this
      exact this hr
    congr 1
    omega

theorem State.found_none {n : Fin 64} {w0 w1 : Nat} (h : ∀ o, ¬ s.Passes n w0 w1 o) : s.found n w0 w1 = none := by
  cases hf : s.found n w0 w1 with
  | none => rfl
  | some o => exact absurd (State.found_passes hf) (h o)

/-! #### An occurrence that comes due -/

theorem State.comesDue_eq (n : Fin 64) (d : Nat) (late : Bool) : s.comesDue n d late = s.dealtWith n d late := by
  have hl : (s.mark n d).lacksTune s.slots[n].fields = true ↔
      s.slots[n].fields.kind = .tune ∧ s.tunes.slots[s.slots[n].fields.tune].current = none := by
    unfold State.lacksTune
    cases s.slots[n].fields.kind <;> simp [State.current]
  unfold State.comesDue State.dealtWith
  exact if_congr Iff.rfl rfl (if_congr Iff.rfl rfl (if_congr hl rfl rfl))

theorem State.comesDue_slots (n : Fin 64) (d : Nat) (late : Bool) :
    (s.comesDue n d late).slots = s.slots.set n { s.slots[n] with marker := some d } := by
  have hm : (s.mark n d).slots = s.slots.set n { s.slots[n] with marker := some d } := rfl
  rw [← hm]
  unfold State.comesDue
  dsimp only
  generalize s.mark n d = u
  repeat' split
  all_goals simp [State.scannerReport]

/-- The anchor offsets of the CURRENT versions. -/
def State.Anchors (A : Fin 96 → Option Nat) (s : State) : Prop := ∀ i, (s.current i).map Version.anchorOffset = A i

theorem State.anchors_kept (A : Fin 96 → Option Nat) : Kept (State.Anchors A) (fun _ => True) fun _ => True := by
  have set {x : TuneStore} {i : Fin 96} {y : TuneStore} (h : ∀ j : Fin 96, x.slots[j].current.map Version.anchorOffset = A j)
      (hi : y.slots[i].current.map Version.anchorOffset = x.slots[i].current.map Version.anchorOffset) (ho : ∀ j : Fin 96, j ≠ i → y.slots[j] = x.slots[j])
      (j : Fin 96) : y.slots[j].current.map Version.anchorOffset = A j := by
    by_cases hj : j = i
    · subst hj; rw [hi]; exact h j
    · rw [ho j hj]; exact h j
  refine .of_tunes (fun s t h ht i => ?_) (fun s i h => ?_) fun s i n h => ?_
  · rw [State.current, ht]; exact h i
  · refine set (x := s.tunes) (i := i) h ?_ fun j hj => ?_
    · simp [State.modTunes, TuneStore.take, Function.comp_def, Version.anchorOffset] <;> rfl
    · have hv : (i : Nat) ≠ j := fun k => hj (Fin.ext k.symm)
      simp [State.modTunes, TuneStore.take, hv]
  · refine set (x := s.tunes) (i := i) h ?_ fun j hj => ?_
    · show ((s.tunes.release i n).slots[i].current).map Version.anchorOffset = _
      unfold TuneStore.release
      dsimp only
      rw [TuneStore.setVersions_self]
      cases s.tunes.slots[i].current with
      | none => rfl
      | some v =>
        rw [Option.map_some, Option.map_some, Option.map_some]
        unfold Version.anchorOffset
        split <;> rfl
    · exact TuneStore.setVersions_other _ hj _ _

/-- What the scanner's work at other slots leaves of what it reads at one. -/
structure State.SameProgram (s t : State) : Prop where
  anchors : t.Anchors fun i => (s.current i).map Version.anchorOffset
  fields : ∀ n : Fin 64, t.slots[n].fields = s.slots[n].fields
  ctl : t.ctl = s.ctl

theorem State.SameProgram.refl (s : State) : s.SameProgram s := ⟨fun _ => rfl, fun _ => rfl, rfl⟩

theorem State.SameProgram.anchorOf {t : State} (h : s.SameProgram t) (f : SlotFields) : t.anchorOf f = s.anchorOf f := by
  unfold State.anchorOf
  rw [h.anchors]

theorem State.SameProgram.comesDue {t : State} (h : s.SameProgram t) (n : Fin 64) (d : Nat) (late : Bool) : s.SameProgram (t.comesDue n d late) where
  anchors := (State.anchors_kept _).comesDue h.anchors n d late
  fields m := by
    rw [State.comesDue_slots]
    by_cases hm : m = n
    · subst hm; simpa using h.fields m
    · have hv : (n : Nat) ≠ m := fun k => hm (Fin.ext k.symm)
      have := h.fields m
      rw [Fin.getElem_fin] at this ⊢
      rw [Vector.getElem_set_ne _ _ hv]
      exact this
  ctl := by rw [← h.ctl]; simp

theorem State.comesDue_marker_self (n : Fin 64) (d : Nat) (late : Bool) : (s.comesDue n d late).slots[n].marker = some d := by
  rw [State.comesDue_slots]
  simp

theorem State.comesDue_slot_ne {n m : Fin 64} (h : m ≠ n) (d : Nat) (late : Bool) : (s.comesDue n d late).slots[m] = s.slots[m] := by
  have hv : (n : Nat) ≠ m := fun k => h (Fin.ext k.symm)
  rw [State.comesDue_slots, Fin.getElem_fin, Vector.getElem_set_ne _ _ hv]
  rfl

/-! #### One slot among all -/

section
variable {g : State → Fin 64 → State} {n : Fin 64} {P : State → Prop}

/-- What a scan leaves of one slot, when it goes through all the slots and touches each at its turn alone. -/
theorem foldl_slots {Q : Slot → Prop} (keep : ∀ m t, P t → P (g t m)) (other : ∀ m t, m ≠ n → (g t m).slots[n] = t.slots[n])
    (own : ∀ t, P t → t.slots[n] = s.slots[n] → Q (g t n).slots[n]) (hs : P s) : Q ((List.finRange 64).foldl g s).slots[n] := by
  have passed : ∀ (l : List (Fin 64)) (t : State), n ∉ l → P t → P (l.foldl g t) ∧ (l.foldl g t).slots[n] = t.slots[n] := by
    intro l
    induction l with
    | nil => exact fun t _ ht => ⟨ht, rfl⟩
    | cons m l ih =>
      intro t hn ht
      obtain ⟨hm, hl⟩ := not_or.mp (mt List.mem_cons.mpr hn)
      obtain ⟨h1, h2⟩ := ih (g t m) hl (keep m t ht)
      exact ⟨h1, h2.trans (other m t (Ne.symm hm))⟩
  obtain ⟨before, after, hl⟩ := List.append_of_mem (List.mem_finRange n)
  have hnodup : (before ++ n :: after).Nodup := hl ▸ List.nodup_finRange 64
  have hb : n ∉ before := fun h => List.disjoint_of_nodup_append hnodup h List.mem_cons_self
  have ha : n ∉ after := (List.nodup_cons.mp (List.nodup_append.mp hnodup).2.1).1
  obtain ⟨p1, q1⟩ := passed before s hb hs
  obtain ⟨-, q2⟩ := passed after _ ha (keep n _ p1)
  rw [hl, List.foldl_append, List.foldl_cons, q2]
  exact own _ p1 q1

/-- A scan that does something at one slot alone. -/
theorem foldl_only (stays : ∀ m t, m ≠ n → P t → g t m = t) (hs : P s) (hn : P (g s n)) : (List.finRange 64).foldl g s = g s n := by
  have passed : ∀ (l : List (Fin 64)) (t : State), n ∉ l → P t → l.foldl g t = t := by
    intro l
    induction l with
    | nil => exact fun _ _ _ => rfl
    | cons m l ih =>
      intro t hn ht
      obtain ⟨hm, hl⟩ := not_or.mp (mt List.mem_cons.mpr hn)
      rw [List.foldl_cons, stays m t (Ne.symm hm) ht]
      exact ih t hl ht
  obtain ⟨before, after, hl⟩ := List.append_of_mem (List.mem_finRange n)
  have hnodup : (before ++ n :: after).Nodup := hl ▸ List.nodup_finRange 64
  have hb : n ∉ before := fun h => List.disjoint_of_nodup_append hnodup h List.mem_cons_self
  have ha : n ∉ after := (List.nodup_cons.mp (List.nodup_append.mp hnodup).2.1).1
  rw [hl, List.foldl_append, List.foldl_cons, passed before s hb hs, passed after _ ha hn]

end

/-! #### Second crossings -/

theorem State.crossSlot_due {w d : Nat} {n : Fin 64} (h : s.slots[n].fields.occurrenceAfter w (launchOffset (s.anchorOf s.slots[n].fields)) = some d)
    (hm : ∀ m, s.slots[n].marker = some m → m < d) : State.crossSlot w s n = s.comesDue n d false := by
  unfold State.crossSlot
  simp only [h]
  refine if_pos ?_
  cases hs : s.slots[n].marker with
  | none => rfl
  | some m => simpa using hm m hs

theorem State.crossSlot_passed {w : Nat} {n : Fin 64}
    (h : ∀ d, s.slots[n].fields.occurrenceAfter w (launchOffset (s.anchorOf s.slots[n].fields)) = some d → ∃ m, s.slots[n].marker = some m ∧ d ≤ m) :
    State.crossSlot w s n = s := by
  unfold State.crossSlot
  dsimp only
  split
  · next d hd =>
    obtain ⟨m, hm, hle⟩ := h d hd
    refine if_neg ?_
    rw [hm]
    simpa using hle
  · rfl

theorem State.crossSlot_cases (w : Nat) (n : Fin 64) : State.crossSlot w s n = s ∨ ∃ d, State.crossSlot w s n = s.comesDue n d false := by
  unfold State.crossSlot
  dsimp only
  split
  · split
    · exact .inr ⟨_, rfl⟩
    · exact .inl rfl
  · exact .inl rfl

theorem State.SameProgram.crossSlot {t : State} (h : s.SameProgram t) (w : Nat) (n : Fin 64) : s.SameProgram (State.crossSlot w t n) := by
  rcases State.crossSlot_cases (s := t) w n with k | ⟨d, k⟩ <;> rw [k]
  · exact h
  · exact h.comesDue n d false

theorem State.crossSlot_slot_ne {n m : Fin 64} (h : n ≠ m) (w : Nat) : (State.crossSlot w s m).slots[n] = s.slots[n] := by
  rcases State.crossSlot_cases (s := s) w m with k | ⟨d, k⟩ <;> rw [k]
  exact State.comesDue_slot_ne h d false

/-- Settles O42. -/
theorem crossingsMarkTheirOccurrences : Obligations.CrossingsMarkTheirOccurrences := by
  intro s n w hv hw hw0 hrange hsecond hms hmode f k
  have hwhole : wholeSecond w = w := by unfold wholeSecond; omega
  have hwr : s.ticked.clock.wall + 1 < Config.rangeEnd := hw ▸ hrange
  have hcross := State.advanceWall_crosses (s := s.ticked) (n := 1) hwr (by show s.clock.second + 1000 ≤ s.clock.wall + 1; omega)
  rw [show s.ticked.clock.wall + 1 = w from hw.symm, hwhole] at hcross
  generalize hu : ({ s.ticked with clock := { s.ticked.clock with wall := w, second := w } } : State) = u at hcross
  have hslots : u.slots = s.slots := by rw [← hu]; rfl
  have hanchor : u.anchorOf f = s.anchorOf f := by rw [← hu]; rfl
  have hk : launchOffset (u.anchorOf f) = k := by rw [hanchor]; rfl
  have hfold : u.crossing w = (List.finRange 64).foldl (State.crossSlot w) u := if_neg (by rw [← hu]; exact hmode)
  have at_ {t : State} (h : u.SameProgram t) (ht : t.slots[n] = u.slots[n]) :
      t.slots[n] = s.slots[n] ∧ launchOffset (t.anchorOf t.slots[n].fields) = k := by
    have : t.slots[n] = s.slots[n] := by rw [ht, hslots]
    exact ⟨this, by rw [this, h.anchorOf]; exact hk⟩
  have slot {Q : Slot → Prop} (own : ∀ t, u.SameProgram t → t.slots[n] = u.slots[n] → Q (State.crossSlot w t n).slots[n]) : Q (u.crossing w).slots[n] := by
    rw [hfold]
    exact foldl_slots (P := u.SameProgram) (fun m t h => h.crossSlot w m) (fun m t h => State.crossSlot_slot_ne (Ne.symm h) w) own (.refl u)
  have due {t : State} (h : u.SameProgram t) (ht : t.slots[n] = u.slots[n]) (hk1 : k ≤ 3600) {d : Nat} (hd : f.Ahead w k d)
      (hm : ∀ m, s.slots[n].marker = some m → m < d) : State.crossSlot w t n = t.comesDue n d false := by
    obtain ⟨h1, h2⟩ := at_ h ht
    refine State.crossSlot_due ?_ (by rw [h1]; exact hm)
    rw [h2, h1]
    exact hd.occurrenceAfter hw0 hk1
  obtain ⟨-, c2, -⟩ := State.crossing_frame (s := u) w
  refine ⟨u.crossing w, by rw [exec_advance_moves hv hms, hcross], by rw [c2, ← hu], by rw [c2, ← hu], ?_, fun hk1 d h1 h2 h3 h4 h5 hm => ?_, fun h => ?_,
    fun hk1 d h1 h2 h3 h4 h5 hm hothers => ?_⟩
  · refine slot (Q := fun x => x.fields = f) fun t ht hn => ?_
    rw [(ht.crossSlot w n).fields n, hslots]
  · refine slot (Q := fun x => x.marker = some d) fun t ht hn => ?_
    rw [due ht hn hk1 ⟨h1, h2, h3, h4, h5⟩ hm]
    exact State.comesDue_marker_self ..
  · refine slot (Q := fun x => x.marker = s.slots[n].marker) fun t ht hn => ?_
    obtain ⟨k1, k2⟩ := at_ ht hn
    rw [State.crossSlot_passed, k1]
    intro d hd
    rw [k2, k1] at hd
    obtain ⟨ha, -⟩ := SlotFields.occurrenceAfter_some hw0 hd
    rw [k1]
    exact h d ha.whole ha.after ha.near ha.hits
  · intro crossed
    have hd := due (.refl u) rfl hk1 ⟨h1, h2, h3, h4, h5⟩ hm
    have hcu : u = crossed := by rw [← hu]; rfl
    rw [hfold, foldl_only (P := u.SameProgram) (n := n) (fun m t hmn ht => ?_) (.refl u) ((State.SameProgram.refl u).crossSlot w n), hd, State.comesDue_eq, hcu]
    refine State.crossSlot_passed fun e he => ?_
    obtain ⟨ha, hle⟩ := SlotFields.occurrenceAfter_some hw0 he
    have := hothers m hmn e ha.after hle
    rw [← hslots, ← ht.fields m, ha.hits] at this
    cases this

end Sys2Proof.Machine

/-! ### Proofs: SET TIME and the requests on the Program Table (O28, O41) -/

namespace Sys2Proof.Machine

open Sys2Proof

variable {s : State}

/-! #### Forward steps -/

theorem State.stepSlot_eq (w0 w1 : Nat) (n : Fin 64) : State.stepSlot w0 w1 s n = match s.found n w0 w1 with
    | some d => s.comesDue n d (decide (d + s.slots[n].fields.lateLimit * 1000 < w1))
    | none => s := rfl

theorem State.stepSlot_found {w0 w1 d : Nat} {n : Fin 64} (h : s.found n w0 w1 = some d) :
    State.stepSlot w0 w1 s n = s.comesDue n d (decide (d + s.slots[n].fields.lateLimit * 1000 < w1)) := by
  rw [State.stepSlot_eq, h]

theorem State.stepSlot_none {w0 w1 : Nat} {n : Fin 64} (h : s.found n w0 w1 = none) : State.stepSlot w0 w1 s n = s := by
  rw [State.stepSlot_eq, h]

theorem State.stepSlot_cases (w0 w1 : Nat) (n : Fin 64) : State.stepSlot w0 w1 s n = s ∨ ∃ d late, State.stepSlot w0 w1 s n = s.comesDue n d late := by
  cases h : s.found n w0 w1 with
  | none => exact .inl (State.stepSlot_none h)
  | some d => exact .inr ⟨d, _, State.stepSlot_found h⟩

theorem State.SameProgram.stepSlot {t : State} (h : s.SameProgram t) (w0 w1 : Nat) (n : Fin 64) : s.SameProgram (State.stepSlot w0 w1 t n) := by
  rcases State.stepSlot_cases (s := t) w0 w1 n with k | ⟨d, late, k⟩ <;> rw [k]
  · exact h
  · exact h.comesDue n d late

theorem State.stepSlot_slot_ne {n m : Fin 64} (h : n ≠ m) (w0 w1 : Nat) : (State.stepSlot w0 w1 s m).slots[n] = s.slots[n] := by
  rcases State.stepSlot_cases (s := s) w0 w1 m with k | ⟨d, late, k⟩ <;> rw [k]
  exact State.comesDue_slot_ne h d late

theorem State.SameProgram.found {t : State} (h : s.SameProgram t) {n : Fin 64} (hn : t.slots[n] = s.slots[n]) (w0 w1 : Nat) :
    t.found n w0 w1 = s.found n w0 w1 := by
  unfold State.found
  rw [hn, h.anchorOf]

theorem State.scanStep_forward {w0 w1 : Nat} (hm : s.ctl.mode ≠ .loading) (h : w0 < w1) :
    s.scanStep w0 w1 = (List.finRange 64).foldl (State.stepSlot w0 w1) s :=
  if_neg fun k => k.elim hm (Nat.not_le.mpr h)

theorem State.SameProgram.scanStep (w0 w1 : Nat) : s.SameProgram (s.scanStep w0 w1) := by
  unfold State.scanStep
  split
  · exact .refl s
  · exact foldl_induct (P := s.SameProgram) (fun t m _ h => h.stepSlot w0 w1 m) (.refl s)

/-- What a forward step leaves of one slot. -/
theorem State.scanStep_slot {w0 w1 : Nat} (hm : s.ctl.mode ≠ .loading) (h : w0 < w1) (n : Fin 64) {Q : Slot → Prop}
    (own : ∀ t, s.SameProgram t → t.slots[n] = s.slots[n] → Q (State.stepSlot w0 w1 t n).slots[n]) : Q (s.scanStep w0 w1).slots[n] := by
  rw [State.scanStep_forward hm h]
  exact foldl_slots (P := s.SameProgram) (fun m t h => h.stepSlot w0 w1 m) (fun m t h => State.stepSlot_slot_ne (Ne.symm h) w0 w1) own (.refl s)

theorem State.scanStep_marks {w0 w1 o : Nat} (hm : s.ctl.mode ≠ .loading) (h : w0 < w1) {n : Fin 64} (ho : s.found n w0 w1 = some o) :
    (s.scanStep w0 w1).slots[n].marker = some o := by
  refine State.scanStep_slot (Q := fun x => x.marker = some o) hm h n fun t ht hn => ?_
  rw [State.stepSlot_found ((ht.found hn w0 w1).trans ho)]
  exact State.comesDue_marker_self ..

theorem State.scanStep_passes {w0 w1 : Nat} (hm : s.ctl.mode ≠ .loading) (h : w0 < w1) {n : Fin 64} (ho : s.found n w0 w1 = none) :
    (s.scanStep w0 w1).slots[n].marker = s.slots[n].marker := by
  refine State.scanStep_slot (Q := fun x => x.marker = s.slots[n].marker) hm h n fun t ht hn => ?_
  rw [State.stepSlot_none ((ht.found hn w0 w1).trans ho), hn]

/-- An occurrence that a forward step passes lies after the place it began at. -/
theorem State.Passes.after {n : Fin 64} {w0 w1 o : Nat} (h : s.Passes n w0 w1 o) : w0 < o ∧ s.slots[n].fields.matchesAt o = true := by
  obtain ⟨-, -, h1, h2, -⟩ := h
  exact ⟨by omega, h1⟩

/-- A forward step that passes an occurrence of one slot alone. -/
theorem State.scanStep_only {w0 w1 o : Nat} (hm : s.ctl.mode ≠ .loading) (h : w0 < w1) {n : Fin 64} (ho : s.found n w0 w1 = some o)
    (others : ∀ m : Fin 64, m ≠ n → ∀ x, w0 < x → s.slots[m].fields.matchesAt x = false) :
    s.scanStep w0 w1 = s.dealtWith n o (decide (o + s.slots[n].fields.lateLimit * 1000 < w1)) := by
  rw [State.scanStep_forward hm h, foldl_only (P := s.SameProgram) (n := n) (fun m t hmn ht => ?_) (.refl s) ((State.SameProgram.refl s).stepSlot w0 w1 n),
    State.stepSlot_found ho, State.comesDue_eq]
  refine State.stepSlot_none (State.found_none fun x hx => ?_)
  obtain ⟨h1, h2⟩ := hx.after
  rw [ht.fields m, others m hmn x h1] at h2
  cases h2

/-! #### A clock that becomes valid -/

theorem State.clockBecameValid_quiet (h : s.ctl.resumePending = false) : s.clockBecameValid = s := if_neg (by rw [h]; decide)

theorem State.clockBecameValid_resumes (h : s.ctl.resumePending = true) (hm : s.ctl.mode = .silent) :
    s.clockBecameValid = (s.setCtl { s.ctl with resumePending := false }).enterMode .active none .clockValid := by
  unfold State.clockBecameValid
  rw [if_pos h]
  dsimp only
  have : (s.setCtl { s.ctl with resumePending := false }).ctl.mode = .silent := hm
  rw [this]

/-- The entry to ACTIVE cuts nothing and flushes nothing. -/
theorem State.enterMode_active_eq (r : Option Mode) (c : ModeCause) : s.enterMode .active r c =
    (s.setCtl { s.ctl with mode := .active, remembered := r }).report (.mode s.ctl.mode .active c s.ctl.causes r 0) :=
  (State.enterMode_eq ..).trans (if_neg (by decide))

theorem State.clockBecameValid_coils : s.clockBecameValid.globals = s.globals ∧ s.clockBecameValid.drive = s.drive := by
  unfold State.clockBecameValid
  dsimp only
  split
  · split
    · rw [State.enterMode_active_eq]
      simp
    all_goals exact ⟨rfl, rfl⟩
  · exact ⟨rfl, rfl⟩

/-! #### SET TIME -/

/-- The wall clock set to w1 and valid (R119). -/
def State.setTo (s : State) (w1 : Nat) : State :=
  { s with clock := { s.clock with wall := w1, valid := true, slew := 0, second := w1 / 1000 * 1000 } }

theorem wallOfRequest_some {y mo d ms : Nat} (h : ({ year := y, month := mo, day := d } : Date).valid = true) (hm : ms < 86400000) :
    wallOfRequest y mo d ms = some (wallOf { year := y, month := mo, day := d } ms) :=
  keepIf_eq.mpr ⟨by rw [h, Bool.true_and, decide_eq_true_eq]; exact hm, rfl⟩

theorem wallOfRequest_none {y mo d ms : Nat} (h : ({ year := y, month := mo, day := d } : Date).valid = false ∨ 86400000 ≤ ms) :
    wallOfRequest y mo d ms = none := by
  unfold wallOfRequest keepIf
  refine if_neg ?_
  rw [Bool.and_eq_true, decide_eq_true_eq]
  rintro ⟨h1, h2⟩
  rcases h with h | h
  · exact Bool.false_ne_true (h.symm.trans h1)
  · exact absurd h2 (Nat.not_lt.mpr h)

theorem ownSetTime_eq {y mo d ms w1 : Nat} (h : wallOfRequest y mo d ms = some w1) : ownSetTime y mo d ms s =
    (.ok, .setTime s.clock.wall s.clock.valid w1, if s.clock.valid then (s.setTo w1).scanStep s.clock.wall w1 else (s.setTo w1).clockBecameValid) := by
  unfold ownSetTime
  rw [h]
  rfl

/-- Settles O28. -/
theorem setTimeStepsTheWallClock : Obligations.SetTimeStepsTheWallClock := by
  intro tag y mo d ms s h date
  refine ⟨fun hbad => takeRequest_owned h (by unfold ownSetTime; rw [wallOfRequest_none hbad]) .., fun hdate hms => ?_⟩
  intro w1 stepped
  have own : ownSetTime y mo d ms s = (.ok, .setTime s.clock.wall s.clock.valid w1,
      if s.clock.valid then stepped.scanStep s.clock.wall w1 else stepped.clockBecameValid) := ownSetTime_eq (wallOfRequest_some hdate hms)
  have hmode : stepped.ctl.mode ≠ .loading := h.loaded
  have passes (n : Fin 64) (o : Nat) : stepped.Passes n s.clock.wall w1 o ↔ s.Passes n s.clock.wall w1 o := Iff.rfl
  refine ⟨⟨_, takeRequest_owned h own .., ?_⟩, fun hv hw n o ho hothers => ?_, fun hc => ?_, fun hv hr hm => ?_⟩
  · split
    · next hv =>
      have program := State.SameProgram.scanStep (s := stepped) s.clock.wall w1
      obtain ⟨f1, f2, f3, f4, f5, f6, f7, f8, f9, f10⟩ := State.scanStep_frame (s := stepped) s.clock.wall w1
      refine ⟨f2, f1, f4, f5, f6, f7, f8, f9, f10, program.fields, fun _ hw n => ⟨fun o ho => ?_, fun hn => ?_⟩⟩
      · exact State.scanStep_marks hmode hw (State.LatestPassed.found (s := stepped) ho)
      · exact State.scanStep_passes hmode hw (State.found_none (s := stepped) hn)
    · next hv =>
      obtain ⟨timer, clock, warn, supply, sweep, slots, nv, pending⟩ := State.clockBecameValid_frame (s := stepped)
      obtain ⟨globals, drive⟩ := State.clockBecameValid_coils (s := stepped)
      exact ⟨clock, timer, globals, drive, warn, supply, sweep, nv, pending, fun n => congrArg (fun x : Vector Slot 64 => x[n].fields) slots, fun k => absurd k hv⟩
  · refine takeRequest_owned h (own.trans ?_) ..
    rw [if_pos hv, State.scanStep_only hmode hw (State.LatestPassed.found (s := stepped) ho) hothers, hv]
  · refine takeRequest_owned h (own.trans ?_) ..
    rcases hc with ⟨hv, hw⟩ | ⟨hv, hr⟩
    · rw [if_pos hv, State.scanStep_backward hw]
    · rw [if_neg (by rw [hv]; decide), State.clockBecameValid_quiet (s := stepped) hr]
  · refine takeRequest_owned h (own.trans ?_) ..
    rw [if_neg (by rw [hv]; decide), State.clockBecameValid_resumes (s := stepped) hr hm, State.enterMode_active_eq, hv,
      show (stepped.setCtl { stepped.ctl with resumePending := false }).ctl.mode = .silent from hm]
    rfl

end Sys2Proof.Machine

/-! ### Proofs: the requests on the Program Table (O41) -/

namespace Sys2Proof.Machine

open Sys2Proof

variable {s : State}

/-! #### The fields one by one -/

theorem within_iff {v a b : Nat} : within v a b = true ↔ a ≤ v ∧ v ≤ b := decide_eq_true_iff

theorem kindOf_isSome {k : Nat} : (∃ x, kindOf k = some x) ↔ k ≤ 1 := by
  match k with
  | 0 => exact ⟨fun _ => by omega, fun _ => ⟨_, rfl⟩⟩
  | 1 => exact ⟨fun _ => by omega, fun _ => ⟨_, rfl⟩⟩
  | n + 2 => exact ⟨fun ⟨x, h⟩ => (nomatch h), fun h => by omega⟩

theorem tuneOf_isSome {n : Nat} : (∃ x, tuneOf n = some x) ↔ 1 ≤ n ∧ n ≤ 96 := by
  unfold tuneOf
  split
  · next h => exact ⟨fun _ => h, fun _ => ⟨_, rfl⟩⟩
  · next h => exact ⟨fun ⟨x, k⟩ => (nomatch k), fun k => absurd k h⟩

theorem bellOf_isSome {n : Nat} : (∃ x, bellOf n = some x) ↔ n ≤ 47 := by
  unfold bellOf
  split
  · next h => exact ⟨fun _ => by omega, fun _ => ⟨_, rfl⟩⟩
  · next h => exact ⟨fun ⟨x, k⟩ => (nomatch k), fun k => by omega⟩

/-- The count of a FIXED count mode lies in its range. -/
def CountMode.inRange : CountMode → Bool
  | .fixed n => within n 1 24
  | _ => true

theorem countModeOf_inRange {m n : Nat} {c : CountMode} (h : countModeOf m n = some c) : c.inRange = true := by
  match m, h with
  | 0, h => obtain ⟨k, rfl⟩ := keepIf_eq.mp h; exact k
  | 1, h => cases h; rfl
  | 2, h => cases h; rfl

theorem countModeOf_isSome {m n : Nat} : (∃ x, countModeOf m n = some x) ↔ m ≤ 2 ∧ (m = 0 → 1 ≤ n ∧ n ≤ 24) := by
  match m with
  | 0 =>
    refine ⟨fun ⟨c, h⟩ => ⟨by omega, fun _ => within_iff.mp (keepIf_eq.mp h).1⟩, fun h => ⟨_, keepIf_eq.mpr ⟨within_iff.mpr (h.2 rfl), rfl⟩⟩⟩
  | 1 => exact ⟨fun _ => ⟨by omega, fun h => by omega⟩, fun _ => ⟨_, rfl⟩⟩
  | 2 => exact ⟨fun _ => ⟨by omega, fun h => by omega⟩, fun _ => ⟨_, rfl⟩⟩
  | k + 3 => exact ⟨fun ⟨x, h⟩ => (nomatch h), fun h => by omega⟩

/-- The date of a PROGRAM SET is judged only when it is present, and what it makes is a day of the calendar. -/
theorem dateOf_isSome {w : SlotWire} : (∃ x, dateOf w = some x) ↔
    w.datePresent ≤ 1 ∧ (w.datePresent = 1 → Date.valid { year := w.year, month := w.month, day := w.day } = true) := by
  unfold dateOf
  split
  · next h => exact ⟨fun _ => ⟨by omega, fun k => by omega⟩, fun _ => ⟨_, rfl⟩⟩
  · next h => exact ⟨fun ⟨_, k⟩ => ⟨by omega, fun _ => (keepIf_eq.mp k).1⟩, fun k => ⟨_, keepIf_eq.mpr ⟨k.2 h, rfl⟩⟩⟩
  · next h0 h1 => exact ⟨fun ⟨x, h⟩ => (nomatch h), fun h => (by omega : w.datePresent = 0 ∨ w.datePresent = 1).elim (absurd · h0) (absurd · h1)⟩

theorem dateOf_valid {w : SlotWire} {d : Option Date} (h : dateOf w = some d) : d.all Date.valid = true ∧ (d.isSome = true ↔ w.datePresent = 1) := by
  unfold dateOf at h
  split at h
  · next k => cases h; exact ⟨rfl, by simp [k]⟩
  · next k => obtain ⟨hv, rfl⟩ := keepIf_eq.mp h; exact ⟨hv, by simp [k]⟩
  · cases h

/-! #### The slot they make -/

/-- The slot a PROGRAM SET names, of fields that are in range one by one. -/
def slotNamed (w : SlotWire) (date : Option Date) (kind : SlotKind) (tune : Fin 96) (bell : BellNo) (mode : CountMode) : SlotFields :=
  { enabled := w.enabled == 1, second := w.second, minute := w.minute, hours := BitVec.ofNat 24 w.hours, date := date,
    weekdays := BitVec.ofNat 7 w.weekdays, kind := kind, tune := tune, tollBell := bell, tollDynamic := w.tollDynamic,
    tollInterval := w.tollInterval, countMode := mode, priority := w.priority, lateLimit := w.lateLimit }

theorem slotFieldsOf_isSome {w : SlotWire} : (slotFieldsOf w).isSome = true ↔ ∃ date kind tune bell mode,
    dateOf w = some date ∧ kindOf w.kind = some kind ∧ tuneOf w.tune = some tune ∧ bellOf w.tollBell = some bell ∧
    countModeOf w.countMode w.n = some mode ∧ within w.enabled 0 1 = true ∧ within w.weekdays 0 127 = true ∧
    (slotNamed w date kind tune bell mode).inRange = true ∧ (slotNamed w date kind tune bell mode).complete = true := by
  rw [Option.isSome_iff_exists]
  unfold slotFieldsOf
  split
  · next date kind tune bell mode h1 h2 h3 h4 h5 =>
    constructor
    · rintro ⟨f, h⟩
      obtain ⟨k, -⟩ := keepIf_eq.mp h
      simp only [Bool.and_eq_true] at k
      obtain ⟨⟨⟨k1, k2⟩, k3⟩, k4⟩ := k
      exact ⟨date, kind, tune, bell, mode, h1, h2, h3, h4, h5, k1, k2, k3, k4⟩
    · rintro ⟨_, _, _, _, _, e1, e2, e3, e4, e5, k1, k2, k3, k4⟩
      cases h1.symm.trans e1; cases h2.symm.trans e2; cases h3.symm.trans e3; cases h4.symm.trans e4; cases h5.symm.trans e5
      exact ⟨_, keepIf_eq.mpr ⟨by rw [k1, k2]; exact Bool.and_eq_true_iff.mpr ⟨k3, k4⟩, rfl⟩⟩
  · next h => exact ⟨fun ⟨x, k⟩ => (nomatch k), fun ⟨_, _, _, _, _, e1, e2, e3, e4, e5, _⟩ => (h _ _ _ _ _ e1 e2 e3 e4 e5).elim⟩

theorem SlotFields.inRange_iff {f : SlotFields} : f.inRange = true ↔ f.second ≤ 59 ∧ f.minute ≤ 59 ∧ f.date.all Date.valid = true ∧
    (1 ≤ f.tollDynamic ∧ f.tollDynamic ≤ 8) ∧ (500 ≤ f.tollInterval ∧ f.tollInterval ≤ 10000) ∧ f.countMode.inRange = true ∧
    f.priority ≤ 7 ∧ f.lateLimit ≤ 600 := by
  unfold SlotFields.inRange
  cases f.countMode <;> simp [CountMode.inRange, within_iff, and_assoc]

theorem SlotFields.complete_iff {f : SlotFields} : f.complete = true ↔ (f.enabled = true → f.hours ≠ 0 ∧ (f.date.isSome = true ∨ f.weekdays ≠ 0)) := by
  unfold SlotFields.complete
  cases f.enabled <;> simp

theorem hours_set {n : Nat} : BitVec.ofNat 24 n ≠ 0 ↔ n % 16777216 ≠ 0 := not_congr (BitVec.toNat_eq.trans (by simp))

theorem weekdays_set {n : Nat} (h : n ≤ 127) : BitVec.ofNat 7 n ≠ 0 ↔ n ≠ 0 :=
  not_congr (BitVec.toNat_eq.trans (by simp; omega))

/-- A slot's contents of fields that are in range one by one meet R137 exactly as the wire says. -/
theorem slotNamed_complete {w : SlotWire} {date : Option Date} {kind : SlotKind} {tune : Fin 96} {bell : BellNo} {mode : CountMode}
    (hd : dateOf w = some date) (hw : w.weekdays ≤ 127) : (slotNamed w date kind tune bell mode).complete = true ↔
      (w.enabled = 1 → w.hours % 16777216 ≠ 0 ∧ (w.datePresent = 1 ∨ w.weekdays ≠ 0)) := by
  rw [SlotFields.complete_iff]
  simp only [slotNamed, beq_iff_eq, hours_set, weekdays_set hw, (dateOf_valid hd).2]

theorem slotFieldsOf_judged {w : SlotWire} : (slotFieldsOf w).isSome = true ↔
    w.enabled ≤ 1 ∧ w.second ≤ 59 ∧ w.minute ≤ 59 ∧ w.datePresent ≤ 1 ∧
    (w.datePresent = 1 → Date.valid { year := w.year, month := w.month, day := w.day } = true) ∧ w.weekdays ≤ 127 ∧ w.kind ≤ 1 ∧
    1 ≤ w.tune ∧ w.tune ≤ 96 ∧ w.tollBell ≤ 47 ∧ 1 ≤ w.tollDynamic ∧ w.tollDynamic ≤ 8 ∧ 500 ≤ w.tollInterval ∧ w.tollInterval ≤ 10000 ∧
    w.countMode ≤ 2 ∧ (w.countMode = 0 → 1 ≤ w.n ∧ w.n ≤ 24) ∧ w.priority ≤ 7 ∧ w.lateLimit ≤ 600 ∧
    (w.enabled = 1 → w.hours % 16777216 ≠ 0 ∧ (w.datePresent = 1 ∨ w.weekdays ≠ 0)) := by
  rw [slotFieldsOf_isSome]
  constructor
  · rintro ⟨date, kind, tune, bell, mode, e1, e2, e3, e4, e5, k1, k2, k3, k4⟩
    obtain ⟨d1, d2⟩ := dateOf_isSome.mp ⟨_, e1⟩
    obtain ⟨t1, t2⟩ := tuneOf_isSome.mp ⟨_, e3⟩
    obtain ⟨m1, m2⟩ := countModeOf_isSome.mp ⟨_, e5⟩
    obtain ⟨r1, r2, -, ⟨r3, r4⟩, ⟨r5, r6⟩, -, r7, r8⟩ := SlotFields.inRange_iff.mp k3
    have hw := (within_iff.mp k2).2
    exact ⟨(within_iff.mp k1).2, r1, r2, d1, d2, hw, kindOf_isSome.mp ⟨_, e2⟩, t1, t2, bellOf_isSome.mp ⟨_, e4⟩, r3, r4, r5, r6, m1, m2, r7, r8,
      (slotNamed_complete e1 hw).mp k4⟩
  · rintro ⟨he, r1, r2, d1, d2, hw, hk, t1, t2, hb, r3, r4, r5, r6, m1, m2, r7, r8, hc⟩
    obtain ⟨date, e1⟩ := dateOf_isSome.mpr ⟨d1, d2⟩
    obtain ⟨kind, e2⟩ := kindOf_isSome.mpr hk
    obtain ⟨tune, e3⟩ := tuneOf_isSome.mpr ⟨t1, t2⟩
    obtain ⟨bell, e4⟩ := bellOf_isSome.mpr hb
    obtain ⟨mode, e5⟩ := countModeOf_isSome.mpr ⟨m1, m2⟩
    exact ⟨date, kind, tune, bell, mode, e1, e2, e3, e4, e5, within_iff.mpr ⟨Nat.zero_le _, he⟩, within_iff.mpr ⟨Nat.zero_le _, hw⟩,
      SlotFields.inRange_iff.mpr ⟨r1, r2, (dateOf_valid e1).1, ⟨r3, r4⟩, ⟨r5, r6⟩, countModeOf_inRange e5, r7, r8⟩, (slotNamed_complete e1 hw).mpr hc⟩

/-! #### The requests -/

/-- The marker after a PROGRAM SET: none while the clock is not valid, a later one stands, else the present whole second (R137). -/
theorem State.setMarker_eq (m : Option Nat) : s.setMarker m =
    if s.clock.valid = false then none
    else match m with
      | some d => if s.clock.wall < d then some d else some (s.clock.wall / 1000 * 1000)
      | none => some (s.clock.wall / 1000 * 1000) := by
  unfold State.setMarker
  cases s.clock.valid <;> cases m <;> rfl

theorem ownProgramSet_ok {w : SlotWire} {f : SlotFields} (n : Fin 64) (h : slotFieldsOf w = some f) : ownProgramSet n.val w s =
    (.ok, .programSet n (s.setMarker s.slots[n].marker), { s with slots := s.slots.set n { fields := f, marker := s.setMarker s.slots[n].marker } }) := by
  unfold ownProgramSet
  rw [slotOf_val, h]

theorem ownProgramSet_bad {w : SlotWire} {n : Nat} (h : slotOf n = none ∨ slotFieldsOf w = none) : ownProgramSet n w s = (.badField, .nothing, s) := by
  unfold ownProgramSet
  rcases h with h | h
  · rw [h]
  · rw [h]
    cases slotOf n <;> rfl

/-- Settles O41. -/
theorem programSetJudgesEveryField : Obligations.ProgramSetJudgesEveryField := by
  refine ⟨fun w => slotFieldsOf_judged, fun tag w s h => ⟨fun n hn => ⟨?_, ?_⟩, fun n => ⟨fun hf => ?_, fun f hf => ?_, ?_⟩⟩⟩
  · exact takeRequest_owned h (ownProgramSet_bad (.inl (slotOf_none hn))) ..
  · exact takeRequest_owned h (by unfold ownProgramClear; rw [slotOf_none hn]) ..
  · exact takeRequest_owned h (ownProgramSet_bad (.inr hf)) ..
  · intro marker
    have hm : s.setMarker s.slots[n].marker = marker := State.setMarker_eq _
    exact takeRequest_owned h ((ownProgramSet_ok n hf).trans (by rw [hm])) ..
  · exact takeRequest_owned h (by unfold ownProgramClear; rw [slotOf_val]) ..

end Sys2Proof.Machine

/-! ### Proofs: uploads to the Tune Store (O36 to O38) -/

namespace Sys2Proof.Machine

open Sys2Proof

variable {s : State}

/-! #### TUNE OPEN -/

theorem nameOk_iff {n : List Byte} : nameOk n = true ↔ n.length ≤ 16 ∧ ∀ c ∈ n, 32 ≤ c.toNat ∧ c.toNat ≤ 126 := by
  simp only [nameOk, Bool.and_eq_true, decide_eq_true_eq, List.all_eq_true, within_iff]

/-- The fields of TUNE OPEN lie in their ranges (R101). -/
def openOk (sl a d : Nat) (name : List Byte) : Bool :=
  nameOk name && within sl 10 2000 && within d 1 2048 && decide (a * sl ≤ 600000)

theorem openOk_iff {sl a d : Nat} {name : List Byte} : openOk sl a d name = true ↔
    name.length ≤ 16 ∧ (∀ c ∈ name, 32 ≤ c.toNat ∧ c.toNat ≤ 126) ∧ 10 ≤ sl ∧ sl ≤ 2000 ∧ 1 ≤ d ∧ d ≤ 2048 ∧ a * sl ≤ 600000 := by
  simp only [openOk, Bool.and_eq_true, nameOk_iff, within_iff, decide_eq_true_eq, and_assoc]

/-- The Tune Store without an open upload: its blocks are free again. -/
def TuneStore.cleared (x : TuneStore) : TuneStore :=
  match x.staging with
  | .opened _ => { x with staging := .none }
  | _ => x

/-- The tune of an upload that a TUNE OPEN gives up. -/
def Staging.lost : Staging → Option (Fin 96)
  | .opened u => some u.tune
  | _ => Option.none

/-- The upload a TUNE OPEN begins in given blocks. -/
def Upload.begun (t : Fin 96) (sl a d : Nat) (name : List Byte) (blocks : List Nat) : Upload :=
  { tune := t, name := name, stepLength := sl, anchorStep := a, declared := d, blocks := blocks, events := [], lastStep := none, stepBells := [],
    crc := 0 }

section

variable {t : Fin 96} {sl a d : Nat} {name : List Byte}

theorem ownTuneOpen_noTune {n : Nat} (h : tuneOf n = none) : ownTuneOpen n sl a d name s = (.badField, .nothing, s) := by
  unfold ownTuneOpen; rw [h]

theorem ownTuneOpen_bad (h : openOk sl a d name = false) : ownTuneOpen (t.val + 1) sl a d name s = (.badField, .nothing, s) := by
  unfold ownTuneOpen
  rw [tuneOf_number]
  exact if_pos (by rw [← openOk, h]; rfl)

theorem ownTuneOpen_good (h : openOk sl a d name = true) : ownTuneOpen (t.val + 1) sl a d name s =
    if s.storeBusy then (.busy, .nothing, s)
    else if s.tunes.slots[t].retiring.isSome then (.busy, .nothing, s)
    else if s.tunes.cleared.freeBlocks.length < blocksFor d then (.noSpace, .nothing, s)
    else (.ok, .tuneOpen (blocksFor d) (s.tunes.cleared.freeBlocks.length - blocksFor d) s.tunes.staging.lost,
      s.setStaging (.opened (.begun t sl a d name (s.tunes.cleared.freeBlocks.take (blocksFor d))))) := by
  unfold ownTuneOpen
  rw [tuneOf_number]
  refine (if_neg (by rw [← openOk, h]; decide)).trans ?_
  unfold TuneStore.cleared
  cases s.tunes.staging <;> rfl

end

theorem blocksFor_eq (d : Nat) : blocksFor d = (d + 31) / 32 := rfl

/-- Settles O36. -/
theorem tuneOpenReservesBlocks : Obligations.TuneOpenReservesBlocks := by
  intro tag t sl a d name s h
  extract_lets refused good tunes cleared lost n fresh open_
  have isGood (k : good) : openOk sl a d name = true := openOk_iff.mpr k
  have hcleared : cleared = s.tunes.cleared := by rfl
  have hn : n = blocksFor d := (blocksFor_eq d).symm
  refine ⟨fun m hm => takeRequest_owned h (ownTuneOpen_noTune (tuneOf_none hm)) .., fun k => takeRequest_owned h (ownTuneOpen_bad ?_) ..,
    fun k hb => takeRequest_owned h ((ownTuneOpen_good (isGood k)).trans ?_) ..,
    fun k hw hr hf => takeRequest_owned h ((ownTuneOpen_good (isGood k)).trans ?_) ..,
    fun k hw hr hf => ⟨s.tunes.cleared.freeBlocks.take n, takeRequest_owned h ((ownTuneOpen_good (isGood k)).trans ?_) .., ?_, ?_, fun x hx => ?_⟩⟩
  · exact Bool.eq_false_iff.mpr fun j => k (openOk_iff.mp j)
  · rcases hb with hb | hb
    · exact if_pos (State.storeBusy_true.mpr hb)
    · split
      · rfl
      · exact if_pos (Option.isSome_iff_ne_none.mpr hb)
  · exact (if_neg (by rw [State.storeBusy_false.mpr hw]; decide)).trans ((if_neg (by rw [hr]; decide)).trans (if_pos hf))
  · exact (if_neg (by rw [State.storeBusy_false.mpr hw]; decide)).trans ((if_neg (by rw [hr]; decide)).trans (if_neg (Nat.not_lt.mpr hf)))
  · rw [List.length_take, ← hcleared]
    exact Nat.min_eq_left hf
  · exact (List.take_sublist ..).nodup s.tunes.cleared.freeBlocks_nodup
  · obtain ⟨hlt, hfree⟩ := TuneStore.mem_freeBlocks.mp ((List.take_sublist ..).subset hx)
    exact ⟨hlt, List.count_eq_zero.mp hfree⟩

/-! #### TUNE EVENTS -/

/-- An event is in its place exactly when every staged event may stand before it. -/
theorem Upload.Growing.breaksOrder_false {u : Upload} (h : u.Growing) {e : Event} : u.breaksOrder e = false ↔ ∀ f ∈ u.events, f.precedes e := by
  refine ⟨h.follows, fun hp => ?_⟩
  unfold Upload.breaksOrder
  cases hl : u.events.getLast? with
  | none => rw [h.last, hl]; rfl
  | some g =>
    have hlast : u.lastStep = some g.step := by rw [h.last, hl]; rfl
    have hstep := (hp g (List.mem_of_getLast? hl)).1
    rw [hlast]
    simp only [Bool.or_eq_false_iff, decide_eq_false_iff_not, Bool.and_eq_false_imp, decide_eq_true_eq, List.contains_eq_mem]
    refine ⟨by omega, fun hs hb => ?_⟩
    obtain ⟨f, hf, hfs, hfb⟩ := (h.bells e.bell).mp hb
    rw [hlast] at hfs
    injection hfs with hfs
    exact (hp f hf).2 ⟨by omega, hfb⟩

/-- An upload with more events is the same upload but for what its events are. -/
def Upload.Extends (v u : Upload) : Prop := v = { u with events := v.events, lastStep := v.lastStep, stepBells := v.stepBells }

theorem stageEvents_cons {pos : Nat} {u : Upload} {r : EventRec} {rest : List EventRec} {e : Event} (he : eventOf r = some e) :
    stageEvents pos u (r :: rest) = if u.breaksOrder e then .fails pos .sequence else stageEvents (pos + 1) (u.append e) rest := by
  simp only [stageEvents, he]

/-- The examination of events that keep the list in order appends them all. -/
theorem stageEvents_accepts : ∀ {recs : List EventRec} {es : List Event} {u : Upload} (pos : Nat), u.Growing → recs.map eventOf = es.map some →
    (u.events ++ es).Pairwise Event.precedes → ∃ v, stageEvents pos u recs = .all v ∧ v.events = u.events ++ es
  | [], [], u, _, _, _, _ => ⟨u, rfl, (List.append_nil _).symm⟩
  | r :: recs, e :: es, u, pos, h, hm, ho => by
    obtain ⟨he, hm⟩ := List.cons.inj hm
    have hb : u.breaksOrder e = false := h.breaksOrder_false.mpr fun f hf => (List.pairwise_append.mp ho).2.2 f hf e (List.mem_cons_self ..)
    obtain ⟨v, hv, hev⟩ := stageEvents_accepts (pos + 1) (h.append hb (eventOf_ranged he)) hm (by simpa [Upload.append] using ho)
    exact ⟨v, by rw [stageEvents_cons he, hb]; exact hv, hev.trans (by simp [Upload.append])⟩

/-- What the examination appends is what the frame's events are. -/
theorem stageEvents_appends : ∀ {recs : List EventRec} {pos : Nat} {u v : Upload}, stageEvents pos u recs = .all v →
    v.Extends u ∧ ∃ es, recs.map eventOf = es.map some ∧ v.events = u.events ++ es
  | [], _, u, _, h => by cases h; exact ⟨rfl, [], rfl, (List.append_nil _).symm⟩
  | r :: recs, pos, u, v, h => by
    cases he : eventOf r with
    | none => simp [stageEvents, he] at h
    | some e =>
      rw [stageEvents_cons he] at h
      split at h
      · cases h
      · obtain ⟨hx, es, hm, hv⟩ := stageEvents_appends h
        exact ⟨hx, e :: es, by rw [List.map_cons, hm, he]; rfl, by simpa [Upload.append] using hv⟩

/-- The two results of a frame that is not accepted. -/
theorem stageEvents_fails : ∀ {recs : List EventRec} {pos p : Nat} {u : Upload} {r : Result}, stageEvents pos u recs = .fails p r →
    r = .sequence ∨ r = .badField
  | x :: recs, pos, p, u, r, h => by
    cases he : eventOf x with
    | none => simp only [stageEvents, he] at h; cases h; exact .inr rfl
    | some e =>
      rw [stageEvents_cons he] at h
      split at h
      · cases h; exact .inl rfl
      · exact stageEvents_fails h

theorem Upload.Growing.anchorOk_iff {u : Upload} (h : u.Growing) (hd : 0 < u.declared) :
    u.anchorOk = true ↔ (u.events.length = u.declared → ∀ e, u.events.getLast? = some e → u.anchorStep ≤ e.step) := by
  unfold Upload.anchorOk
  rw [Bool.or_eq_true, decide_eq_true_eq, h.last]
  cases hl : u.events.getLast? with
  | none =>
    have hne : u.events.length ≠ u.declared := by rw [List.getLast?_eq_none_iff.mp hl]; exact Nat.ne_of_lt hd
    exact ⟨fun _ k => absurd k hne, fun _ => .inl hne⟩
  | some g =>
    simp only [Option.map_some, decide_eq_true_eq, Option.some.injEq, forall_eq', ← imp_iff_not_or]

/-- TUNE EVENTS to an open upload that its frame does not go on with. -/
theorem ownTuneEvents_astray {u : Upload} {tune first : Nat} {recs : List EventRec} (h : s.tunes.staging = .opened u)
    (hc : tuneNumber u.tune ≠ tune ∨ u.events.length ≠ first ∨ u.declared < u.events.length + recs.length) :
    ownTuneEvents tune first recs s = (.sequence, .tuneEvents u.events.length 0, s) := by
  unfold ownTuneEvents
  rw [h]
  exact if_pos hc

/-- What an open upload makes of the examination of a frame. -/
def Staged.judged (x : Staged) (u : Upload) (s : State) : Result × ReplyBody × State :=
  match x with
  | .fails pos r => (r, .tuneEvents u.events.length pos, s)
  | .all v => if v.anchorOk then (.ok, .tuneEventsOk v.events.length, s.setStaging (.opened v)) else (.badField, .tuneEvents u.events.length 0, s)

theorem ownTuneEvents_examined {u : Upload} {tune first : Nat} {recs : List EventRec} (h : s.tunes.staging = .opened u)
    (hc : ¬ (tuneNumber u.tune ≠ tune ∨ u.events.length ≠ first ∨ u.declared < u.events.length + recs.length)) :
    ownTuneEvents tune first recs s = (stageEvents 1 u recs).judged u s := by
  unfold ownTuneEvents
  rw [h]
  refine (if_neg hc).trans ?_
  cases stageEvents 1 u recs <;> rfl

/-- TUNE EVENTS with a count of events in its range reaches the Tune Store. -/
theorem tuneEvents_owned (h : s.Takes) {tune first : Nat} {recs : List EventRec} (h1 : 1 ≤ recs.length) (h2 : recs.length ≤ 60) {r : Result}
    {body : ReplyBody} {t : State} (e : ownTuneEvents tune first recs s = (r, body, t)) (tag : Byte) :
    exec (.tuneEvents tag tune first recs) s = .next (t.answered 0x11 tag r body) := by
  have := takeRequest_owned h e 0x11 tag
  rwa [← decide_eq_true (And.intro h1 h2)] at this

/-- Settles O37. -/
theorem tuneEventsAcceptOrderedLists : Obligations.TuneEventsAcceptOrderedLists := by
  intro tag tune first recs s h h1 h2
  refine ⟨fun u hu law => ?_, fun u hu => tuneEvents_owned h h1 h2 (by unfold ownTuneEvents; rw [hu]) tag,
    fun hu => tuneEvents_owned h h1 h2 (by unfold ownTuneEvents; rw [hu]) tag⟩
  intro good
  have grow := law.growing
  have declared := law.anchored.1
  constructor
  · rintro es ⟨rfl, rfl, hm, hc, ho, ha⟩
    have hlen : recs.length = es.length := by simpa using congrArg List.length hm
    obtain ⟨v, hv, hev⟩ := stageEvents_accepts 1 grow hm (eventsOrdered_iff.mp ho)
    obtain ⟨vgrow, -⟩ := stageEvents_growing grow hv
    obtain ⟨vext, -⟩ := stageEvents_appends hv
    obtain ⟨-, -, vd, va⟩ := stageEvents_fixed hv
    have anchored : v.anchorOk = true := (vgrow.anchorOk_iff (vd ▸ declared)).mpr (by rw [hev, vd, va, List.length_append]; exact ha)
    refine ⟨v.lastStep, v.stepBells, tuneEvents_owned h h1 h2 ((ownTuneEvents_examined hu (by rw [hlen]; omega)).trans ?_) tag⟩
    rw [hv]
    refine (if_pos anchored).trans ?_
    rw [hev, List.length_append]
    have : v = { u with events := u.events ++ es, lastStep := v.lastStep, stepBells := v.stepBells } := hev ▸ vext
    rw [← this]
    rfl
  · intro bad
    by_cases hc : tuneNumber u.tune ≠ tune ∨ u.events.length ≠ first ∨ u.declared < u.events.length + recs.length
    · exact ⟨_, _, .inl rfl, tuneEvents_owned h h1 h2 (ownTuneEvents_astray hu hc) tag⟩
    · have own := ownTuneEvents_examined (recs := recs) hu hc
      cases hv : stageEvents 1 u recs with
      | fails p r =>
        exact ⟨_, _, stageEvents_fails hv, tuneEvents_owned h h1 h2 (own.trans (by rw [hv]; rfl)) tag⟩
      | all v =>
        obtain ⟨vgrow, -⟩ := stageEvents_growing grow hv
        obtain ⟨-, es, hm, hev⟩ := stageEvents_appends hv
        obtain ⟨-, -, vd, va⟩ := stageEvents_fixed hv
        have hlen : recs.length = es.length := by simpa using congrArg List.length hm
        have unanchored : v.anchorOk = false := by
          refine Bool.eq_false_iff.mpr fun k => bad es ?_
          have := (vgrow.anchorOk_iff (vd ▸ declared)).mp k
          rw [hev, vd, va, List.length_append] at this
          exact ⟨by omega, by omega, hm, by omega, eventsOrdered_iff.mpr (hev ▸ vgrow.ordered), this⟩
        exact ⟨_, _, .inr rfl, tuneEvents_owned h h1 h2 (own.trans (by rw [hv]; exact if_neg (by rw [unanchored]; decide))) tag⟩

/-! #### TUNE CLOSE and TUNE ABORT -/

theorem NvStore.overwrite_version (n : NvStore) (blocks : List Nat) (i : Fin 96) :
    (n.overwrite blocks).entries[i].map (·.version) = n.entries[i].map (·.version) := by
  change (n.overwrite blocks).entries[i.val].map (·.version) = n.entries[i.val].map (·.version)
  unfold NvStore.overwrite
  cases h : n.entries[i.val] <;> simp [h]

section

variable {u : Upload} {tune count crc : Nat}

theorem ownTuneClose_opened (h : s.tunes.staging = .opened u) : ownTuneClose tune count crc s =
    if tuneNumber u.tune ≠ tune ∨ count ≠ u.events.length ∨ count ≠ u.declared then
      (.sequence, .tuneCloseSequence u.events.length u.declared, s)
    else if eventCrc u.events ≠ crc then (.check, .tuneCloseCheck (eventCrc u.events), s)
    else if s.storeBusy then (.busy, .nothing, s)
    else (.started, .tuneCloseStarted, { s with
      tunes := { s.tunes with staging := .committing { u with crc := eventCrc u.events } }
      nv := { s.nv with entries := (s.nv.overwrite u.blocks).entries, write := some .commit } }) := by
  unfold ownTuneClose
  rw [h]
  rfl

end

/-- Settles O38. -/
theorem tuneCloseStartsTheCommit : Obligations.TuneCloseStartsTheCommit := by
  intro tag tune count crc s h
  refine ⟨fun u hu => ?_, fun u hu => ⟨takeRequest_owned h (by unfold ownTuneClose; rw [hu]) .., takeRequest_owned h (by unfold ownTuneAbort; rw [hu]) ..⟩,
    fun hu => ⟨takeRequest_owned h (by unfold ownTuneClose; rw [hu]) .., takeRequest_owned h (by unfold ownTuneAbort; rw [hu]) ..⟩⟩
  intro complete found
  have own := ownTuneClose_opened (tune := tune) (count := count) (crc := crc) hu
  have named (k : complete) : ¬ (tuneNumber u.tune ≠ tune ∨ count ≠ u.events.length ∨ count ≠ u.declared) := by
    obtain ⟨k1, k2, k3⟩ := k
    rw [not_or, not_or, not_not, not_not, not_not]
    exact ⟨k1.symm, k2, k3⟩
  refine ⟨fun k => takeRequest_owned h (own.trans (if_pos ?_)) .., fun k hf => takeRequest_owned h (own.trans ((if_neg (named k)).trans (if_pos hf))) ..,
    fun k hf hw => takeRequest_owned h (own.trans ((if_neg (named k)).trans ((if_neg (not_not.mpr hf)).trans (if_pos (State.storeBusy_true.mpr hw))))) ..,
    fun k hf hw => ⟨(s.nv.overwrite u.blocks).entries, takeRequest_owned h (own.trans ((if_neg (named k)).trans ((if_neg (not_not.mpr hf)).trans
      (if_neg (by rw [State.storeBusy_false.mpr hw]; decide))))) .., s.nv.overwrite_version u.blocks⟩,
    takeRequest_owned h (by unfold ownTuneAbort; rw [hu]; rfl) ..⟩
  by_contra hn
  rw [not_or, not_or, not_not, not_not, not_not] at hn
  obtain ⟨k1, k2, k3⟩ := hn
  exact k ⟨k1.symm, k2, k3⟩

end Sys2Proof.Machine

/-! ### Proofs: the ends of commits and erases (O39, O40) -/

namespace Sys2Proof.Machine

open Sys2Proof

variable {s : State}

/-! #### The directory switch -/

/-- The Tune Store after the directory switch of an upload (R105). -/
def TuneStore.switched (x : TuneStore) (u : Upload) : TuneStore :=
  let y : TuneStore := { x with staging := .none, nextSerial := x.nextSerial + 1 }
  (y.retire u.tune).setVersions u.tune (some (u.version x.nextSerial)) ((y.retire u.tune).retiringOf u.tune)

/-- The state after the directory switch of an upload, before its report. -/
def State.switched (s : State) (u : Upload) : State :=
  { s with
    tunes := s.tunes.switched u
    nv := { s.nv with
      entries := s.nv.entries.set u.tune (some { version := u.version s.tunes.nextSerial, crcMatches := true, countReadable := true }), write := none } }

theorem State.switchDirectory_eq (u : Upload) : s.switchDirectory u =
    (s.switched u).tuneReport .committed u.tune .commit u.events.length u.blocks.length none := rfl

section

variable (x : TuneStore) (u : Upload)

theorem TuneStore.switched_current : (x.switched u).slots[u.tune].current = some (u.version x.nextSerial) := by
  unfold TuneStore.switched
  rw [TuneStore.setVersions_self]

theorem TuneStore.switched_retiringOf : (x.switched u).retiringOf u.tune =
    (x.slots[u.tune].current.toList.filter fun v => decide (0 < v.users)) ++ x.retiringOf u.tune := by
  unfold TuneStore.switched
  rw [TuneStore.setVersions_retiringOf, TuneStore.retire_retiringOf]
  rfl

theorem TuneStore.switched_retiring : (x.switched u).slots[u.tune].retiring = ((x.switched u).retiringOf u.tune).head? := by
  unfold TuneStore.switched
  rw [TuneStore.setVersions_self, TuneStore.setVersions_retiringOf]

variable {x u} in
theorem TuneStore.switched_other {i : Fin 96} (h : i ≠ u.tune) :
    (x.switched u).slots[i] = x.slots[i] ∧ (x.switched u).retiringOf i = x.retiringOf i := by
  unfold TuneStore.switched
  constructor
  · rw [TuneStore.setVersions_other _ h, TuneStore.retire, TuneStore.setVersions_other _ h]
  · rw [TuneStore.setVersions_retiringOf_other _ h, TuneStore.retire, TuneStore.setVersions_retiringOf_other _ h]
    rfl

end

theorem exec_directorySwitch {u : Upload} (hu : s.tunes.staging = .committing u) (hw : s.nv.write = some .commit) :
    exec .directorySwitch s = .next (s.switchDirectory u).transmit := by
  refine (show exec .directorySwitch s = execDirectorySwitch s from rfl).trans ?_
  unfold execDirectorySwitch
  rw [hu, hw]
  rfl

theorem exec_commitFailed {u : Upload} (hu : s.tunes.staging = .committing u) (hw : s.nv.write = some .commit) : exec .commitFailed s =
    .next (State.tuneReport { s with tunes := { s.tunes with staging := .none }, nv := { s.nv with write := none } }
      .failed u.tune .commit u.events.length u.blocks.length (some .write)).transmit := by
  refine (show exec .commitFailed s = execCommitFailed s from rfl).trans ?_
  unfold execCommitFailed
  rw [hu, hw]
  rfl

theorem exec_directorySwitch_idle (h : s.nv.write ≠ some .commit) : exec .directorySwitch s = .next s.transmit := by
  refine (show exec .directorySwitch s = execDirectorySwitch s from rfl).trans ?_
  unfold execDirectorySwitch
  split
  · next hw => exact absurd hw h
  · rfl

theorem exec_commitFailed_idle (h : s.nv.write ≠ some .commit) : exec .commitFailed s = .next s.transmit := by
  refine (show exec .commitFailed s = execCommitFailed s from rfl).trans ?_
  unfold execCommitFailed
  split
  · next hw => exact absurd hw h
  · rfl

/-- Settles O39. -/
theorem commitsEndInASwitchOrFail : Obligations.CommitsEndInASwitchOrFail := by
  refine fun s => ⟨fun u hu hw => ⟨⟨s.switched u, u.version s.tunes.nextSerial, (s.switched u).freeCount, exec_directorySwitch hu hw, rfl,
    s.tunes.switched_current u, s.tunes.switched_retiringOf u, s.tunes.switched_retiring u, fun i hi => ?_, rfl, rfl, rfl, ?_, rfl⟩,
    ⟨_, exec_commitFailed hu hw⟩⟩, fun h => ⟨exec_directorySwitch_idle h, exec_commitFailed_idle h⟩⟩
  · obtain ⟨slots, retiring⟩ := TuneStore.switched_other (x := s.tunes) hi
    exact ⟨slots, retiring, Vector.getElem_set_ne u.tune.isLt i.isLt fun k => hi (Fin.ext k.symm)⟩
  · exact Vector.getElem_set_self u.tune.isLt

/-! #### TUNE DELETE and the erase's end -/

/-- The Tune Store after the CURRENT version of a tune has left its place. -/
theorem TuneStore.retire_of_current {x : TuneStore} {t : Fin 96} {v : Version} (h : x.slots[t].current = some v) : x.retire t =
    x.setVersions t none (if 0 < v.users then v :: x.retiringOf t else x.retiringOf t) := by
  unfold TuneStore.retire
  rw [h]
  by_cases hv : 0 < v.users <;> simp [hv]

theorem ownTuneDelete_current {t : Fin 96} {v : Version} (h : s.tunes.slots[t].current = some v) : ownTuneDelete (t.val + 1) s =
    if s.storeBusy then (.busy, .nothing, s)
    else (.started, .nothing, (s.modTunes (·.retire t)).startWrite (.erase t v.events.length v.blocks.length)) := by
  unfold ownTuneDelete State.current
  rw [tuneOf_number]
  dsimp only
  rw [h]

theorem exec_eraseEnd {t : Fin 96} {n k : Nat} (h : s.nv.write = some (.erase t n k)) : exec (.eraseEnd true) s =
    .next (State.tuneReport { s with nv := { s.nv with entries := s.nv.entries.set t none, write := none } } .erased t .erase n k none).transmit := by
  refine (show exec (.eraseEnd true) s = execEraseEnd true s from rfl).trans ?_
  unfold execEraseEnd
  rw [h]
  rfl

theorem exec_eraseEnd_failed {t : Fin 96} {n k : Nat} (h : s.nv.write = some (.erase t n k)) : exec (.eraseEnd false) s =
    .next (State.tuneReport { s with nv := { s.nv with write := none } } .failed t .erase n k (some .write)).transmit := by
  refine (show exec (.eraseEnd false) s = execEraseEnd false s from rfl).trans ?_
  unfold execEraseEnd
  rw [h]
  rfl

theorem exec_eraseEnd_idle (h : ∀ i n k, s.nv.write ≠ some (.erase i n k)) (m : Bool) : exec (.eraseEnd m) s = .next s.transmit := by
  refine (show exec (.eraseEnd m) s = execEraseEnd m s from rfl).trans ?_
  unfold execEraseEnd
  split
  · next hw => exact absurd hw (h _ _ _)
  · rfl

/-- Settles O40. -/
theorem tuneDeleteErasesItsEntry : Obligations.TuneDeleteErasesItsEntry := by
  refine fun tag t s => ⟨fun h => ⟨fun m hm => ?_, fun hc => ?_, fun v hv => ⟨fun hw => ?_, fun hw => ?_⟩⟩,
    fun n k hw => ⟨⟨_, exec_eraseEnd hw⟩, ⟨_, exec_eraseEnd_failed hw⟩⟩, exec_eraseEnd_idle⟩
  · exact takeRequest_owned h (by unfold ownTuneDelete; rw [tuneOf_none hm]) ..
  · refine takeRequest_owned h ?_ ..
    unfold ownTuneDelete State.current
    rw [tuneOf_number]
    dsimp only
    rw [hc]
  · exact takeRequest_owned h ((ownTuneDelete_current hv).trans (if_pos (State.storeBusy_true.mpr hw))) ..
  · intro retiring
    refine takeRequest_owned h ((ownTuneDelete_current hv).trans ((if_neg (by rw [State.storeBusy_false.mpr hw]; decide)).trans ?_)) ..
    unfold State.modTunes
    dsimp only
    rw [TuneStore.retire_of_current hv]
    rfl

end Sys2Proof.Machine

/-! ### Proofs: plays that are stopped or cut

What the end of a play's notes leaves of the Play Engine, and what the consequences of an event leave of a play whose notes are gone. -/

namespace Sys2Proof.Machine

open Sys2Proof

variable {s : State}

/-! #### The notes of a play go -/

/-- A change of a play's counts of queued and dropped notes alone. -/
def Recounts (g : Play → Play) : Prop := ∀ q, g q = { q with queued := (g q).queued, dropped := (g q).dropped }

theorem Recounts.id {g : Play → Play} (h : Recounts g) (q : Play) : (g q).id = q.id := by rw [h q]

theorem Recounts.comp {f g : Play → Play} (hf : Recounts f) (hg : Recounts g) : Recounts fun q => f (g q) := fun q =>
  (hf (g q)).trans (congrArg (fun x : Play => { x with queued := (f (g q)).queued, dropped := (f (g q)).dropped }) (hg q))

theorem onlyId_comp {i : Nat} {f g : Play → Play} (hg : Recounts g) (q : Play) : onlyId i f (onlyId i g q) = onlyId i (fun q => f (g q)) q := by
  unfold onlyId
  by_cases h : i ≠ 0 ∧ q.id = i
  · rw [if_pos h, if_pos (by rw [hg.id]; exact h), if_pos h]
  · rw [if_neg h, if_neg h, if_neg h]

/-- The Play Engine after some notes of the play of an id have gone. -/
def PlayEngine.Recounted (e e' : PlayEngine) (i : Nat) : Prop := ∃ g, Recounts g ∧ e' = e.each (onlyId i g)

theorem PlayEngine.each_same (e : PlayEngine) : e.each (fun q => q) = e := by
  simp [PlayEngine.each]

theorem PlayEngine.Recounted.refl (e : PlayEngine) (i : Nat) : e.Recounted e i :=
  ⟨fun q => q, fun _ => rfl, by rw [show onlyId i (fun q => q) = fun q => q from funext fun q => ite_self q, e.each_same]⟩

theorem PlayEngine.Recounted.modPlay {e : PlayEngine} {i : Nat} (h : e.Recounted s.engine i) {f : Play → Play} (hf : Recounts f) :
    e.Recounted (s.modPlay i f).engine i := by
  obtain ⟨g, hg, hs⟩ := h
  refine ⟨fun q => f (g q), hf.comp hg, ?_⟩
  rw [State.modPlay_eq]
  show s.engine.each (onlyId i f) = _
  rw [hs, PlayEngine.each_each]
  exact congrArg e.each (funext fun q => onlyId_comp hg q)

theorem State.discardHeld_recounted (i : Nat) : s.engine.Recounted (s.discardHeld fun h => decide (h.playId = i)).engine i := by
  unfold State.discardHeld
  refine foldl_induct (P := fun t : State => s.engine.Recounted t.engine i) (fun t h hm ht => ?_) (.refl _ i)
  have hi : h.playId = i := by
    rcases List.mem_append.mp hm with hm | hm <;> exact of_decide_eq_true (List.mem_filter.mp hm).2
  unfold State.countDiscarded
  rw [hi]
  exact ht.modPlay fun q => rfl

theorem State.removeEntries_recounted (i : Nat) : s.engine.Recounted (s.removeEntries fun e => decide (e.playId = i)).engine i := by
  have taken : s.engine.Recounted (s.takeOut fun e => decide (e.playId = i)).engine i := by
    unfold State.takeOut
    refine foldl_induct (P := fun t : State => s.engine.Recounted t.engine i) (fun t e hm ht => ?_) (.refl _ i)
    have hi : e.playId = i := of_decide_eq_true (List.mem_filter.mp hm).2
    unfold State.countRemoved
    rw [hi]
    exact ht.modPlay fun q => rfl
  unfold State.removeEntries
  exact foldl_induct (P := fun t : State => s.engine.Recounted t.engine i) (fun t e _ ht => by simpa using ht) (by simpa using taken)

theorem PlayEngine.Recounted.trans {e e' e'' : PlayEngine} {i : Nat} (h : e.Recounted e' i) (k : e'.Recounted e'' i) : e.Recounted e'' i := by
  obtain ⟨g, hg, rfl⟩ := h
  obtain ⟨f, hf, rfl⟩ := k
  exact ⟨fun q => f (g q), hf.comp hg, by rw [PlayEngine.each_each]; exact congrArg e.each (funext fun q => onlyId_comp hg q)⟩

theorem State.discardPlay_recounted (i : Nat) : s.engine.Recounted (s.discardPlay i).engine i :=
  (State.discardHeld_recounted i).trans (State.removeEntries_recounted i)

theorem State.discardPlay_queue (i : Nat) : (s.discardPlay i).sched.queue = s.sched.queue.filter fun e => !decide (e.playId = i) := by
  unfold State.discardPlay
  rw [State.removeEntries_queue, State.discardHeld_sched]

/-- The notes that still wait are notes of other plays. -/
theorem State.discardPlay_notes {i : Nat} {h : Held} (hh : h ∈ (s.discardPlay i).notes) : h ∈ s.notes ∧ h.playId ≠ i := by
  have removed : h ∈ (s.discardHeld fun h => decide (h.playId = i)).notes := by
    revert hh
    unfold State.discardPlay State.removeEntries
    refine foldl_induct (P := fun t : State => h ∈ t.notes → h ∈ (s.discardHeld fun h => decide (h.playId = i)).notes) (fun t e _ k hm => k ?_) fun hm => ?_
    · simpa [State.notes] using hm
    · have := State.grantSlots_notes hm
      rwa [State.notes, State.takeOut_sched] at this
  rw [State.mem_notes, State.discardHeld_sched] at removed
  rw [State.mem_notes]
  simp only [List.mem_filter, Bool.not_eq_true', decide_eq_false_iff_not] at removed
  rcases removed with ⟨h1, h2⟩ | ⟨g, ⟨h1, h2⟩, rfl⟩
  · exact ⟨.inl h1, h2⟩
  · exact ⟨.inr ⟨g, h1, rfl⟩, h2⟩

/-- The play's outcome is fixed and its notes have gone (R142, R151). -/
def State.haltPlay (s : State) (i : Nat) (f : FixedOutcome) : State :=
  (s.modPlay i fun v => { v with fixed := some f, state := .draining }).discardPlay i

/-- A play whose outcome is fixed, with given counts. -/
def Play.halted (q : Play) (f : FixedOutcome) (queued dropped : Nat) : Play :=
  { q with fixed := some f, state := .draining, queued := queued, dropped := dropped }

theorem State.haltPlay_engine {p : PlayerNo} {q : Play} (hi : s.OwnId p q) (h0 : q.id ≠ 0) (f : FixedOutcome) :
    ∃ n m, (s.haltPlay q.id f).engine = s.engine.setPlayer p { s.player p with play := some (q.halted f n m) } := by
  obtain ⟨g, hg, he⟩ := (s.modPlay q.id fun v => { v with fixed := some f, state := .draining }).discardPlay_recounted q.id
  refine ⟨(g { q with fixed := some f, state := .draining }).queued, (g { q with fixed := some f, state := .draining }).dropped, ?_⟩
  unfold State.haltPlay
  rw [he, State.modPlay_eq]
  show (s.engine.each (onlyId q.id _)).each (onlyId q.id g) = _
  rw [PlayEngine.each_each, hi.each fun x hx => by rw [onlyId_ne _ hx, onlyId_ne _ hx], onlyId_self h0]
  have := onlyId_self (q := { q with fixed := some f, state := .draining }) h0 g
  rw [this, hg]
  rfl

theorem State.haltPlay_queue (i : Nat) (f : FixedOutcome) : (s.haltPlay i f).sched.queue = s.sched.queue.filter fun e => !decide (e.playId = i) := by
  unfold State.haltPlay
  rw [State.discardPlay_queue]
  simp

theorem State.haltPlay_notes {i : Nat} {f : FixedOutcome} {h : Held} (hh : h ∈ (s.haltPlay i f).notes) : h ∈ s.notes ∧ h.playId ≠ i := by
  have := State.discardPlay_notes hh
  simpa [State.notes] using this

/-! #### What the consequences leave of it -/

/-- The plays of an id are gone, or one is left, on a given player. -/
structure PlayEngine.Left (e : PlayEngine) (i : Nat) (p : PlayerNo) (x : Option Play) : Prop where
  kept : ∀ q, x = some q → (e.player p).play = some q
  running : ∀ p' q, (e.player p').play = some q → q.id = i → x = some q
  incoming : ∀ p' q, (e.player p').incoming = some q → q.id ≠ i
  waiting : ∀ q ∈ e.waiting, q.id ≠ i

/-- A play that its fixed outcome keeps from going on, and whose drives keep it from its end. -/
structure Play.Hangs (q : Play) : Prop where
  stays : q.endsNow = none
  fixed : q.fixed ≠ none
  draining : q.state = .draining

namespace PlayEngine.Left

variable {e : PlayEngine} {i : Nat} {p : PlayerNo} {x : Option Play}

theorem setPlayer (h : e.Left i p x) {p' : PlayerNo} {y : Player} (hp : ∀ q, x = some q → p' ≠ p) (hy : ∀ q, y.play = some q → q.id ≠ i)
    (hi : ∀ q, y.incoming = some q → q.id ≠ i) : (e.setPlayer p' y).Left i p x := by
  refine ⟨fun q hq => ?_, fun p'' q hq hid => ?_, fun p'' q hq => ?_, by cases p' <;> exact h.waiting⟩
  · rw [PlayEngine.player_setPlayer_ne _ (hp q hq)]; exact h.kept q hq
  · by_cases k : p' = p''
    · subst k; rw [PlayEngine.player_setPlayer_self] at hq; exact absurd hid (hy q hq)
    · rw [PlayEngine.player_setPlayer_ne _ k] at hq; exact h.running p'' q hq hid
  · by_cases k : p' = p''
    · subst k; rw [PlayEngine.player_setPlayer_self] at hq; exact hi q hq
    · rw [PlayEngine.player_setPlayer_ne _ k] at hq; exact h.incoming p'' q hq

/-- A change of the plays of another id. -/
theorem each (h : e.Left i p x) {g : Play → Play} (hg : ∀ q, (g q).id = q.id) (hs : ∀ q, q.id = i → g q = q) (hx : ∀ q, x = some q → q.id = i) :
    (e.each g).Left i p x := by
  refine ⟨fun q hq => ?_, fun p' q hq hid => ?_, fun p' q hq => ?_, fun q hq => ?_⟩
  · rw [PlayEngine.each_player, h.kept q hq, Option.map_some, hs q (hx q hq)]
  · rw [PlayEngine.each_player] at hq
    obtain ⟨q₀, h₀, rfl⟩ := Option.map_eq_some_iff.mp hq
    rw [hg] at hid
    rw [hs q₀ hid]
    exact h.running p' q₀ h₀ hid
  · rw [PlayEngine.each_player] at hq
    obtain ⟨q₀, h₀, rfl⟩ := Option.map_eq_some_iff.mp hq
    rw [hg]
    exact h.incoming p' q₀ h₀
  · obtain ⟨q₀, h₀, rfl⟩ := List.mem_map.mp hq
    rw [hg]
    exact h.waiting q₀ h₀

theorem drainIfDone (h : s.engine.Left i p x) (hx : ∀ q, x = some q → q.Hangs) (p' : PlayerNo) : (s.drainIfDone p').engine.Left i p x := by
  unfold State.drainIfDone
  split
  · next q hq =>
    split
    · next hf =>
      have other : ∀ q', x = some q' → q' ≠ q := fun q' hq' k => by
        have := (hx q' hq').draining
        rw [k, hf.1] at this
        cases this
      refine h.setPlayer (fun q' hq' k => ?_) (fun y hy hid => ?_) fun y hy => h.incoming p' y hy
      · have := h.kept q' hq'
        rw [← k] at this
        exact other q' hq' (Option.some.inj (this.symm.trans hq))
      · cases hy
        exact other q (h.running p' q hq hid) rfl
    · exact h
  · exact h

end PlayEngine.Left

/-- What is left of a play whose notes have gone: its record or none, no entry and no note that waits. -/
structure State.Cleared (s : State) (i : Nat) (p : PlayerNo) (x : Option Play) : Prop where
  left : s.engine.Left i p x
  queue : ∀ e ∈ s.sched.queue, e.playId ≠ i
  notes : ∀ h ∈ s.notes, h.playId ≠ i

namespace State.Cleared

variable {i : Nat} {p : PlayerNo} {x : Option Play}

theorem congr {t : State} (h : s.Cleared i p x) (he : t.engine.Left i p x) (hs : t.sched = s.sched) : t.Cleared i p x :=
  ⟨he, by rw [hs]; exact h.queue, by unfold State.notes; rw [hs]; exact h.notes⟩

theorem feedOne (h : s.Cleared i p x) (hx : ∀ q, x = some q → q.Hangs ∧ q.id = i) (p' : PlayerNo) : (s.feedOne p').2.Cleared i p x := by
  have fed {q : Play} (hq : s.feeder p' = some q) : q.id ≠ i := fun k => by
    obtain ⟨h1, -, h3⟩ := State.feeder_eq hq
    exact (hx q (h.left.running p' q h1 k)).1.fixed h3
  refine ⟨State.feedOne_engine (P := fun e => e.Left i p x) (fun j hj t f hf ht => ?_) (fun t ht => ht.drainIfDone (fun q hq => (hx q hq).1) p') h.left,
    fun e he => ?_, fun n hn => ?_⟩
  · have hne : j ≠ i := by
      rcases hj with ⟨e, he, rfl⟩ | ⟨q, hq, rfl⟩
      · exact h.queue e he
      · exact fed hq
    rw [State.modPlay_eq]
    refine ht.each (g := onlyId j f) (fun q => ?_) (fun q hq => onlyId_ne f (by rw [hq]; exact hne.symm)) fun q hq => (hx q hq).2
    unfold onlyId
    split
    · exact hf.id q
    · rfl
  · rcases (State.feedOne_brings (s := s) p').queue e he with ⟨y, hy, hye⟩ | hn
    · exact hye.playId ▸ h.queue y hy
    · obtain ⟨q, b, d, hq, -, hid⟩ := hn.fed
      exact hid ▸ fed hq
  · rcases (State.feedOne_brings (s := s) p').notes n hn with hm | ⟨q, hq, hid⟩
    · exact h.notes n hm
    · exact hid ▸ fed hq

theorem startPlay {t : State} (h : s.Cleared i p x) (hx : ∀ q, x = some q → (s.player p).play = some q) {p' : PlayerNo} {q : Play}
    (hp : (s.player p').play = none) (hq : q.id ≠ i) (he : t.engine.Left i p x) (hs : t.sched = s.sched) : (t.startPlay p' q).Cleared i p x := by
  obtain ⟨y, hy, hin, hplay⟩ := State.startPlay_engine (s := t) p' q
  refine h.congr ?_ (by simp [hs])
  rw [hy]
  refine he.setPlayer (fun q' hq' k => ?_) (fun z hz => ?_) fun z hz => by rw [hin] at hz; cases hz
  · have := hx q' hq'
    rw [← k, hp] at this
    cases this
  · rcases hplay with k | ⟨kind, k⟩ <;> rw [k] at hz <;> cases hz
    exact hq

theorem withoutHead (h : s.engine.Left i p x) {q : Play} {rest : List Play} (hw : s.engine.waiting = q :: rest) : (s.setWaiting rest).engine.Left i p x :=
  ⟨h.kept, h.running, h.incoming, fun y hy => h.waiting y (hw ▸ List.mem_cons_of_mem q hy)⟩

/-- The consequences of an event bring no note and no record of the play back. -/
theorem settleFrom (h : s.Cleared i p x) (hx : ∀ q, x = some q → q.Hangs ∧ q.id = i) (n : Nat) (a : List PlayerNo) :
    (State.settleFrom n a s).Cleared i p x := by
  refine State.settleFrom_induct (P := fun _ s => s.Cleared i p x) (fun a s p' o ho h => ?_) (fun p' a s h => h.feedOne hx p') (fun _ _ _ h => h)
    (fun s p' q hr h => ?_) (fun s q rest hw h => ?_) (fun s p' q rest _ hp hw h => ?_) n a s h
  · refine h.congr ?_ (by simp)
    rw [State.endPlay_engine]
    refine h.left.setPlayer (fun q hq k => ?_) (fun q hq => by cases hq) (h.left.incoming p')
    obtain ⟨q', h1, h2⟩ := State.ending_eq ho
    have hk := h.left.kept q hq
    rw [← k] at hk
    cases hk.symm.trans h1
    rw [(hx q hq).1.stays] at h2
    cases h2
  · obtain ⟨h1, h2⟩ := State.incomingReady_eq hr
    exact h.startPlay h.left.kept h1 (h.left.incoming p' q h2) h.left rfl
  · exact h.congr (by simpa using withoutHead h.left hw) (by simp)
  · exact h.startPlay h.left.kept (Player.isFree_iff.mp (State.freePlayer_eq hp)).1 (h.left.waiting q (hw ▸ List.mem_cons_self)) (withoutHead h.left hw) rfl

theorem settle (h : s.Cleared i p x) (hx : ∀ q, x = some q → q.Hangs ∧ q.id = i) : s.settle.Cleared i p x := h.settleFrom hx _ _

theorem gone (h : s.Cleared i p none) : ∀ q ∈ s.playRecords, q.id ≠ i := by
  intro q hq
  have running (p' : PlayerNo) (k : (s.player p').play = some q) : q.id ≠ i := fun hid => by cases h.left.running p' q k hid
  simp only [State.playRecords, List.mem_append, Option.mem_toList, or_assoc] at hq
  rcases hq with k | k | k | k | k
  · exact running .p0 k
  · exact h.left.incoming .p0 q k
  · exact running .p1 k
  · exact h.left.incoming .p1 q k
  · exact h.left.waiting q k

end State.Cleared

/-- With no play waiting, a player that is free stays free. -/
theorem State.settle_free {p : PlayerNo} (h : s.player p = { play := none, incoming := none }) (hw : s.engine.waiting = []) :
    s.settle.player p = { play := none, incoming := none } := by
  refine (State.settleFrom_induct (P := fun _ s => s.player p = { play := none, incoming := none } ∧ s.engine.waiting = []) (fun a s p' o ho h => ?_)
    (fun p' a s h => ?_) (fun _ _ _ h => h) (fun s p' q hr h => ?_) (fun s q rest hw' h => ?_) (fun s p' q rest _ _ hw' h => ?_) _ _ s ⟨h, hw⟩).1
  · obtain ⟨q, hq, -⟩ := State.ending_eq ho
    have hne : p' ≠ p := fun k => by rw [k, h.1] at hq; cases hq
    rw [State.player, State.endPlay_engine, PlayEngine.player_setPlayer_ne _ hne]
    exact ⟨h.1, by cases p' <;> exact h.2⟩
  · refine State.feedOne_engine (P := fun e => e.player p = { play := none, incoming := none } ∧ e.waiting = []) (fun j _ t f _ ht => ?_) (fun t ht => ?_) h
    · rw [State.modPlay_eq]
      show (PlayEngine.each _ _).player p = _ ∧ (PlayEngine.each _ _).waiting = []
      rw [PlayEngine.each_player, ht.1]
      exact ⟨rfl, by simp [PlayEngine.each, ht.2]⟩
    · unfold State.drainIfDone
      split
      · next q hq =>
        have hne : p' ≠ p := fun k => by rw [k, State.player, ht.1] at hq; cases hq
        split
        · show (PlayEngine.setPlayer _ _ _).player p = _ ∧ (PlayEngine.setPlayer _ _ _).waiting = []
          rw [PlayEngine.player_setPlayer_ne _ hne]
          exact ⟨ht.1, by cases p' <;> exact ht.2⟩
        · exact ht
      · exact ht
  · obtain ⟨-, hq⟩ := State.incomingReady_eq hr
    have hne : p' ≠ p := fun k => by rw [k, h.1] at hq; cases hq
    obtain ⟨y, hy, -⟩ := State.startPlay_engine (s := s) p' q
    rw [State.player, hy, PlayEngine.player_setPlayer_ne _ hne]
    exact ⟨h.1, by cases p' <;> exact h.2⟩
  · rw [h.2] at hw'; cases hw'
  · rw [h.2] at hw'; cases hw'

end Sys2Proof.Machine

/-! ### Proofs: STOP (O45) -/

namespace Sys2Proof.Machine

open Sys2Proof

variable {s : State}

/-! #### Nothing waits to be done -/

/-- A player changed, with a play that does not end or with no play at all, leaves nothing waiting to be done. -/
theorem State.Settled.setPlayer {t : State} (h : s.Settled) {p : PlayerNo} {y : Player} (he : t.engine = s.engine.setPlayer p y) (hc : t.ctl = s.ctl)
    (ends : ∀ q, y.play = some q → q.endsNow = none) (empty : y.play = none → y.incoming = none)
    (free : s.engine.waiting = [] ∨ y.isFree = false) : t.Settled := by
  have self : t.player p = y := by rw [State.player, he, PlayEngine.player_setPlayer_self]
  have other (p' : PlayerNo) (hp : p ≠ p') : t.player p' = s.player p' := by rw [State.player, he, PlayEngine.player_setPlayer_ne _ hp]; rfl
  have waiting : t.engine.waiting = s.engine.waiting := by rw [he]; cases p <;> rfl
  refine ⟨State.ending_none_iff.mpr fun p' x hx => ?_, State.incomingReady_none_iff.mpr fun p' hx => ?_, fun hm => ?_⟩
  · by_cases hp : p = p'
    · subst hp; rw [self] at hx; exact ends x hx
    · rw [other p' hp] at hx; exact State.ending_none_iff.mp h.ending p' x hx
  · by_cases hp : p = p'
    · subst hp; rw [self] at hx ⊢; exact empty hx
    · rw [other p' hp] at hx ⊢; exact State.incomingReady_none_iff.mp h.incoming p' hx
  · rw [waiting]
    rcases free with k | k
    · exact .inr k
    · refine (h.waiting (hc ▸ hm)).imp_left fun j => State.freePlayer_none_iff.mpr fun p' => ?_
      by_cases hp : p = p'
      · subst hp; rw [self]; exact k
      · rw [other p' hp]; exact State.freePlayer_none_iff.mp j p'

/-- Fewer or other plays may wait where some waited. -/
theorem State.Settled.setWaiting {t : State} (h : s.Settled) {w : List Play} (he : t.engine = { s.engine with waiting := w }) (hc : t.ctl = s.ctl)
    (hw : s.engine.waiting ≠ [] ∨ s.freePlayer = none) : t.Settled := by
  have players (p : PlayerNo) : t.player p = s.player p := by rw [State.player, he]; cases p <;> rfl
  refine ⟨State.ending_none_iff.mpr fun p x hx => ?_, State.incomingReady_none_iff.mpr fun p hx => ?_, fun hm => .inl ?_⟩
  · rw [players] at hx; exact State.ending_none_iff.mp h.ending p x hx
  · rw [players] at hx ⊢; exact State.incomingReady_none_iff.mp h.incoming p hx
  · have : s.freePlayer = none := hw.elim (fun k => (h.waiting (hc ▸ hm)).resolve_right k) id
    exact State.freePlayer_none_iff.mpr fun p => by rw [players]; exact State.freePlayer_none_iff.mp this p

theorem Player.isFree_of_play {x : Player} (h : x.play ≠ none) : x.isFree = false := by
  obtain ⟨q, hq⟩ := Option.ne_none_iff_exists'.mp h
  simp [Player.isFree, hq]

theorem State.mem_playRecords {q : Play} : q ∈ s.playRecords ↔
    (∃ p, (s.player p).play = some q) ∨ (∃ p, (s.player p).incoming = some q) ∨ q ∈ s.engine.waiting := by
  simp only [State.playRecords, List.mem_append, Option.mem_toList]
  constructor
  · rintro ((((k | k) | k) | k) | k)
    exacts [.inl ⟨.p0, k⟩, .inr (.inl ⟨.p0, k⟩), .inl ⟨.p1, k⟩, .inr (.inl ⟨.p1, k⟩), .inr (.inr k)]
  · rintro (⟨p, k⟩ | ⟨p, k⟩ | k)
    · cases p
      exacts [.inl (.inl (.inl (.inl k))), .inl (.inl (.inr k))]
    · cases p
      exacts [.inl (.inl (.inl (.inr k))), .inl (.inr k)]
    · exact .inr k

theorem State.mem_playRecords_of_play {p : PlayerNo} {q : Play} (h : (s.player p).play = some q) : q ∈ s.playRecords :=
  State.mem_playRecords.mpr (.inl ⟨p, h⟩)

theorem State.mem_playRecords_of_incoming {p : PlayerNo} {q : Play} (h : (s.player p).incoming = some q) : q ∈ s.playRecords :=
  State.mem_playRecords.mpr (.inr (.inl ⟨p, h⟩))

theorem State.mem_playRecords_of_waiting {q : Play} (h : q ∈ s.engine.waiting) : q ∈ s.playRecords := State.mem_playRecords.mpr (.inr (.inr h))

/-! #### Plays that are not reached -/

theorem State.stopRunning_none {p : PlayerNo} {hit : Play → Bool} (h : ∀ q, (s.player p).play = some q → hit q = false ∨ q.fixed ≠ none) :
    s.stopRunning p hit = (0, s) := by
  unfold State.stopRunning
  split
  · next q hq =>
    refine if_neg fun k => ?_
    rcases h q hq with j | j
    · rw [j] at k; exact Bool.false_ne_true k.1
    · exact j k.2
  · rfl

theorem State.stopIncoming_none {p : PlayerNo} {hit : Play → Bool} (h : ∀ q, (s.player p).incoming = some q → hit q = false) :
    s.stopIncoming p hit = (0, s) := by
  unfold State.stopIncoming
  split
  · next q hq => rw [h q hq]; rfl
  · rfl

theorem State.stopWaiting_none {hit : Play → Bool} (h : ∀ q ∈ s.engine.waiting, hit q = false) : s.stopWaiting hit = (0, s) := by
  have gone : s.engine.waiting.filter hit = [] := List.filter_eq_nil_iff.mpr fun q hq => by rw [h q hq]; decide
  have left : (s.engine.waiting.filter fun q => !hit q) = s.engine.waiting := List.filter_eq_self.mpr fun q hq => by rw [h q hq]; rfl
  unfold State.stopWaiting
  rw [gone, left]
  rfl

/-! #### A running play that is reached -/

/-- The state after STOP has reached a running play. -/
def State.stopPlay (s : State) (p : PlayerNo) (q : Play) : State :=
  if q.drives = 0 then (s.haltPlay q.id .stopped).endPlay p (.stopped true) else s.haltPlay q.id .stopped

/-- The record of a running play that STOP has reached, while it has a drive. -/
def Play.stopped (q : Play) (n m : Nat) : Option Play := if q.drives = 0 then none else some (q.halted .stopped n m)

theorem State.stopRunning_hit {p : PlayerNo} {q : Play} {hit : Play → Bool} (hq : (s.player p).play = some q) (hh : hit q = true)
    (hf : q.fixed = none) : s.stopRunning p hit = (1, s.stopPlay p q) := by
  unfold State.stopRunning
  rw [hq]
  exact if_pos ⟨hh, hf⟩

theorem Play.stopped_hangs {q q' : Play} {n m : Nat} (h : q.stopped n m = some q') : q'.Hangs ∧ q'.id = q.id := by
  unfold Play.stopped at h
  split at h
  · cases h
  · next hd => cases h; exact ⟨⟨if_neg hd, nofun, rfl⟩, rfl⟩

section

variable {p : PlayerNo} {q : Play}

theorem State.stopPlay_engine (hi : s.OwnId p q) (h0 : q.id ≠ 0) :
    ∃ n m, (s.stopPlay p q).engine = s.engine.setPlayer p { s.player p with play := q.stopped n m } := by
  obtain ⟨n, m, he⟩ := s.haltPlay_engine hi h0 .stopped
  refine ⟨n, m, ?_⟩
  unfold State.stopPlay Play.stopped
  split
  · rw [State.endPlay_engine, State.player, he, PlayEngine.player_setPlayer_self, PlayEngine.setPlayer_setPlayer]
  · exact he

theorem State.stopPlay_sched : (s.stopPlay p q).sched = (s.haltPlay q.id .stopped).sched := by
  unfold State.stopPlay
  split
  · simp
  · rfl

theorem State.stopPlay_queue {e : Entry} (he : e ∈ (s.stopPlay p q).sched.queue) : e ∈ s.sched.queue ∧ e.playId ≠ q.id := by
  rw [State.stopPlay_sched, State.haltPlay_queue, List.mem_filter] at he
  exact ⟨he.1, by simpa using he.2⟩

theorem State.stopPlay_notes {h : Held} (hh : h ∈ (s.stopPlay p q).notes) : h.playId ≠ q.id := by
  rw [State.notes, State.stopPlay_sched] at hh
  exact (State.haltPlay_notes hh).2

/-- The records of an id that one play has, after that play has changed or gone. -/
theorem State.OwnId.left (hi : s.OwnId p q) (x : Option Play) : (s.engine.setPlayer p { s.player p with play := x }).Left q.id p x := by
  refine ⟨fun q' hq' => ?_, fun p' q' hq' hid => ?_, fun p' q' hq' => ?_, fun q' hq' => hi.waiting q' (by cases p <;> exact hq')⟩
  · rw [PlayEngine.player_setPlayer_self]; exact hq'
  · by_cases k : p = p'
    · subst k; rw [PlayEngine.player_setPlayer_self] at hq'; exact hq'
    · rw [PlayEngine.player_setPlayer_ne _ k] at hq'; exact absurd hid (hi.other p' (Ne.symm k) q' hq')
  · by_cases k : p = p'
    · subst k; rw [PlayEngine.player_setPlayer_self] at hq'; exact hi.incoming p q' hq'
    · rw [PlayEngine.player_setPlayer_ne _ k] at hq'; exact hi.incoming p' q' hq'

/-- STOP of the one running play with an id. -/
theorem State.stopPlays_one (hi : s.OwnId p q) (h0 : q.id ≠ 0) (hf : q.fixed = none) :
    s.stopPlays (fun x => decide (x.id = q.id)) = (1, (s.stopPlay p q).settle) := by
  obtain ⟨n, m, he⟩ := State.stopPlay_engine hi h0
  have left := hi.left (q.stopped n m)
  rw [← he] at left
  have running := State.stopRunning_hit (hit := fun x => decide (x.id = q.id)) hi.play (decide_eq_true rfl) hf
  have miss {x : Play} (hx : x.id ≠ q.id) : decide (x.id = q.id) = false := decide_eq_false hx
  have waiting : (s.stopPlay p q).stopWaiting (fun x => decide (x.id = q.id)) = (0, s.stopPlay p q) := State.stopWaiting_none fun x hx => miss (left.waiting x hx)
  have incoming (p' : PlayerNo) : (s.stopPlay p q).stopIncoming p' (fun x => decide (x.id = q.id)) = (0, s.stopPlay p q) :=
    State.stopIncoming_none fun x hx => miss (left.incoming p' x hx)
  unfold State.stopPlays
  cases p with
  | p0 =>
    have other : (s.stopPlay .p0 q).stopRunning .p1 (fun x => decide (x.id = q.id)) = (0, s.stopPlay .p0 q) :=
      State.stopRunning_none fun x hx => .inl (miss (hi.other .p1 nofun x (by rwa [State.player, he] at hx)))
    simp only [running, incoming, other, waiting]
  | p1 =>
    have other : s.stopRunning .p0 (fun x => decide (x.id = q.id)) = (0, s) := State.stopRunning_none fun x hx => .inl (miss (hi.other .p0 nofun x hx))
    have before : s.stopIncoming .p0 (fun x => decide (x.id = q.id)) = (0, s) := State.stopIncoming_none fun x hx => miss (hi.incoming .p0 x hx)
    simp only [other, before, running, incoming, waiting]

theorem State.stopPlay_cleared (hi : s.OwnId p q) (h0 : q.id ≠ 0) : ∃ n m, (s.stopPlay p q).Cleared q.id p (q.stopped n m) := by
  obtain ⟨n, m, he⟩ := State.stopPlay_engine hi h0
  exact ⟨n, m, he ▸ hi.left (q.stopped n m), fun e he => (State.stopPlay_queue he).2, fun h hh => State.stopPlay_notes hh⟩

/-- A release does not ask for the plays. -/
theorem State.releaseVersion_moved (e : PlayEngine) (k : PlayKind) :
    State.releaseVersion { s with engine := e } k = { s with engine := e, tunes := (s.releaseVersion k).tunes } := by
  cases k with
  | toll => rfl
  | tune t serial => cases serial <;> rfl

/-- A play without entries and notes that wait goes alone. -/
theorem State.stopPlay_alone (hi : s.OwnId p q) (h0 : q.id ≠ 0) (hd : q.drives = 0) (hh : s.sched.held = []) (hg : s.sched.granted = [])
    (hq : ∀ e ∈ s.sched.queue, e.playId ≠ q.id) : s.stopPlay p q = State.report
      { s with engine := s.engine.setPlayer p { play := none, incoming := (s.player p).incoming }, tunes := (s.releaseVersion q.kind).tunes }
      (q.report (.stopped true) s.timer.ms) := by
  have none_gone : (s.sched.queue.filter fun e => decide (e.playId = q.id)) = [] := List.filter_eq_nil_iff.mpr fun e he => by simpa using hq e he
  have all_left : (s.sched.queue.filter fun e => !decide (e.playId = q.id)) = s.sched.queue := List.filter_eq_self.mpr fun e he => by simpa using hq e he
  have fixed : s.modPlay q.id (fun v => { v with fixed := some .stopped, state := .draining }) =
      { s with engine := s.engine.setPlayer p { s.player p with play := some { q with fixed := some .stopped, state := .draining } } } := by
    rw [State.modPlay_eq]
    have := hi.each (g := onlyId q.id fun v => { v with fixed := some .stopped, state := .draining }) fun x hx => onlyId_ne _ hx
    rw [onlyId_self h0] at this
    exact congrArg (fun e : PlayEngine => { s with engine := e }) this
  have halted : s.haltPlay q.id .stopped =
      { s with engine := s.engine.setPlayer p { s.player p with play := some { q with fixed := some .stopped, state := .draining } } } := by
    unfold State.haltPlay
    rw [fixed]
    unfold State.discardPlay State.discardHeld State.removeEntries State.takeOut
    simp only [hh, hg, List.filter_nil, List.map_nil, List.append_nil, List.foldl_nil, none_gone, all_left, State.setQueue]
    rw [State.grantSlots_none (by rfl)]
    rcases hs : s.sched with ⟨queue, held, granted, next⟩
    rw [hs] at hh hg
    simp only at hh hg
    rw [hh, hg]
  unfold State.stopPlay
  rw [if_pos hd, halted]
  unfold State.endPlay
  rw [State.player, PlayEngine.player_setPlayer_self]
  unfold State.finish State.setPlayer
  dsimp only
  rw [PlayEngine.setPlayer_setPlayer, State.releaseVersion_moved]
  rfl

end

/-! #### INCOMING and waiting plays that are reached -/

theorem filter_ownId : ∀ {l : List Play} {q : Play}, (l.map (·.id)).Nodup → q ∈ l → (l.filter fun x => decide (x.id = q.id)) = [q]
  | x :: l, q, hd, hq => by
    obtain ⟨hx, hd⟩ := List.nodup_cons.mp hd
    rcases List.mem_cons.mp hq with rfl | hq
    · rw [List.filter_cons_of_pos (by simp), List.filter_eq_nil_iff.mpr fun y hy => by
        simpa using fun k => hx (List.mem_map.mpr ⟨y, hy, k⟩)]
    · rw [List.filter_cons_of_neg (by simpa using fun k => hx (List.mem_map.mpr ⟨q, hq, Eq.symm k⟩))]
      exact filter_ownId hd hq

/-- A waiting play's id is its own. -/
theorem State.PlayIdsLaw.ofWaiting (h : s.PlayIdsLaw) {q : Play} (hq : q ∈ s.engine.waiting) :
    (∀ p x, (s.player p).play = some x → x.id ≠ q.id) ∧ (∀ p x, (s.player p).incoming = some x → x.id ≠ q.id) ∧
    (s.engine.waiting.filter fun x => decide (x.id = q.id)) = [q] := by
  have hd := h.distinct
  rw [State.playRecords, List.map_append, List.nodup_append] at hd
  obtain ⟨-, own, apart⟩ := hd
  have others (x : Play) (hx : x ∈ s.engine.player0.play.toList ++ s.engine.player0.incoming.toList ++ s.engine.player1.play.toList ++
      s.engine.player1.incoming.toList) : x.id ≠ q.id := apart x.id (List.mem_map_of_mem hx) q.id (List.mem_map_of_mem hq)
  simp only [List.mem_append, Option.mem_toList] at others
  refine ⟨fun p x hx => others x ?_, fun p x hx => others x ?_, filter_ownId own hq⟩
  · cases p
    exacts [.inl (.inl (.inl hx)), .inl (.inr hx)]
  · cases p
    exacts [.inl (.inl (.inr hx)), .inr hx]

/-- An INCOMING play's id is its own. -/
theorem State.PlayIdsLaw.ofIncoming (h : s.PlayIdsLaw) {p : PlayerNo} {q : Play} (hq : (s.player p).incoming = some q) :
    (∀ p' x, (s.player p').play = some x → x.id ≠ q.id) ∧ (∀ p', p' ≠ p → ∀ x, (s.player p').incoming = some x → x.id ≠ q.id) ∧
    ∀ x ∈ s.engine.waiting, x.id ≠ q.id := by
  have hd := h.distinct
  simp only [State.playRecords, List.map_append, List.append_assoc, List.nodup_append, List.mem_append, List.mem_map, Option.mem_toList] at hd
  obtain ⟨-, ⟨-, ⟨-, ⟨-, -, late⟩, second⟩, first⟩, front⟩ := hd
  cases p with
  | p0 =>
    refine ⟨fun p' x hx => ?_, fun p' hp x hx => ?_, fun x hx => (first q.id ⟨q, hq, rfl⟩ x.id (.inr (.inr ⟨x, hx, rfl⟩))).symm⟩
    · cases p'
      exacts [front x.id ⟨x, hx, rfl⟩ q.id (.inl ⟨q, hq, rfl⟩), (first q.id ⟨q, hq, rfl⟩ x.id (.inl ⟨x, hx, rfl⟩)).symm]
    · cases p'
      exacts [absurd rfl hp, (first q.id ⟨q, hq, rfl⟩ x.id (.inr (.inl ⟨x, hx, rfl⟩))).symm]
  | p1 =>
    refine ⟨fun p' x hx => ?_, fun p' hp x hx => ?_, fun x hx => (late q.id ⟨q, hq, rfl⟩ x.id ⟨x, hx, rfl⟩).symm⟩
    · cases p'
      exacts [front x.id ⟨x, hx, rfl⟩ q.id (.inr (.inr (.inl ⟨q, hq, rfl⟩))), second x.id ⟨x, hx, rfl⟩ q.id (.inl ⟨q, hq, rfl⟩)]
    · cases p'
      exacts [first x.id ⟨x, hx, rfl⟩ q.id (.inr (.inl ⟨q, hq, rfl⟩)), absurd rfl hp]

theorem State.finish_unstarted {q : Play} (h : q.kind.unstarted = true) (o : PlayOutcome) : s.finish q o = s.report (q.report o s.timer.ms) := by
  unfold State.finish
  rw [State.releaseVersion_unstarted h]

/-- STOP of the one waiting play with an id. -/
theorem State.stopPlays_waiting (h : s.PlayIdsLaw) (hs : s.Settled) {q : Play} (hq : q ∈ s.engine.waiting) (hu : q.kind.unstarted = true) :
    s.stopPlays (fun x => decide (x.id = q.id)) =
      (1, State.report { s with engine := { s.engine with waiting := s.engine.waiting.filter fun x => decide (x.id ≠ q.id) } }
        (q.report (.stopped true) s.timer.ms)) := by
  obtain ⟨hplay, hincoming, hown⟩ := h.ofWaiting hq
  have running (p : PlayerNo) : s.stopRunning p (fun x => decide (x.id = q.id)) = (0, s) :=
    State.stopRunning_none fun x hx => .inl (decide_eq_false (hplay p x hx))
  have incoming (p : PlayerNo) : s.stopIncoming p (fun x => decide (x.id = q.id)) = (0, s) :=
    State.stopIncoming_none fun x hx => decide_eq_false (hincoming p x hx)
  have waiting : s.stopWaiting (fun x => decide (x.id = q.id)) = (1, State.report
      { s with engine := { s.engine with waiting := s.engine.waiting.filter fun x => decide (x.id ≠ q.id) } } (q.report (.stopped true) s.timer.ms)) := by
    unfold State.stopWaiting
    rw [hown]
    simp only [List.foldl_cons, List.foldl_nil, List.length_singleton, State.finish_unstarted hu, State.setWaiting, decide_not]
  unfold State.stopPlays
  simp only [running, incoming, waiting]
  rw [State.settle_settled (hs.setWaiting (by rw [State.report_only]) (by rw [State.report_only]) (.inl (List.ne_nil_of_mem hq)))]

/-- STOP of the one INCOMING play with an id. -/
theorem State.stopPlays_incoming (h : s.PlayIdsLaw) (hs : s.Settled) {p : PlayerNo} {q : Play} (hq : (s.player p).incoming = some q)
    (hu : q.kind.unstarted = true) : s.stopPlays (fun x => decide (x.id = q.id)) =
      (1, State.report { s with engine := s.engine.setPlayer p { s.player p with incoming := none } } (q.report (.stopped true) s.timer.ms)) := by
  obtain ⟨hplay, hother, hwaiting⟩ := h.ofIncoming hq
  generalize ht : State.report { s with engine := s.engine.setPlayer p { s.player p with incoming := none } } (q.report (.stopped true) s.timer.ms) = t
  have engine : t.engine = s.engine.setPlayer p { s.player p with incoming := none } := by rw [← ht, State.report_only]
  have ctl : t.ctl = s.ctl := by rw [← ht, State.report_only]
  have taken : s.stopIncoming p (fun x => decide (x.id = q.id)) = (1, t) := by
    unfold State.stopIncoming
    rw [hq]
    refine (if_pos (decide_eq_true rfl)).trans ?_
    rw [State.finish_unstarted hu, ← ht]
    rfl
  have held : (s.player p).play ≠ none := fun k => by rw [State.incomingReady_none_iff.mp hs.incoming p k] at hq; cases hq
  have settled : t.Settled := hs.setPlayer engine ctl (fun x hx => State.ending_none_iff.mp hs.ending p x hx) (fun k => absurd k held)
    (.inr (Player.isFree_of_play held))
  have running (p' : PlayerNo) : s.stopRunning p' (fun x => decide (x.id = q.id)) = (0, s) :=
    State.stopRunning_none fun x hx => .inl (decide_eq_false (hplay p' x hx))
  have waiting : t.stopWaiting (fun x => decide (x.id = q.id)) = (0, t) :=
    State.stopWaiting_none fun x hx => decide_eq_false (hwaiting x (by rw [engine] at hx; cases p <;> exact hx))
  unfold State.stopPlays
  cases p with
  | p0 =>
    have after : t.stopRunning .p1 (fun x => decide (x.id = q.id)) = (0, t) :=
      State.stopRunning_none fun x hx => .inl (decide_eq_false (hplay .p1 x (by rwa [State.player, engine] at hx)))
    have last : t.stopIncoming .p1 (fun x => decide (x.id = q.id)) = (0, t) :=
      State.stopIncoming_none fun x hx => decide_eq_false (hother .p1 nofun x (by rwa [State.player, engine] at hx))
    simp only [running, taken, after, last, waiting, State.settle_settled settled]
  | p1 =>
    have before : s.stopIncoming .p0 (fun x => decide (x.id = q.id)) = (0, s) :=
      State.stopIncoming_none fun x hx => decide_eq_false (hother .p0 nofun x hx)
    simp only [running, before, taken, waiting, State.settle_settled settled]

/-! #### STOP ALL -/

/-- No play waits, none is INCOMING, and every running one has a fixed outcome. -/
structure State.AllFixed (s : State) : Prop where
  waiting : s.engine.waiting = []
  incoming : ∀ p, (s.player p).incoming = none
  fixed : ∀ p q, (s.player p).play = some q → q.fixed ≠ none

/-- The number of running plays. -/
def State.runs (s : State) : Nat := (s.player .p0).play.toList.length + (s.player .p1).play.toList.length

theorem State.endPlay_runs {p : PlayerNo} {o : PlayOutcome} (h : s.ending = some (p, o)) : (s.endPlay p o).runs < s.runs := by
  obtain ⟨q, hq, -⟩ := State.ending_eq h
  unfold State.runs
  rw [State.player, State.player, State.endPlay_engine]
  cases p with
  | p0 =>
    rw [PlayEngine.player_setPlayer_self, PlayEngine.player_setPlayer_ne _ (by decide : PlayerNo.p0 ≠ .p1), hq]
    simp [State.player]
  | p1 =>
    rw [PlayEngine.player_setPlayer_self, PlayEngine.player_setPlayer_ne _ (by decide : PlayerNo.p1 ≠ .p0), hq]
    simp [State.player]

theorem State.AllFixed.endPlay (h : s.AllFixed) (p : PlayerNo) (o : PlayOutcome) : (s.endPlay p o).AllFixed := by
  have engine := State.endPlay_engine (s := s) p o
  refine ⟨by rw [engine]; cases p <;> exact h.waiting, fun p' => ?_, fun p' q hq => ?_⟩
  · rw [State.player, engine]
    by_cases k : p = p'
    · subst k; rw [PlayEngine.player_setPlayer_self]; exact h.incoming p
    · rw [PlayEngine.player_setPlayer_ne _ k]; exact h.incoming p'
  · rw [State.player, engine] at hq
    by_cases k : p = p'
    · subst k; rw [PlayEngine.player_setPlayer_self] at hq; cases hq
    · rw [PlayEngine.player_setPlayer_ne _ k] at hq; exact h.fixed p' q hq

/-- The consequences of an event that has stopped every play are the ends of the plays without drives. -/
theorem State.AllFixed.settleFrom (h : s.AllFixed) {n : Nat} (hn : s.runs < n) :
    (State.settleFrom n [] s).AllFixed ∧ (State.settleFrom n [] s).ending = none ∧ (State.settleFrom n [] s).sched = s.sched := by
  induction n generalizing s with
  | zero => exact absurd hn (Nat.not_lt_zero _)
  | succ n ih =>
    cases he : s.ending with
    | none =>
      have settled : s.Settled := ⟨he, State.incomingReady_none_iff.mpr fun p _ => h.incoming p, fun _ => .inr h.waiting⟩
      rw [State.settleFrom_settled settled]
      exact ⟨h, he, rfl⟩
    | some r =>
      obtain ⟨p, o⟩ := r
      have hr := State.endPlay_runs he
      obtain ⟨h1, h2, h3⟩ := ih (h.endPlay p o) (by omega)
      have goes : State.settleFrom (n + 1) [] s = State.settleFrom n [] (s.endPlay p o) := by
        rw [State.settleFrom]
        simp only [he]
      rw [goes]
      exact ⟨h1, h2, h3.trans (by simp)⟩

theorem State.AllFixed.settle (h : s.AllFixed) : s.settle.AllFixed ∧ s.settle.ending = none ∧ s.settle.sched = s.sched := by
  refine h.settleFrom (Nat.lt_of_le_of_lt ?_ (by decide : 2 < 65536))
  have h0 : (s.player .p0).play.toList.length ≤ 1 := by cases (s.player .p0).play <;> simp
  have h1 : (s.player .p1).play.toList.length ≤ 1 := by cases (s.player .p1).play <;> simp
  unfold State.runs
  omega

/-- What STOP ALL leaves of a player: the one it had, or none. -/
structure Player.AllStopped (x y : Player) : Prop where
  incoming : y.incoming = none
  fixed : ∀ q, y.play = some q → q.fixed ≠ none
  ids : ∀ q, y.play = some q → ∃ q₀, x.play = some q₀ ∧ q.id = q₀.id

/-- The number of plays of a player that STOP ALL stops. -/
def Player.toStop (x : Player) : Nat := (x.play.toList.filter fun q => decide (q.fixed = none)).length + x.incoming.toList.length

theorem State.stopIncoming_all (p : PlayerNo) : ∃ u, s.stopIncoming p (fun _ => true) = ((s.player p).incoming.toList.length, u) ∧
    u.engine = s.engine.setPlayer p { s.player p with incoming := none } ∧ u.sched = s.sched := by
  cases h : (s.player p).incoming with
  | none =>
    refine ⟨s, State.stopIncoming_none fun q hq => (by rw [h] at hq; cases hq), ?_, rfl⟩
    rw [← h]
    exact (PlayEngine.setPlayer_player ..).symm
  | some q =>
    refine ⟨(s.setPlayer p { s.player p with incoming := none }).finish q (.stopped true), ?_, by simp [State.setPlayer], by simp⟩
    unfold State.stopIncoming
    rw [h]
    rfl

/-- STOP ALL reaches the plays of one player: the running one, then the INCOMING one. -/
theorem State.stopPlayer_all {p : PlayerNo} (own : ∀ q, (s.player p).play = some q → s.OwnId p q ∧ q.id ≠ 0) :
    ∃ a b t u y, s.stopRunning p (fun _ => true) = (a, t) ∧ t.stopIncoming p (fun _ => true) = (b, u) ∧ a + b = (s.player p).toStop ∧
      u.engine = s.engine.setPlayer p y ∧ (s.player p).AllStopped y ∧
      ∀ e ∈ u.sched.queue, e ∈ s.sched.queue ∧ ∀ q, (s.player p).play = some q → q.fixed = none → e.playId ≠ q.id := by
  have first : ∃ a t x, s.stopRunning p (fun _ => true) = (a, t) ∧ a = ((s.player p).play.toList.filter fun q => decide (q.fixed = none)).length ∧
      t.engine = s.engine.setPlayer p { s.player p with play := x } ∧ (∀ q, x = some q → q.fixed ≠ none) ∧
      (∀ q, x = some q → ∃ q₀, (s.player p).play = some q₀ ∧ q.id = q₀.id) ∧
      ∀ e ∈ t.sched.queue, e ∈ s.sched.queue ∧ ∀ q, (s.player p).play = some q → q.fixed = none → e.playId ≠ q.id := by
    cases hp : (s.player p).play with
    | none =>
      refine ⟨0, s, none, State.stopRunning_none fun q hq => (by rw [hp] at hq; cases hq), rfl, ?_, nofun, nofun, fun e he => ⟨he, nofun⟩⟩
      rw [← hp]
      exact (PlayEngine.setPlayer_player ..).symm
    | some q =>
      obtain ⟨hi, h0⟩ := own q hp
      by_cases hf : q.fixed = none
      · obtain ⟨n, m, he⟩ := State.stopPlay_engine hi h0
        refine ⟨1, s.stopPlay p q, q.stopped n m, State.stopRunning_hit hp rfl hf, by simp [hf], he, fun q' hq' => (Play.stopped_hangs hq').1.fixed,
          fun q' hq' => ⟨q, rfl, (Play.stopped_hangs hq').2⟩, fun e he => ⟨(State.stopPlay_queue he).1, fun q' hq' _ => ?_⟩⟩
        cases hq'
        exact (State.stopPlay_queue he).2
      · refine ⟨0, s, some q, State.stopRunning_none fun q' hq' => .inr ?_, by simp [hf], ?_, fun q' hq' => by cases hq'; exact hf,
          fun q' hq' => ⟨q', hq', rfl⟩, fun e he => ⟨he, fun q' hq' k => ?_⟩⟩
        · rw [hp] at hq'; cases hq'; exact hf
        · rw [← hp]
          exact (PlayEngine.setPlayer_player ..).symm
        · cases hq'; exact absurd k hf
  obtain ⟨a, t, x, ha, hn, he, hx, hid, hq⟩ := first
  have player : t.player p = { s.player p with play := x } := by rw [State.player, he, PlayEngine.player_setPlayer_self]
  obtain ⟨u, hu, hue, hus⟩ := t.stopIncoming_all p
  rw [player] at hu hue
  refine ⟨a, _, t, u, { play := x, incoming := none }, ha, hu, by rw [hn]; rfl, ?_, ⟨rfl, hx, hid⟩, by rw [hus]; exact hq⟩
  rw [hue, he, PlayEngine.setPlayer_setPlayer]

theorem State.stopWaiting_all : ∃ u, s.stopWaiting (fun _ => true) = (s.engine.waiting.length, u) ∧ u.engine = { s.engine with waiting := [] } ∧
    u.sched = s.sched := by
  have all : (s.engine.waiting.filter fun _ => true) = s.engine.waiting := List.filter_true _
  have left : (s.engine.waiting.filter fun _ => !true) = [] := List.filter_eq_nil_iff.mpr fun _ _ => by decide
  refine ⟨_, by unfold State.stopWaiting; rw [all, left], ?_, ?_⟩
  · exact foldl_induct (P := fun t : State => t.engine = { s.engine with waiting := [] }) (fun t q _ ht => by simpa using ht) rfl
  · exact foldl_induct (P := fun t : State => t.sched = s.sched) (fun t q _ ht => by simpa using ht) rfl

/-- STOP ALL leaves no play that waits or is INCOMING, and the running ones with their drives alone. -/
theorem State.stopPlays_all (h : s.PlayIdsLaw) : ∃ t : State,
    s.stopPlays (fun _ => true) = ((s.player .p0).toStop + (s.player .p1).toStop + s.engine.waiting.length, t) ∧ t.AllFixed ∧ t.ending = none ∧
    ∀ p q, (s.player p).play = some q → q.fixed = none → ∀ e ∈ t.sched.queue, e.playId ≠ q.id := by
  have positive {p : PlayerNo} {q : Play} (hq : (s.player p).play = some q) : q.id ≠ 0 := Nat.ne_of_gt (h.range q (State.mem_playRecords_of_play hq)).1
  obtain ⟨a, b, t, u, y, ha, hb, hab, hu, hy, hqu⟩ := State.stopPlayer_all (s := s) (p := .p0) fun q hq => ⟨h.ownId hq, positive hq⟩
  have second : u.player .p1 = s.player .p1 := by rw [State.player, hu]; rfl
  have waitingU : u.engine.waiting = s.engine.waiting := by rw [hu]; rfl
  have own : ∀ q, (u.player .p1).play = some q → u.OwnId .p1 q ∧ q.id ≠ 0 := fun q hq => by
    rw [second] at hq
    have hi := h.ownId hq
    refine ⟨⟨by rw [second]; exact hq, fun p x hx => ?_, fun p hp x hx => ?_, by rw [waitingU]; exact hi.waiting⟩, positive hq⟩
    · cases p with
      | p0 => rw [State.player, hu, PlayEngine.player_setPlayer_self, hy.incoming] at hx; cases hx
      | p1 => rw [second] at hx; exact hi.incoming .p1 x hx
    · cases p with
      | p0 =>
        rw [State.player, hu, PlayEngine.player_setPlayer_self] at hx
        obtain ⟨x₀, hx₀, hid⟩ := hy.ids x hx
        exact hid ▸ hi.other .p0 nofun x₀ hx₀
      | p1 => exact absurd rfl hp
  obtain ⟨c, d, v, w, z, hc, hd, hcd, hw, hz, hqw⟩ := State.stopPlayer_all own
  obtain ⟨x, hx, hxe, hxs⟩ := w.stopWaiting_all
  have waitingW : w.engine.waiting = s.engine.waiting := by rw [hw]; exact waitingU
  have fixed : x.AllFixed := by
    have first : x.player .p0 = y := by rw [State.player, hxe, hw, hu]; rfl
    have last : x.player .p1 = z := by rw [State.player, hxe, hw]; rfl
    refine ⟨by rw [hxe], fun p => ?_, fun p q hq => ?_⟩
    · cases p
      · rw [first]; exact hy.incoming
      · rw [last]; exact hz.incoming
    · cases p
      · rw [first] at hq; exact hy.fixed q hq
      · rw [last] at hq; exact hz.fixed q hq
  obtain ⟨h1, h2, h3⟩ := fixed.settle
  refine ⟨x.settle, ?_, h1, h2, fun p q hq hf e he => ?_⟩
  · unfold State.stopPlays
    simp only [ha, hb, hc, hd, hx]
    rw [waitingW, ← hab, ← second, ← hcd]
    congr 1
    omega
  · rw [h3, hxs] at he
    obtain ⟨hu', hp1⟩ := hqw e he
    cases p with
    | p0 => exact (hqu e hu').2 q hq hf
    | p1 => exact hp1 q (by rw [second]; exact hq) hf

/-! #### The request -/

/-- STOP of one id that has a record. -/
theorem ownStop_one {i n : Nat} {t : State} (h0 : i ≠ 0) (h : ∃ q ∈ s.playRecords, q.id = i)
    (hs : s.stopPlays (fun x => decide (x.id = i)) = (n, t)) : ownStop 0 i s = (.ok, .stop n, t) := by
  obtain ⟨q, hq, hid⟩ := h
  have found : s.playRecords.any (fun x => decide (x.id = i)) = true := List.any_eq_true.mpr ⟨q, hq, decide_eq_true hid⟩
  unfold ownStop
  refine (if_neg h0).trans ((if_pos found).trans ?_)
  rw [hs]

theorem ownStop_all {n i : Nat} {t : State} (hs : s.stopPlays (fun _ => true) = (n, t)) : ownStop 1 i s = (.ok, .stop n, t) := by
  show (Result.ok, ReplyBody.stop (s.stopPlays fun _ => true).1, (s.stopPlays fun _ => true).2) = _
  rw [hs]

theorem ownStop_bad {n i : Nat} (h : 1 < n) : ownStop n i s = (.badField, .nothing, s) := by
  match n, h with
  | n + 2, _ => rfl

theorem ownStop_unknown {i : Nat} (h0 : i ≠ 0) (h : ∀ q ∈ s.playRecords, q.id ≠ i) : ownStop 0 i s = (.notFound, .nothing, s) := by
  unfold ownStop
  refine (if_neg h0).trans (if_neg ?_)
  rw [List.any_eq_true]
  rintro ⟨q, hq, hid⟩
  exact h q hq (of_decide_eq_true hid)

/-- Settles O45. -/
theorem stopEndsThePlaysNamed : Obligations.StopEndsThePlaysNamed := by
  intro tag i s h
  refine ⟨takeRequest_owned h rfl .., fun n hn => takeRequest_owned h (ownStop_bad hn) .., fun h0 hn => takeRequest_owned h (ownStop_unknown h0 hn) ..,
    fun law => ?_, fun h0 law hs q hq hid hu => ?_, fun law p q hq hid => ⟨fun hf hs => ?_, fun hf => ?_, fun hf hd hs hw hin hheld hgranted hnone => ?_⟩,
    fun law hs p q hq hid hu => ?_⟩
  · intro running incoming stopped
    obtain ⟨t, ht, fixed, ending, queue⟩ := State.stopPlays_all law
    have frame := State.stopPlays_frame (s := s) fun _ => true
    rw [ht] at frame
    have count : (s.player .p0).toStop + (s.player .p1).toStop + s.engine.waiting.length = stopped := by
      simp only [Player.toStop, stopped, running, incoming, State.player, PlayEngine.player, List.filter_append, List.length_append]
      omega
    refine ⟨t, takeRequest_owned h (count ▸ ownStop_all ht) .., fixed.waiting, fixed.incoming, fun p q hq => ⟨fixed.fixed p q hq, fun hd => ?_⟩, queue, frame⟩
    have stays := State.ending_none_iff.mp ending p q hq
    obtain ⟨f, hf⟩ := Option.ne_none_iff_exists'.mp (fixed.fixed p q hq)
    simp [Play.endsNow, hf, hd] at stays
  · subst hid
    exact takeRequest_owned h (ownStop_one h0 ⟨q, State.mem_playRecords_of_waiting hq, rfl⟩ (State.stopPlays_waiting law hs hq hu)) ..
  · subst hid
    have hi := law.ownId hq
    have h0 : q.id ≠ 0 := Nat.ne_of_gt (law.range q (State.mem_playRecords_of_play hq)).1
    have none_hit : s.stopPlays (fun x => decide (x.id = q.id)) = (0, s) := by
      have running (p' : PlayerNo) : s.stopRunning p' (fun x => decide (x.id = q.id)) = (0, s) := State.stopRunning_none fun x hx => by
        by_cases k : p' = p
        · subst k; rw [hq] at hx; cases hx; exact .inr hf
        · exact .inl (decide_eq_false (hi.other p' k x hx))
      have incoming (p' : PlayerNo) : s.stopIncoming p' (fun x => decide (x.id = q.id)) = (0, s) :=
        State.stopIncoming_none fun x hx => decide_eq_false (hi.incoming p' x hx)
      have waiting : s.stopWaiting (fun x => decide (x.id = q.id)) = (0, s) := State.stopWaiting_none fun x hx => decide_eq_false (hi.waiting x hx)
      unfold State.stopPlays
      simp only [running, incoming, waiting, State.settle_settled hs]
    exact takeRequest_owned h (ownStop_one h0 ⟨q, State.mem_playRecords_of_play hq, rfl⟩ none_hit) ..
  · subst hid
    have hi := law.ownId hq
    have h0 : q.id ≠ 0 := Nat.ne_of_gt (law.range q (State.mem_playRecords_of_play hq)).1
    have stops := State.stopPlays_one hi h0 hf
    have frame := State.stopPlays_frame (s := s) fun x => decide (x.id = q.id)
    rw [stops] at frame
    obtain ⟨n, m, cleared⟩ := State.stopPlay_cleared hi h0
    have after := cleared.settle fun x hx => Play.stopped_hangs hx
    refine ⟨(s.stopPlay p q).settle, takeRequest_owned h (ownStop_one h0 ⟨q, State.mem_playRecords_of_play hq, rfl⟩ stops) .., after.queue,
      fun x hx => after.notes x (State.mem_notes.mpr (.inl hx)), fun g hg => after.notes g.note (State.mem_notes.mpr (.inr ⟨g, hg, rfl⟩)),
      fun hd => ⟨_, after.left.kept _ (if_neg hd), rfl, rfl, rfl, rfl, rfl⟩, fun hd => ⟨?_, fun hw hin => ?_⟩, frame⟩
    · have gone : q.stopped n m = none := if_pos hd
      rw [gone] at after
      exact after.gone
    · obtain ⟨n, m, engine⟩ := State.stopPlay_engine hi h0
      refine State.settle_free ?_ (by rw [engine]; cases p <;> exact hw)
      rw [State.player, engine, PlayEngine.player_setPlayer_self]
      exact congrArg₂ Player.mk (if_pos hd) hin
  · subst hid
    have hi := law.ownId hq
    have h0 : q.id ≠ 0 := Nat.ne_of_gt (law.range q (State.mem_playRecords_of_play hq)).1
    have alone := State.stopPlay_alone hi h0 hd hheld hgranted hnone
    rw [hin] at alone
    have settled : (s.stopPlay p q).Settled := by
      rw [alone]
      exact hs.setPlayer (y := { play := none, incoming := none }) (by rw [State.report_only]) (by rw [State.report_only]) nofun (fun _ => rfl) (.inl hw)
    have stops := State.stopPlays_one hi h0 hf
    rw [State.settle_settled settled, alone] at stops
    exact takeRequest_owned h (ownStop_one h0 ⟨q, State.mem_playRecords_of_play hq, rfl⟩ stops) ..
  · subst hid
    have h0 : q.id ≠ 0 := Nat.ne_of_gt (law.range q (State.mem_playRecords_of_incoming hq)).1
    exact takeRequest_owned h (ownStop_one h0 ⟨q, State.mem_playRecords_of_incoming hq, rfl⟩ (State.stopPlays_incoming law hs hq hu)) ..

end Sys2Proof.Machine

/-! ### Proofs: PLAY NOW (O44) -/

namespace Sys2Proof.Machine

open Sys2Proof

variable {s : State}

/-! #### What a launch hands over -/

theorem State.playNowLaunch_tune {o : PlayOrder} (h : o.kind = .tune) : s.playNowLaunch o =
    { origin := .playNow, kind := .tune o.tune none, anchorOffset := ((s.tunes.slots[o.tune].current.map fun v => v.anchorStep * v.stepLength).getD 0),
      priority := o.priority, lateLimit := 60, due := s.clock.wall + o.delay * 1000 } := by
  unfold State.playNowLaunch
  rw [h]
  rfl

theorem State.playNowLaunch_toll {o : PlayOrder} (h : o.kind = .toll) : s.playNowLaunch o =
    { origin := .playNow,
      kind := .toll o.tollBell o.tollDynamic o.tollInterval (strokeCount o.countMode (wallHour (s.clock.wall + o.delay * 1000))), anchorOffset := 0,
      priority := o.priority, lateLimit := 60, due := s.clock.wall + o.delay * 1000 } := by
  unfold State.playNowLaunch
  rw [h]
  rfl

theorem State.playNowLaunch_eq (o : PlayOrder) : (s.playNowLaunch o).due = s.clock.wall + o.delay * 1000 ∧ (s.playNowLaunch o).priority = o.priority ∧
    (s.playNowLaunch o).lateLimit = 60 ∧ (s.playNowLaunch o).kind.unstarted = true := by
  cases h : o.kind with
  | tune => rw [State.playNowLaunch_tune h]; exact ⟨rfl, rfl, rfl, rfl⟩
  | toll => rw [State.playNowLaunch_toll h]; exact ⟨rfl, rfl, rfl, rfl⟩

/-- The state once a launch has given its id and sequence. -/
def State.given (s : State) (q : Play) : State := { s with engine := { s.engine with lastId := q.id, nextLaunch := s.engine.nextLaunch + 1 } }

theorem State.Settled.given (h : s.Settled) (q : Play) : (s.given q).Settled := ⟨h.ending, h.incoming, h.waiting⟩

theorem State.OwnId.given {p : PlayerNo} {v : Play} (h : s.OwnId p v) (q : Play) : (s.given q).OwnId p v := by
  have player (p' : PlayerNo) : (s.given q).player p' = s.player p' := by cases p' <;> rfl
  exact ⟨by rw [player]; exact h.play, fun p' => by rw [player]; exact h.incoming p', fun p' => by rw [player]; exact h.other p', h.waiting⟩

section

variable {l : Launch} {p : PlayerNo}

theorem State.launch_free (h : s.freePlayer = some p) : s.launch l =
    ((s.newPlay l).id, (s.newPlay l).s0, .started, ((s.given (s.newPlay l)).startPlay p (s.newPlay l)).settleWith [p]) := by
  unfold State.launch
  have : (s.given (s.newPlay l)).freePlayer = some p := h
  unfold State.given at this
  simp only [this]
  rfl

theorem State.launch_preempts {v : Play} (h : s.freePlayer = none) (hv : s.victim = some (p, v)) (hp : v.priority < l.priority) : s.launch l =
    ((s.newPlay l).id, (s.newPlay l).s0, ((s.given (s.newPlay l)).preempt p v (s.newPlay l)).1,
      ((s.given (s.newPlay l)).preempt p v (s.newPlay l)).2.settle) := by
  unfold State.launch
  have hf : (s.given (s.newPlay l)).freePlayer = none := h
  have hg : (s.given (s.newPlay l)).victim = some (p, v) := hv
  unfold State.given at hf hg
  simp only [hf, hg]
  exact if_pos hp

theorem State.launch_waits (h : s.freePlayer = none) (hv : ∀ p v, s.victim = some (p, v) → l.priority ≤ v.priority) : s.launch l =
    ((s.newPlay l).id, (s.newPlay l).s0, ((s.given (s.newPlay l)).enqueue (s.newPlay l)).1, ((s.given (s.newPlay l)).enqueue (s.newPlay l)).2.settle) := by
  unfold State.launch
  have hf : (s.given (s.newPlay l)).freePlayer = none := h
  unfold State.given at hf
  simp only [hf]
  cases hs : s.victim with
  | none =>
    have hg : (s.given (s.newPlay l)).victim = none := hs
    unfold State.given at hg
    simp only [hg]
    rfl
  | some r =>
    obtain ⟨p, v⟩ := r
    have hg : (s.given (s.newPlay l)).victim = some (p, v) := hs
    unfold State.given at hg
    simp only [hg]
    exact if_neg (Nat.not_lt.mpr (hv p v hs))

end

theorem State.victim_candidate {p : PlayerNo} {v : Play} (h : s.victim = some (p, v)) : (s.player p).candidate = some v := by
  unfold State.victim at h
  split at h
  · split at h <;> cases h <;> assumption
  · cases h; assumption
  · cases h; assumption
  · cases h

/-! #### The counter of ids and launches -/

/-- The last id and the next launch sequence. -/
def PlayEngine.counters (e : PlayEngine) : Nat × Nat := (e.lastId, e.nextLaunch)

theorem PlayEngine.counters_setPlayer (e : PlayEngine) (p : PlayerNo) (x : Player) : (e.setPlayer p x).counters = e.counters := by cases p <;> rfl

theorem State.modPlay_counters (i : Nat) (f : Play → Play) : (s.modPlay i f).engine.counters = s.engine.counters := by
  rw [State.modPlay_eq]; rfl

theorem State.startPlay_counters (p : PlayerNo) (q : Play) : (s.startPlay p q).engine.counters = s.engine.counters := by
  obtain ⟨x, hx, -⟩ := State.startPlay_engine (s := s) p q
  rw [hx, PlayEngine.counters_setPlayer]

theorem State.settleFrom_counters (n : Nat) (a : List PlayerNo) : (State.settleFrom n a s).engine.counters = s.engine.counters := by
  refine State.settleFrom_induct (P := fun _ t => t.engine.counters = s.engine.counters) (fun a t p o _ h => ?_) (fun p a t h => ?_) (fun _ _ _ h => h)
    (fun t p q _ h => (State.startPlay_counters ..).trans h) (fun t q rest _ h => ?_) (fun t p q rest _ _ _ h => (State.startPlay_counters ..).trans h)
    n a s rfl
  · rw [State.endPlay_engine, PlayEngine.counters_setPlayer]; exact h
  · refine State.feedOne_engine (P := fun e => e.counters = s.engine.counters) (fun i _ u f _ hu => (State.modPlay_counters ..).trans hu) (fun u hu => ?_) h
    unfold State.drainIfDone
    split
    · split
      · exact (PlayEngine.counters_setPlayer ..).trans hu
      · exact hu
    · exact hu
  · have : ((t.setWaiting rest).finish q (.missed .late)).engine = (t.setWaiting rest).engine := by simp
    rw [this]; exact h

theorem State.enqueue_counters (q : Play) : (s.enqueue q).2.engine.counters = s.engine.counters := by
  have finish (t : State) (k : Play) (o : PlayOutcome) : (t.finish k o).engine = t.engine := by simp
  unfold State.enqueue
  split
  · rfl
  · split
    · split
      · rw [finish]; rfl
      · rw [finish]
    · rw [finish]

theorem State.preempt_counters (p : PlayerNo) (v q : Play) : (s.preempt p v q).2.engine.counters = s.engine.counters := by
  obtain ⟨g, -, hg⟩ := (s.modPlay v.id fun v => { v with fixed := some (.cut q.id), state := .draining }).discardPlay_recounted v.id
  unfold State.preempt
  refine (PlayEngine.counters_setPlayer ..).trans ?_
  rw [hg]
  exact State.modPlay_counters ..

theorem State.launch_counters (l : Launch) : (s.launch l).2.2.2.engine.counters = (s.nextId, s.engine.nextLaunch + 1) := by
  cases hf : s.freePlayer with
  | some p => rw [State.launch_free hf]; exact (State.settleFrom_counters ..).trans (State.startPlay_counters ..)
  | none =>
    by_cases hp : ∃ p v, s.victim = some (p, v) ∧ v.priority < l.priority
    · obtain ⟨p, v, hv, hlt⟩ := hp
      rw [State.launch_preempts hf hv hlt]
      exact (State.settleFrom_counters ..).trans (State.preempt_counters ..)
    · rw [State.launch_waits hf fun p v hv => Nat.not_lt.mp fun k => hp ⟨p, v, hv, k⟩]
      exact (State.settleFrom_counters ..).trans (State.enqueue_counters ..)

/-! #### A play that begins -/

/-- The Tune Store once a play of a kind has taken its version (R107). -/
def TuneStore.taken (x : TuneStore) : PlayKind → TuneStore
  | .tune t _ => x.take t
  | .toll .. => x

/-- The play's tune has a CURRENT version. -/
def State.HasTune (s : State) (q : Play) : Prop := ∀ t n, q.kind = .tune t n → ∃ v, s.tunes.slots[t].current = some v

theorem State.startPlay_begins {q : Play} (h : s.HasTune q) (p : PlayerNo) : s.startPlay p q =
    { s with engine := s.engine.setPlayer p { play := some (s.begun q), incoming := none }, tunes := s.tunes.taken q.kind } := by
  unfold State.startPlay State.begun
  cases hk : q.kind with
  | toll b d i n => rfl
  | tune t n =>
    obtain ⟨v, hv⟩ := h t n hk
    have hc : s.current t = some v := hv
    simp only [hc, hv]
    rfl

theorem State.begun_stays (q : Play) (h : q.fixed = none) : (s.begun q).endsNow = none := Play.feeding_stays rfl h

/-- A CURRENT version is the one of its serial number. -/
theorem State.versionOf_current {t : Fin 96} {v : Version} (h : s.tunes.slots[t].current = some v) : s.versionOf t v.serial = some v := by
  unfold State.versionOf TuneStore.versionsOf
  rw [h]
  simp

/-- The CURRENT versions are the same, but for their users. -/
def State.SameCurrent (s u : State) : Prop :=
  ∀ t : Fin 96, ∃ g : Version → Nat, u.tunes.slots[t].current = s.tunes.slots[t].current.map fun v => { v with users := g v }

theorem State.SameCurrent.refl (s : State) : s.SameCurrent s := fun t => ⟨fun v => v.users, by cases s.tunes.slots[t].current <;> rfl⟩

theorem State.SameCurrent.trans {u w : State} (h : s.SameCurrent u) (k : u.SameCurrent w) : s.SameCurrent w := fun t => by
  obtain ⟨f, hf⟩ := h t
  obtain ⟨g, hg⟩ := k t
  exact ⟨fun v => g { v with users := f v }, by rw [hg, hf, Option.map_map]; rfl⟩

theorem State.SameCurrent.of_tunes {u : State} (h : u.tunes = s.tunes) : s.SameCurrent u := fun t => by rw [h]; exact State.SameCurrent.refl s t

theorem State.SameCurrent.taken {u : State} (k : PlayKind) (h : u.tunes = s.tunes.taken k) : s.SameCurrent u := fun t => by
  rw [h]
  cases k with
  | toll => exact State.SameCurrent.refl s t
  | tune i n =>
    show ∃ g, (s.tunes.take i).slots[t].current = _
    rw [TuneStore.take_current]
    split
    · next hi => subst hi; exact ⟨fun v => v.users + 1, rfl⟩
    · exact State.SameCurrent.refl s t

theorem State.SameCurrent.released {u : State} (k : PlayKind) (h : u.tunes = (s.releaseVersion k).tunes) : s.SameCurrent u := fun t => by
  rw [h]
  unfold State.releaseVersion
  split
  · next i n =>
    show ∃ g, (s.tunes.release i n).slots[t].current = _
    unfold TuneStore.release
    by_cases hi : t = i
    · subst hi
      rw [TuneStore.setVersions_self]
      refine ⟨fun v => if v.serial = n then v.users - 1 else v.users, congrArg (fun f => s.tunes.slots[t].current.map f) (funext fun v => ?_)⟩
      by_cases hn : v.serial = n <;> simp [hn]
    · rw [TuneStore.setVersions_other _ hi]
      exact State.SameCurrent.refl s t
  · exact State.SameCurrent.refl s t

theorem State.nextNote_tune {q : Play} {st : Int} {t : Fin 96} {n : Nat} (hs : q.start = some st) (hk : q.kind = .tune t (some n)) : s.nextNote q =
    (s.versionOf t n).bind fun v => (v.events[q.nextIndex]?).map fun e => (e.bell, st + e.step * v.stepLength + e.nudge, e.dynamic) := by
  unfold State.nextNote
  rw [hs, hk]

/-- A play begins the same while the CURRENT versions are the same. -/
theorem State.SameCurrent.begun {u : State} (h : s.SameCurrent u) (ht : u.timer = s.timer) (q : Play) : u.begun q = s.begun q := by
  have serial (t : Fin 96) : (u.tunes.slots[t].current.map fun v => v.serial) = s.tunes.slots[t].current.map fun v => v.serial := by
    obtain ⟨g, hg⟩ := h t
    rw [hg, Option.map_map]
    rfl
  unfold State.begun
  rw [ht]
  cases q.kind <;> simp only [serial]

theorem State.SameCurrent.hasTune {u : State} (h : s.SameCurrent u) {q : Play} (k : s.HasTune q) : u.HasTune q := fun t n hk => by
  obtain ⟨v, hv⟩ := k t n hk
  obtain ⟨g, hg⟩ := h t
  exact ⟨_, by rw [hg, hv]; rfl⟩

theorem State.SameCurrent.nextNote {u : State} (h : s.SameCurrent u) {q : Play} (k : s.HasTune q) : u.nextNote (s.begun q) = s.nextNote (s.begun q) := by
  cases hk : q.kind with
  | toll b d i n =>
    have : (s.begun q).kind = .toll b d i n := by unfold State.begun; rw [hk]
    unfold State.nextNote
    rw [this]
    rfl
  | tune t n =>
    obtain ⟨v, hv⟩ := k t n hk
    obtain ⟨g, hg⟩ := h t
    rw [hv] at hg
    have kind : (s.begun q).kind = .tune t (s.tunes.slots[t].current.map fun v => v.serial) := by unfold State.begun; rw [hk]
    rw [hv] at kind
    have version : u.versionOf t v.serial = some { v with users := g v } := State.versionOf_current (v := { v with users := g v }) hg
    rw [State.nextNote_tune rfl kind, State.nextNote_tune rfl kind, version, State.versionOf_current hv]
    rfl

end Sys2Proof.Machine

/-! ### Proofs: what PLAY NOW brings about (O44) -/

namespace Sys2Proof.Machine

open Sys2Proof

variable {s : State}

/-! #### The consequences one by one -/

/-- The player that is not this one. -/
def otherPlayer : PlayerNo → PlayerNo
  | .p0 => .p1
  | .p1 => .p0

theorem ne_otherPlayer (p : PlayerNo) : p ≠ otherPlayer p := by cases p <;> decide

theorem eq_otherPlayer : ∀ {p p' : PlayerNo}, p' ≠ p → p' = otherPlayer p
  | .p0, .p0, h => absurd rfl h
  | .p0, .p1, _ => rfl
  | .p1, .p0, _ => rfl
  | .p1, .p1, h => absurd rfl h

theorem State.ending_only {p : PlayerNo} {x : Play} {o : PlayOutcome} (hx : (s.player p).play = some x) (ho : x.endsNow = some o)
    (other : ∀ q, (s.player (otherPlayer p)).play = some q → q.endsNow = none) : s.ending = some (p, o) := by
  unfold State.ending
  cases p with
  | p0 => rw [hx]; simp [ho]
  | p1 =>
    have first : (s.player .p0).play.bind Play.endsNow = none := Option.bind_eq_none_iff.mpr other
    rw [first, hx]
    simp [ho]

theorem State.incomingReady_only {p : PlayerNo} {q : Play} (hp : (s.player p).play = none) (hq : (s.player p).incoming = some q)
    (other : (s.player (otherPlayer p)).play = none → (s.player (otherPlayer p)).incoming = none) : s.incomingReady = some (p, q) := by
  unfold State.incomingReady
  cases p with
  | p0 => rw [hp, hq]
  | p1 =>
    rw [hp, hq]
    split
    · next h0 h1 => cases (other h0).symm.trans h1
    · rfl

theorem State.settleFrom_ends {p : PlayerNo} {o : PlayOutcome} (h : s.ending = some (p, o)) (n : Nat) (a : List PlayerNo) :
    State.settleFrom (n + 1) a s = State.settleFrom n a (s.endPlay p o) := by
  refine (State.settleFrom.eq_def ..).trans ?_
  simp only [h]

theorem State.settleFrom_begins {p : PlayerNo} {q : Play} (h : s.ending = none) (hr : s.incomingReady = some (p, q)) (n : Nat) :
    State.settleFrom (n + 1) [] s = State.settleFrom n [p] (s.startPlay p q) := by
  rw [State.settleFrom]
  simp only [h, hr]

theorem State.settleFrom_beyond (hs : s.Settled) {p : PlayerNo}
    (h : ∀ q, (s.player p).play = some q → ∃ next, s.nextNote q = some next ∧ 2000 < next.2.1 - s.timer.ms) (n : Nat) :
    State.settleFrom (n + 2) [p] s = s := by
  rw [State.settleFrom]
  simp only [hs.ending, State.feedOne_beyond h]
  exact State.settleFrom_settled hs n

/-! #### Pre-emption -/

section

variable {p : PlayerNo} {v q : Play}

/-- The state once the play cut is bound to end and the launched one to its player. -/
theorem State.preempt_eq (p : PlayerNo) (v q : Play) : s.preempt p v q = (if v.drives = 0 then .started else .incoming,
    (s.haltPlay v.id (.cut q.id)).setPlayer p { (s.haltPlay v.id (.cut q.id)).player p with incoming := some { q with state := .incoming } }) := rfl

theorem State.preempt_engine (hi : s.OwnId p v) (h0 : v.id ≠ 0) : ∃ n m, (s.preempt p v q).2.engine =
    s.engine.setPlayer p { play := some (v.halted (.cut q.id) n m), incoming := some { q with state := .incoming } } := by
  obtain ⟨n, m, he⟩ := s.haltPlay_engine hi h0 (.cut q.id)
  refine ⟨n, m, ?_⟩
  rw [State.preempt_eq]
  show (s.haltPlay v.id (.cut q.id)).engine.setPlayer p { (s.haltPlay v.id (.cut q.id)).engine.player p with incoming := _ } = _
  rw [he, PlayEngine.player_setPlayer_self, PlayEngine.setPlayer_setPlayer]

theorem State.preempt_queue {e : Entry} (he : e ∈ (s.preempt p v q).2.sched.queue) : e.playId ≠ v.id := by
  rw [State.preempt_eq] at he
  have := List.mem_filter.mp (State.haltPlay_queue v.id (.cut q.id) ▸ he)
  simpa using this.2

theorem State.haltPlay_tunes (i : Nat) (f : FixedOutcome) : (s.haltPlay i f).tunes = s.tunes := by unfold State.haltPlay; simp

theorem State.preempt_tunes : (s.preempt p v q).2.tunes = s.tunes := by
  rw [State.preempt_eq]; exact State.haltPlay_tunes ..

/-- A play that is cut with a drive keeps its player until the drive has ended. -/
theorem State.preempt_hangs (hs : s.Settled) (hi : s.OwnId p v) (h0 : v.id ≠ 0) (hd : 0 < v.drives) : (s.preempt p v q).2.Settled := by
  obtain ⟨n, m, he⟩ := State.preempt_engine (q := q) hi h0
  refine hs.setPlayer he (by simp) (fun x hx => ?_) nofun (.inr rfl)
  cases hx
  exact if_neg (Nat.ne_of_gt hd)

/-- The state once the launched play has begun on the player of the play it cut. -/
def State.replaced (s : State) (p : PlayerNo) (v q : Play) : State :=
  ((s.preempt p v q).2.endPlay p (.cut q.id)).startPlay p { q with state := .incoming }

theorem State.begun_incoming (q : Play) : s.begun { q with state := .incoming } = s.begun q := rfl

/-- The end of the play cut changes the Tune Store by its release. -/
theorem State.endPlay_sameCurrent (p : PlayerNo) (o : PlayOutcome) : s.SameCurrent (s.endPlay p o) := by
  unfold State.endPlay
  split
  · next x _ =>
    refine State.SameCurrent.trans (u := s.setPlayer p { s.player p with play := none }) (State.SameCurrent.of_tunes rfl)
      (State.SameCurrent.released x.kind ?_)
    unfold State.finish
    rw [State.report_only]
  · exact State.SameCurrent.refl s

theorem State.cut_sameCurrent : s.SameCurrent ((s.preempt p v q).2.endPlay p (.cut q.id)) :=
  (State.SameCurrent.of_tunes State.preempt_tunes).trans (State.endPlay_sameCurrent p (.cut q.id))

theorem State.replaced_eq (h : s.HasTune q) : s.replaced p v q = { (s.preempt p v q).2.endPlay p (.cut q.id) with
    engine := ((s.preempt p v q).2.endPlay p (.cut q.id)).engine.setPlayer p { play := some (s.begun q), incoming := none }
    tunes := ((s.preempt p v q).2.endPlay p (.cut q.id)).tunes.taken q.kind } := by
  have same := State.cut_sameCurrent (s := s) (p := p) (v := v) (q := q)
  unfold State.replaced
  rw [State.startPlay_begins (same.hasTune (q := { q with state := .incoming }) h), same.begun (by simp), State.begun_incoming]

theorem State.replaced_engine (h : s.HasTune q) (hi : s.OwnId p v) (h0 : v.id ≠ 0) :
    (s.replaced p v q).engine = s.engine.setPlayer p { play := some (s.begun q), incoming := none } := by
  obtain ⟨n, m, he⟩ := State.preempt_engine (q := q) hi h0
  rw [State.replaced_eq h]
  show (State.endPlay _ _ _).engine.setPlayer p _ = _
  rw [State.endPlay_engine, he, PlayEngine.setPlayer_setPlayer, PlayEngine.setPlayer_setPlayer]

/-- A play that is cut without a drive ends at once, and the launched one begins. -/
theorem State.preempt_settles (hs : s.Settled) (hf : q.fixed = none) (ht : s.HasTune q) (hi : s.OwnId p v) (h0 : v.id ≠ 0) (hd : v.drives = 0)
    (hn : ∃ note, s.nextNote (s.begun q) = some note ∧ 2000 < note.2.1 - s.timer.ms) : (s.preempt p v q).2.settle = s.replaced p v q := by
  obtain ⟨n, m, he⟩ := State.preempt_engine (q := q) hi h0
  have player : (s.preempt p v q).2.player p = { play := some (v.halted (.cut q.id) n m), incoming := some { q with state := .incoming } } := by
    rw [State.player, he, PlayEngine.player_setPlayer_self]
  have other : (s.preempt p v q).2.player (otherPlayer p) = s.player (otherPlayer p) := by
    rw [State.player, he, PlayEngine.player_setPlayer_ne _ (ne_otherPlayer p)]; rfl
  have ends : (s.preempt p v q).2.ending = some (p, .cut q.id) := State.ending_only (x := v.halted (.cut q.id) n m) (by rw [player]) (if_pos hd)
    fun x hx => by rw [other] at hx; exact State.ending_none_iff.mp hs.ending (otherPlayer p) x hx
  have after : ((s.preempt p v q).2.endPlay p (.cut q.id)).engine = s.engine.setPlayer p { play := none, incoming := some { q with state := .incoming } } := by
    rw [State.endPlay_engine, player, he, PlayEngine.setPlayer_setPlayer]
  have player' : ((s.preempt p v q).2.endPlay p (.cut q.id)).player p = { play := none, incoming := some { q with state := .incoming } } := by
    rw [State.player, after, PlayEngine.player_setPlayer_self]
  have other' : ((s.preempt p v q).2.endPlay p (.cut q.id)).player (otherPlayer p) = s.player (otherPlayer p) := by
    rw [State.player, after, PlayEngine.player_setPlayer_ne _ (ne_otherPlayer p)]; rfl
  have idle : ((s.preempt p v q).2.endPlay p (.cut q.id)).ending = none := State.ending_none_iff.mpr fun p' x hx => by
    by_cases k : p' = p
    · subst k; rw [player'] at hx; cases hx
    · have : p' = (otherPlayer p) := eq_otherPlayer k
      subst this
      rw [other'] at hx
      exact State.ending_none_iff.mp hs.ending _ x hx
  have ready : ((s.preempt p v q).2.endPlay p (.cut q.id)).incomingReady = some (p, { q with state := .incoming }) :=
    State.incomingReady_only (by rw [player']) (by rw [player']) (by rw [other']; exact State.incomingReady_none_iff.mp hs.incoming (otherPlayer p))
  have engine := State.replaced_engine ht hi h0
  have timer : (s.replaced p v q).timer = s.timer := by unfold State.replaced; simp
  have settled : (s.replaced p v q).Settled := by
    refine hs.setPlayer engine (by unfold State.replaced; simp) (fun x hx => ?_) nofun (.inr rfl)
    cases hx
    exact State.begun_stays q hf
  have same : s.SameCurrent (s.replaced p v q) := State.cut_sameCurrent.trans (State.SameCurrent.taken q.kind (by rw [State.replaced_eq ht]))
  show State.settleFrom (65532 + 2 + 1 + 1) [] (s.preempt p v q).2 = _
  rw [State.settleFrom_ends ends, State.settleFrom_begins idle ready]
  refine State.settleFrom_beyond settled (fun x hx => ?_) 65532
  rw [State.player, engine, PlayEngine.player_setPlayer_self] at hx
  cases hx
  obtain ⟨note, h1, h2⟩ := hn
  exact ⟨note, (same.nextNote ht).trans h1, by rw [timer]; exact h2⟩

end

end Sys2Proof.Machine

/-! ### Proofs: the outcomes of PLAY NOW (O44) -/

namespace Sys2Proof.Machine

open Sys2Proof

variable {s : State}

/-! #### A launch that begins, and one that waits -/

/-- A launch on a free player begins there, and offers no note that lies beyond the horizon. -/
theorem State.launch_begins (hs : s.Settled) {l : Launch} {p : PlayerNo} (hf : s.freePlayer = some p) (ht : s.HasTune (s.newPlay l)) {t : State}
    (he : t = { s.given (s.newPlay l) with
      engine := (s.given (s.newPlay l)).engine.setPlayer p { play := some (s.begun (s.newPlay l)), incoming := none }
      tunes := s.tunes.taken (s.newPlay l).kind })
    (hn : ∃ note, t.nextNote (s.begun (s.newPlay l)) = some note ∧ 2000 < note.2.1 - s.timer.ms) :
    s.launch l = ((s.newPlay l).id, (s.newPlay l).s0, .started, t) := by
  have starts : (s.given (s.newPlay l)).startPlay p (s.newPlay l) = t :=
    (State.startPlay_begins (s := s.given (s.newPlay l)) ht p).trans he.symm
  have settled : t.Settled := by
    refine (hs.given (s.newPlay l)).setPlayer (p := p) (y := { play := some (s.begun (s.newPlay l)), incoming := none }) (by rw [he]) (by rw [he])
      (fun x hx => ?_) nofun (.inr rfl)
    cases hx
    exact State.begun_stays _ rfl
  rw [State.launch_free hf, starts, State.settleWith_beyond settled]
  intro x hx
  have player : t.player p = { play := some (s.begun (s.newPlay l)), incoming := none } := by
    rw [he, State.player, PlayEngine.player_setPlayer_self]
  rw [player] at hx
  cases hx
  obtain ⟨note, h1, h2⟩ := hn
  exact ⟨note, h1, by rw [he]; exact h2⟩

section

variable {q : Play}

theorem State.enqueue_room (h : s.engine.waiting.length < 8) : s.enqueue q = (.pending, s.setWaiting (placePlay q s.engine.waiting)) := if_pos h

theorem State.enqueue_full (h : 8 ≤ s.engine.waiting.length) {k : Play} (hk : weakest s.engine.waiting = some k) : s.enqueue q =
    if k.priority < q.priority then
      (.pending, (s.setWaiting (placePlay q (s.engine.waiting.filter fun x => decide (x.id ≠ k.id)))).finish k (.missed .queueFull))
    else (.missedFull, s.finish q (.missed .queueFull)) := by
  unfold State.enqueue
  refine (if_neg (Nat.not_lt.mpr h)).trans ?_
  rw [hk]

end

/-! #### The request -/

theorem ownPlayNow_refused {w : PlayNowWire} {o : PlayOrder} (ho : playOrderOf w = some o) : ownPlayNow w s =
    if s.ctl.mode ≠ .active then (.wrongMode, .nothing, s)
    else if !s.clock.valid then (.clockInvalid, .nothing, s)
    else if o.kind = .tune ∧ s.tunes.slots[o.tune].current = none then (.notFound, .nothing, s)
    else
      (.ok, .playNow (s.launch (s.playNowLaunch o)).1 (s.playNowLaunch o).due (s.launch (s.playNowLaunch o)).2.1
        (s.launch (s.playNowLaunch o)).2.2.1, (s.launch (s.playNowLaunch o)).2.2.2) := by
  unfold ownPlayNow
  rw [ho]
  rfl

theorem State.newPlay_hasTune {o : PlayOrder} (h : ¬ (o.kind = .tune ∧ s.tunes.slots[o.tune].current = none)) :
    s.HasTune (s.newPlay (s.playNowLaunch o)) := by
  intro t n hk
  cases ho : o.kind with
  | tune =>
    have hl : (s.newPlay (s.playNowLaunch o)).kind = .tune o.tune none := by rw [State.playNowLaunch_tune ho]; rfl
    cases hl.symm.trans hk
    exact Option.ne_none_iff_exists'.mp fun k => h ⟨ho, k⟩
  | toll =>
    rw [State.playNowLaunch_toll ho] at hk
    cases hk

/-- Settles O44. -/
theorem playNowLaunchesAPlay : Obligations.PlayNowLaunchesAPlay := by
  intro tag w s h
  refine ⟨fun hn => takeRequest_owned h (by unfold ownPlayNow; rw [hn]) .., fun o ho => ?_⟩
  intro missing due anchor s0 q given
  have own := ownPlayNow_refused (s := s) ho
  refine ⟨fun hm => takeRequest_owned h (own.trans (if_pos hm)) ..,
    fun hm hv => takeRequest_owned h (own.trans ((if_neg (not_not.mpr hm)).trans (if_pos (by rw [hv]; rfl)))) ..,
    fun hm hv hmiss => takeRequest_owned h (own.trans ((if_neg (not_not.mpr hm)).trans ((if_neg (by rw [hv]; decide)).trans (if_pos hmiss)))) ..,
    fun hm hv hmiss => ?_⟩
  obtain ⟨ldue, lpriority, llate, lunstarted⟩ := State.playNowLaunch_eq (s := s) o
  have qanchor : q.anchorOffset = anchor := by
    show (s.playNowLaunch o).anchorOffset = anchor
    cases hk : o.kind with
    | tune => rw [State.playNowLaunch_tune hk]; simp only [anchor, hk]
    | toll => rw [State.playNowLaunch_toll hk]; simp only [anchor, hk]
  have qs0 : q.s0 = s0 := by
    show (s.timer.ms : Int) + (((s.playNowLaunch o).due : Int) - s.clock.wall) - (s.playNowLaunch o).anchorOffset = s.timer.ms + o.delay * 1000 - anchor
    rw [ldue, show (s.playNowLaunch o).anchorOffset = anchor from qanchor]
    omega
  have tune : s.HasTune q := State.newPlay_hasTune hmiss
  have run {place : LaunchPlace} {t : State} (hl : s.launch (s.playNowLaunch o) = (q.id, q.s0, place, t)) :
      exec (.playNow tag w) s = .next (t.answered 0x1C tag .ok (.playNow s.nextId due s0 place)) := by
    refine takeRequest_owned h (own.trans ((if_neg (not_not.mpr hm)).trans ((if_neg (by rw [hv]; decide)).trans ((if_neg hmiss).trans ?_)))) ..
    rw [hl, ldue, qs0]
    rfl
  refine ⟨ldue, qs0, qanchor, lpriority, llate, rfl, rfl, ?_, fun p hf => ⟨?_, fun hs => ?_⟩, fun hf hs hcand => ?_,
    fun p v hf hs plays law hvic hlt hd hnote => ?_, fun p v hf hs law hvic hlt hd => ?_⟩
  · have counters := State.launch_counters (s := s) (s.playNowLaunch o)
    have ids : s.launch (s.playNowLaunch o) = (q.id, q.s0, (s.launch (s.playNowLaunch o)).2.2) := by
      cases hf : s.freePlayer with
      | some p => rw [State.launch_free hf]
      | none =>
        by_cases hp : ∃ p v, s.victim = some (p, v) ∧ v.priority < (s.playNowLaunch o).priority
        · obtain ⟨p, v, hv, hlt⟩ := hp
          rw [State.launch_preempts hf hv hlt]
        · rw [State.launch_waits hf fun p v hv => Nat.not_lt.mp fun k => hp ⟨p, v, hv, k⟩]
    exact ⟨_, _, run ids, congrArg Prod.fst counters, congrArg Prod.snd counters, State.launch_frame (s := s) (s.playNowLaunch o)⟩
  · exact ⟨_, run (State.launch_free hf)⟩
  · intro held begun hnote
    have hheld : held = s.tunes.taken q.kind := by
      show held = s.tunes.taken (s.playNowLaunch o).kind
      cases hk : o.kind with
      | tune => rw [State.playNowLaunch_tune hk]; simp only [held, hk]; rfl
      | toll => rw [State.playNowLaunch_toll hk]; simp only [held, hk]; rfl
    exact run (State.launch_begins hs hf tune (by show begun = _; simp only [begun, hheld]; rfl) hnote)
  · have waits : s.launch (s.playNowLaunch o) = (q.id, q.s0, (given.enqueue q).1, (given.enqueue q).2.settle) :=
      State.launch_waits hf fun p v hv => lpriority ▸ hcand p v (State.victim_candidate hv)
    have settled {u : State} {x : List Play} (he : u.engine = { given.engine with waiting := x }) (hc : u.ctl = s.ctl) : u.settle = u :=
      State.settle_settled ((hs.given q).setWaiting he hc (.inr hf))
    have wait {place : LaunchPlace} {u : State} (e : given.enqueue q = (place, u)) (hu : u.settle = u) :
        s.launch (s.playNowLaunch o) = (q.id, q.s0, place, u) := by
      rw [waits, e]
      exact congrArg (fun u => (q.id, q.s0, place, u)) hu
    have priority : q.priority = o.priority := lpriority
    refine ⟨fun hroom => run (wait (State.enqueue_room hroom) (settled rfl rfl)), fun hfull k hk hu => ⟨fun hlt => run (wait ?_
        (settled (x := placePlay q (s.engine.waiting.filter fun x => decide (x.id ≠ k.id))) ?_ ?_)),
      fun hle => run (wait ?_ (settled (x := given.engine.waiting) ?_ ?_))⟩⟩
    · refine (State.enqueue_full (s := given) (q := q) hfull hk).trans ((if_pos (by rw [priority]; exact hlt)).trans ?_)
      rw [State.finish_unstarted hu]
      rfl
    · rw [State.report_only]
    · rw [State.report_only]
    · refine (State.enqueue_full (s := given) (q := q) hfull hk).trans ((if_neg (by rw [priority]; exact Nat.not_lt.mpr hle)).trans ?_)
      rw [State.finish_unstarted (q := q) lunstarted]
    · rw [State.report_only]
    · rw [State.report_only]
  all_goals
    obtain ⟨hplay, -, -⟩ := State.victim_eq hvic
    have hi := law.ownId hplay
    have h0 : v.id ≠ 0 := Nat.ne_of_gt (law.range v (State.mem_playRecords_of_play hplay)).1
    have cuts := State.launch_preempts (l := s.playNowLaunch o) hf hvic (lpriority ▸ hlt)
  · have settles := State.preempt_settles (s := given) (hs.given q) (q := q) rfl tune (hi.given q) h0 hd hnote
    have engine := State.replaced_engine (s := given) (q := q) tune (hi.given q) h0
    have sched : (given.replaced p v q).sched = (given.preempt p v q).2.sched := by unfold State.replaced; simp
    have player : (given.replaced p v q).player p = { play := some (s.begun q), incoming := none } := by
      rw [State.player, engine, PlayEngine.player_setPlayer_self]; rfl
    have fresh : q.id ≠ v.id := fun k => State.nextId_free (s := s) plays.bounded
      (List.mem_append_left _ (List.mem_map.mpr ⟨v, State.mem_playRecords_of_play hplay, k.symm⟩))
    refine ⟨given.replaced p v q, run (cuts.trans ?_), player, fun x hx => ?_, fun e he => State.preempt_queue (s := given) (p := p) (q := q) (by rwa [sched] at he)⟩
    · refine Prod.ext rfl (Prod.ext rfl (Prod.ext (if_pos hd) settles))
    · have others (p' : PlayerNo) (k : p' ≠ p) : (given.replaced p v q).player p' = s.player p' := by
        rw [State.player, engine, PlayEngine.player_setPlayer_ne _ (Ne.symm k)]; cases p' <;> rfl
      have waiting : (given.replaced p v q).engine.waiting = s.engine.waiting := by rw [engine]; cases p <;> rfl
      rcases State.mem_playRecords.mp hx with ⟨p', k⟩ | ⟨p', k⟩ | k
      · by_cases hp : p' = p
        · subst hp; rw [player] at k; cases k; exact fresh
        · rw [others p' hp] at k; exact hi.other p' hp x k
      · by_cases hp : p' = p
        · subst hp; rw [player] at k; cases k
        · rw [others p' hp] at k; exact hi.incoming p' x k
      · rw [waiting] at k; exact hi.waiting x k
  · have settles := State.settle_settled (State.preempt_hangs (q := q) (hs.given q) (hi.given q) h0 hd)
    obtain ⟨n, m, engine⟩ := State.preempt_engine (q := q) (hi.given q) h0
    have player : (given.preempt p v q).2.player p = { play := some (v.halted (.cut q.id) n m), incoming := some { q with state := .incoming } } := by
      rw [State.player]
      exact (congrArg (fun e : PlayEngine => e.player p) engine).trans (PlayEngine.player_setPlayer_self ..)
    refine ⟨(given.preempt p v q).2, run (cuts.trans (Prod.ext rfl (Prod.ext rfl (Prod.ext (if_neg (Nat.ne_of_gt hd)) settles)))), by rw [player],
      ⟨v.halted (.cut q.id) n m, by rw [player], rfl, rfl, rfl, rfl⟩, fun e he => State.preempt_queue he⟩

end Sys2Proof.Machine
